-- ==== Sys2Proof/Word.lean ====
section
/-! DEFINITION. The plain word types of the model: a byte, and the little-endian reading and writing of byte
strings that R7 fixes for every integer of the dictionary, the JDP and the BAR windows. -/

namespace Sys2Proof

/-- One byte of a frame, of a ring or of the Hearth. -/
abbrev Byte := BitVec 8

/-- R7: the unsigned value of a little-endian byte string, least significant byte first. -/
def leNat : List Byte → Nat
  | [] => 0
  | b :: bs => b.toNat + 256 * leNat bs

/-- R7: the first `n` bytes of a number, least significant byte first. -/
def leBytes : Nat → Nat → List Byte
  | 0, _ => []
  | n + 1, v => BitVec.ofNat 8 v :: leBytes n (v / 256)

/-- The most significant byte first, as a key (R134) or a tag (R414) is held. -/
def beBytes (n v : Nat) : List Byte := (leBytes n v).reverse

/-- The value of a byte string whose most significant byte comes first. -/
def beNat (bs : List Byte) : Nat := leNat bs.reverse

/-- Bit `i` of a number. -/
def bitOf (v i : Nat) : Bool := (v / 2 ^ i) % 2 == 1

/-- Bits `[hi:lo]` of a number, as R6 writes bit ranges. -/
def bitsOf (v hi lo : Nat) : Nat := (v / 2 ^ lo) % 2 ^ (hi + 1 - lo)

/-- The quotient rounded up. -/
def ceilDiv (a b : Nat) : Nat := (a + b - 1) / b

end Sys2Proof
end

