-- ==== Sys2Proof/Syntax.lean ====
section
/-! DEFINITION. The commands of the hub: one constructor of `Instr` for each row of spec/opcode_table.json, with the
operands that what arrives carries. Every operand is plain data. -/

namespace Sys2Proof

/-- R57: the seven carrier contexts. -/
inductive Ctx where
  | can | udp | usb | bar0 | bar2 | tyvel | supervisor
deriving DecidableEq, Repr, Inhabited

/-- Where a dictionary access comes from: its carrier context, and whether it arrived as an application message
inside an SPDM session (R435, R432, R450). -/
structure Src where
  ctx : Ctx
  session : Bool := false
deriving DecidableEq, Repr, Inhabited

/-- R73: the far end of a JDP transfer: its carrier, and on UDP its IP address, its port and the MAC it came in by. -/
structure Peer where
  ctx : Ctx
  ip : Nat := 0
  udpPort : Nat := 0
  mac : Nat := 0
  /-- R435: the PDU is the application data of the SPDM session of that carrier -/
  session : Bool := false
deriving DecidableEq, Repr, Inhabited

/-- R74, R75: a JDP protocol data unit, its identifier in fields. `fd` is 0 for a classic CAN frame or one with an
11-bit identifier (R72). -/
structure Pdu where
  func : Nat
  source : Nat
  dest : Nat
  seq : Nat
  segment : Nat
  data : List Byte
  fd : Bool := true
deriving DecidableEq, Repr, Inhabited

/-- R73: what identifies a transfer: carrier (with the UDP address), client node and sequence number. -/
structure TransferId where
  peer : Peer
  node : Nat
  seq : Nat
deriving DecidableEq, Repr, Inhabited

/-- R137, R135: what kind of headers a frame carries. -/
inductive HdrKind where
  | eth | ipv4 | ipv6 | usb4 | pcieAddr | pcieId | pcieMsg | internal
deriving DecidableEq, Repr, Inhabited

/-- Table 8.2: the header fields that a lookup key can be built from. A field the frame does not carry is 0. -/
structure Headers where
  kind : HdrKind := .eth
  tci : Option Nat := none          -- outer VLAN tag
  innerTci : Option Nat := none     -- inner VLAN tag
  dst : Nat := 0
  src : Nat := 0
  etherType : Nat := 0
  dscpEcn : Nat := 0
  proto : Nat := 0
  /-- of an IPv6 frame with extension headers, the protocol that follows them, where it is not `proto` -/
  upper : Option Nat := none
  ipSrc : Nat := 0
  ipDst : Nat := 0
  sport : Nat := 0
  dport : Nat := 0
  flowLabel : Nat := 0
  fragment : Bool := false          -- a fragment other than the first
  options : Bool := false
  adapter : Nat := 0
  hopId : Nat := 0
  pdf : Nat := 0
  requester : Nat := 0
  fmtType : Nat := 0
  tc : Nat := 0
  address : Nat := 0
  destId : Nat := 0
  sourceUnit : Nat := 0
  stream : Nat := 0
  /-- PCI Express: the tag, the length in units of 4 bytes, the byte enables, and of a completion its status and byte count -/
  tag : Nat := 0
  lenDw : Nat := 0
  byteEn : Nat := 0xFF
  status : Nat := 0
  byteCount : Nat := 0
deriving DecidableEq, Repr, Inhabited

/-- R146: the three colours. -/
inductive Colour where
  | green | yellow | red
deriving DecidableEq, Repr, Inhabited

/-- R414: a protection tag that F1 has recognised. -/
structure Tag where
  version : Nat
  stream : Nat
  seq : Nat
deriving DecidableEq, Repr, Inhabited

/-- R198: a TLP that the packets of a PCIe tunnel carry: its length in bytes, its header and its data. -/
structure Tlp where
  len : Nat
  hdr : Headers
  bytes : List Byte := []
deriving DecidableEq, Repr, Inhabited

/-- IEEE 802.1AE: what a received SecTAG says (association number, PN, the SCI when it carries one), and whether the ICV held. -/
structure SecTag where
  an : Nat
  pn : Nat
  sci : Option (List Byte) := none
  icvOk : Bool := true
deriving DecidableEq, Repr, Inhabited

/-- R225, IEEE 802.1AS: a gPTP Announce message: its domain, and the priority vector that best master selection compares, PRIORITY1
first and smaller better. -/
structure Announce where
  domain : Nat
  vector : List Nat
deriving DecidableEq, Repr, Inhabited

/-- R308: the AUX transactions of the host on a DP OUT adapter. -/
inductive AuxKind where
  | nativeRead (addr : Nat) | nativeWrite | i2c (port : Nat) | remoteDpcd (port : Nat) | remoteI2c (port : Nat)
deriving DecidableEq, Repr, Inhabited

/-- A frame, tunnel packet or TLP as it is delivered to a Grate port: its length (R144), its headers, its bytes where
they matter to what receives it, the protection tag that F1 found, the internal colour of R147 and, where an attached unit steers
its own packets (R190, R223, R243, R318), the subscriber it names. -/
structure Frame where
  len : Nat
  hdr : Headers := {}
  bytes : List Byte := []
  tag : Option Tag := none
  colour : Colour := .green
  steer : Option Nat := none
  ptpEvent : Bool := false
  /-- R128: for the first and the second run of a push-out for this frame, the Grate ports whose release decisions are granted
  between the selection of victims and their removal -/
  races : List (List Nat) := []
  /-- R198: the TLP of which this tunnel packet brings the last bytes -/
  tlp : Option Tlp := none
  /-- R414: the eight bytes that stand where a protection tag does, after the source address, as they came -/
  tagBytes : List Byte := []
  /-- R202: the tunnel packet's header does not check -/
  badHeader : Bool := false
  /-- R246, R195: the hub's own marks, which it sets itself: the link port of the switch whose credit the TLP holds, and the path
  (port * 64 + position) on which the packet was received -/
  credit : Option Nat := none
  path : Option Nat := none
  /-- R225: the frame is a gPTP Announce message -/
  announce : Option Announce := none
  /-- R305: on a DisplayPort tunnel, the stream of the adapter whose data the packet brings -/
  dpStream : Nat := 0
  /-- R197: on a DisplayPort tunnel, the AUX transaction of the host that the packet brings, in place of data of a stream -/
  aux : Option AuxKind := none
  /-- R318: on USB 3.2, the hub port for which the packet is: 0 is upstream, or the hub itself -/
  route : Nat := 0
deriving DecidableEq, Repr, Inhabited

/-- R97: one error that a read finds in a quarter of the word of bank `bank` of group `group` at row `row`, with the
number of wrong bits. `miscorrect` is what the code does with three or more (the hub promises nothing). -/
structure EccError where
  group : Nat
  bank : Nat
  row : Nat
  bits : Nat
deriving DecidableEq, Repr, Inhabited

/-- What a Grate step meets besides the schedule: ECC errors of its reads (R97) and outputs whose next delivered cell
carries a wrong sequence number (R122). -/
structure StepFaults where
  ecc : List EccError := []
  seqBad : List Nat := []
deriving DecidableEq, Repr, Inhabited

/-- R91, R443: a request of a port B master: its unit number, a read or a write, the byte address and the words. (DEDUCED, log 45) -/
structure PortBRequest where
  master : Nat
  write : Bool
  addr : Nat
  words : Nat
  data : List Byte := []
  ecc : List EccError := []
  /-- words (numbered from the request's first) at which a port A write to the same word meets this one (R95) -/
  meets : List Nat := []
deriving DecidableEq, Repr, Inhabited

/-- R22, R30: a fault of a unit, or one that the unit finds in the shared logic of its cluster, or in the power domain of that. -/
structure UnitFaultReport where
  unit : Nat
  cluster : Bool
  domain : Bool := false
deriving DecidableEq, Repr, Inhabited

/-- R131: why a Grate port is down. -/
inductive DownCause where
  | disabled | linkLoss | quarantine
deriving DecidableEq, Repr, Inhabited

/-- The parts of router configuration space that a write can meet (Table 10.3). -/
inductive CfgPart where
  | routerBasic | laneAdapter | path | protocolAdapter | bandwidthMode | timeManagement | adapterCounters
  | vendorCapability | nvmOperation | dpInAdapter | interDomain
deriving DecidableEq, Repr, Inhabited

/-- R188, R189: what a USB4 path entry names. -/
structure PathSpec where
  inAdapter : Nat
  inHop : Nat
  outAdapter : Nat
  outHop : Nat
  priority : Nat
  weight : Nat
  flowControlled : Bool
  credits : Nat
  /-- a main-link path in DisplayPort bandwidth allocation mode (R206) -/
  bandwidthMode : Bool := false
deriving DecidableEq, Repr, Inhabited

/-- R200: the lane of a link that keeps lock, and the rate at which it goes on. -/
structure KeptLane where
  lane : Nat
  rate : Nat
deriving DecidableEq, Repr, Inhabited

/-- R182, R200: a link's mode and how many lanes it uses. -/
structure LinkShape where
  mode : Nat
  lanes : Nat
deriving DecidableEq, Repr, Inhabited

/-- R197: one of the tunnels at a DP OUT adapter. -/
structure DpTunnel where
  adapter : Nat
  number : Nat
deriving DecidableEq, Repr, Inhabited

/-- R199: pin assignment C or D of the alternate mode, and the rate of a DisplayPort lane in kbit/s. -/
structure AltPins where
  pinC : Bool
  rate : Nat
deriving DecidableEq, Repr, Inhabited

/-- R511: one 16-byte descriptor as the host writes it: buffer or frame address, and a length. -/
structure NicDesc where
  addr : Nat
  len : Nat
  status : Nat := 0
  frameLen : Nat := 0
  /-- the frame that lies at a transmit descriptor's address (host memory is outside the hub) -/
  frame : Option Frame := none
deriving DecidableEq, Repr, Inhabited

/-- R508: the other registers of a ring that the host writes ahead of its TAIL, each where it was written. (DESIGN CHOICE, log 3) -/
structure RingSetup where
  baseLo : Option Nat := none
  baseHi : Option Nat := none
  size : Option Nat := none
  control : Option Nat := none
  /-- descriptors the host placed in its ring in memory, by index -/
  descs : List (Nat × NicDesc) := []
deriving DecidableEq, Repr, Inhabited

/-- R88: what the host wrote in BAR 2 ahead of a producer or consumer write. (DESIGN CHOICE, log 3) -/
structure MailboxSetup where
  control : Option Nat := none
  ring : List (Nat × Byte) := []
deriving DecidableEq, Repr, Inhabited

/-- R270: an ingest descriptor as the host writes it. -/
structure IngDesc where
  srcAddr : Nat := 0
  srcPitch : Nat := 0
  surface : Nat := 0
  plane : Nat := 0
  tileX0 : Nat := 0
  tileY0 : Nat := 0
  tilesW : Nat := 1
  tilesH : Nat := 1
  flags : Nat := 0
  status : Nat := 0
  deferred : Nat := 0
  refused : Nat := 0
deriving DecidableEq, Repr, Inhabited

/-- R227: the sources of network time, by the code of TIME_SOURCE. -/
inductive TimeSrc where
  | gptp | ptm | usb4
deriving DecidableEq, Repr, Inhabited

/-- R228: a measurement of a source: its offset in ns, and its rate in parts per billion; for gPTP, the MAC at which the Sync came. -/
structure TimeReading where
  offset : Int
  rate : Int
  mac : Option Nat := none
deriving DecidableEq, Repr, Inhabited

/-- R418: the active's network time, and the source that it follows. -/
structure TwinTime where
  value : Nat
  source : Nat
deriving DecidableEq, Repr, Inhabited

/-- R280, R97: a head starts a line; the ECC errors that its reads of the Hearth meet. -/
structure LineStart where
  head : Nat
  ecc : List EccError
deriving DecidableEq, Repr, Inhabited

/-- R361, R358: a receiver: a lane's own, or that of its transmit pair, which receives too. -/
structure LaneReceiver where
  lane : Nat
  second : Bool
deriving DecidableEq, Repr, Inhabited

/-- R311, R308: what a sink reports when it is read: the highest link rate in kbit/s per lane and the highest width, DSC, Adaptive-Sync,
and its colour capabilities as a number. -/
structure SinkCaps where
  maxRate : Nat
  maxLanes : Nat
  dsc : Bool := false
  adaptiveSync : Bool := false
  colour : Nat := 0
deriving DecidableEq, Repr, Inhabited

/-- R310, R306: what a passthrough stream's own main stream attributes state: its rate in kbit/s (compressed, of a DSC stream), whether it is
one, and the duration of a line in ns, with 0 for a stream whose attributes give none. R309: of a stream with Adaptive-Sync, the shortest and
the longest duration of a frame in ns. -/
structure StreamAttrs where
  rate : Nat
  compressed : Bool := false
  lineNs : Nat := 0
  adaptive : Option (Nat × Nat) := none
deriving DecidableEq, Repr, Inhabited

/-- R311: what a sink's interrupt vector says: a link status failure, and other interrupts. -/
structure IrqVector where
  linkFailure : Bool := false
  others : Bool := false
deriving DecidableEq, Repr, Inhabited

/-- R319, R320: a split transaction: device address, endpoint, whether it is periodic, and its data bytes. -/
structure Split where
  device : Nat
  endpoint : Nat
  periodic : Bool
  bytes : Nat
  /-- the microframe of a periodic start-split (R319) -/
  microframe : Nat := 0
deriving DecidableEq, Repr, Inhabited

/-- R332: a control write request that waits for the acknowledgement of its status stage. -/
inductive ControlRequest where
  | setAddress (a : Nat) | setConfiguration (c : Nat) | setPortFeature (port feature : Nat) | clearPortFeature (port feature : Nat)
  | setRemoteWake (on : Bool) | setInterface (alt : Nat)
deriving DecidableEq, Repr, Inhabited

/-- R332: the functions that take control requests: the two hubs and the device on port 8. -/
inductive UsbFunction where
  | hub2 | hub3 | device
deriving DecidableEq, Repr, Inhabited

/-- R332: a control write to a function, and whether a reset of that function was granted before the acknowledgement of its status
stage. -/
structure ControlWrite where
  target : UsbFunction
  request : ControlRequest
  overtaken : Bool := false
deriving DecidableEq, Repr, Inhabited

/-- R336: the PD revision that a partner speaks. -/
inductive PdRevision where
  | r20 | r30 | r32
deriving DecidableEq, Repr, Inhabited

/-- R336: a partner that attaches to a Type-C port. -/
structure PdPartner where
  port : Nat
  revision : PdRevision := .r32
deriving DecidableEq, Repr, Inhabited

/-- Table 18.3: the swaps. -/
inductive SwapKind where
  | prSwap | drSwap | vconnSwap
deriving DecidableEq, Repr, Inhabited

/-- R343: a partner's swap request. -/
inductive PartnerSwap where
  | pr (hubToSink : Bool) | dr (hubToUfp : Bool) | vconn
deriving DecidableEq, Repr, Inhabited

/-- R344: how the hub's own swap request ended: accepted or not by the partner, or met by the partner's own request, one of
the two granted first by the port's mutex; `reply` is the partner's answer to the hub's request, if that goes on. -/
inductive SwapAnswer where
  | accepted | rejected | crossed (partner : PartnerSwap) (ownFirst reply : Bool)
deriving DecidableEq, Repr, Inhabited

/-- Table 19.2: the power states of a transmitter or receiver, shallowest last. -/
inductive LaneState where
  | off | sleep | idle | active
deriving DecidableEq, Repr, Inhabited

/-- R378: what triggers a flare. -/
inductive FlareCause where
  | growth | highMark | underrun | lowLogicPace
deriving DecidableEq, Repr, Inhabited

/-- R388: the causes of a wake, in the order of DM_WAKE_CAUSE's codes 1 to 6. -/
inductive WakeCause where
  | grate | dictionary | pin | timer | request | allotment
deriving DecidableEq, Repr, Inhabited

/-- R392: the retained arrays of a domain that have a spare row of their own: the eight banks (0-7) and link memory
(8) of a group, or the one array of a P-die domain (9). -/
abbrev RetArray := Nat

/-- R399: one Tyvel lane block as it is received: the 272 PAM4 symbols of its 544 bits, each a level from 0 to 3, the first sent first. -/
structure LaneBlock where
  symbols : List Nat
deriving DecidableEq, Repr, Inhabited

/-- Table 22.3, R405: what every encrypted Tyvel frame brings besides its payload: its COUNTER and whether its tag held. (DESIGN CHOICE, log 10) -/
structure TyvelHdr where
  counter : Nat
  tagOk : Bool := true
deriving DecidableEq, Repr, Inhabited

/-- R412: one mirrored item: a write to a dictionary object (with the window position it acts on), or the records of
a surface's tile. -/
inductive MirrorItem where
  | write (idx sub pos : Nat) (value : List Byte)
  | record (surface plane tile : Nat) (bytes : List Byte)
deriving DecidableEq, Repr, Inhabited

/-- R410, Table 22.3: the content of a STATE frame. -/
structure TwinReport where
  pairing : Nat
  active : Bool
  season : Nat
  faults : Nat
  /-- as the standby: everything mirrored is applied, and its F2 ring is empty (Table 22.4) -/
  caughtUp : Bool := false
  /-- R419: what a hub has to know of its twin, of which the manual names no message: TW_LOCKSTEP_ALLOW, and of each output whose link runs
  its number, link rate and lanes -/
  allow : Bool := true
  links : List (Nat × Nat × Nat) := []
deriving DecidableEq, Repr, Inhabited

/-- R411: what the pairing exchange found out about the twin. (DESIGN CHOICE, log 10) -/
structure AttestResult where
  versions : List Nat      -- BOOT, ENGINE, PD_POLICY, SECURITY, DICTIONARY_LAYOUT
  side : Nat
  verified : Bool
  serial : List Byte
  secure : Bool
  enabled : Bool
  node : Nat
  /-- the exchange is not yet at its end (one SPDM message of several) -/
  last : Bool := true
deriving DecidableEq, Repr, Inhabited

/-- R437: the tamper inputs, in the bit order of Table 23.4. -/
inductive TamperInput where
  | mesh | voltage | temperature | light | tamperN
deriving DecidableEq, Repr, Inhabited

/-- R437: a condition of Table 23.4 begins to qualify its input, or has ended. -/
structure TamperChange where
  input : TamperInput
  ended : Bool := false
deriving DecidableEq, Repr, Inhabited

/-- R470, R471: an image as the flash or a block write holds it: the header's fields and what its checks yield. (DESIGN CHOICE, log 10) -/
structure Image where
  magicOk : Bool
  kind : Nat
  version : Nat
  length : Nat
  layout : Nat
  steppings : List Nat
  /-- the four TESTED lists, of kinds 1 to 4 -/
  tested : List (List Nat)
  digestOk : Bool
  signatureOk : Bool
  /-- the SHA-384 digest that its header holds -/
  digest : Nat := 0
deriving DecidableEq, Repr, Inhabited

/-- R468: the straps as the pins show them, and the tamper inputs whose conditions hold at a power-on or at RESET_N (R439). -/
structure Straps where
  twinSide : Nat
  nodeId : Nat
  bootMode : Nat
  tamper : List TamperInput := []
deriving DecidableEq, Repr, Inhabited

/-- R421, R407: why a hub demotes itself. -/
inductive DemotionCause where
  | lostHeadOrLane | tampered | planned
deriving DecidableEq, Repr, Inhabited

/-- R422: how a standby sees that the active has failed. -/
inductive TwinFault where
  | aliveLost | tokenRise
deriving DecidableEq, Repr, Inhabited

/-- R409: what the sideband showed of the token line around a claim. -/
structure ClaimView where
  /-- how long TWIN_TOKEN has read high without a break, in ns -/
  highNs : Nat
  /-- side B's sample after its release: the line reads high -/
  releasedHigh : Bool := true
  /-- the line went low once the hub drove it (R409) -/
  goesLow : Bool := true
deriving DecidableEq, Repr, Inhabited

/-- The commands. Each constructor is a row of spec/opcode_table.json, and its docstring names the row's rule. Those that carry
something stand first, each group in the table's order. (DESIGN CHOICE, log 3) -/
inductive Instr where
  /-- R44. -/
  | objectWrite (src : Src) (idx sub : Nat) (value : List Byte)
  /-- R56. -/
  | windowCommit (src : Src) (idx : Nat)
  /-- R56. -/
  | commitDiscard (src : Src) (idx : Nat)
  /-- R40. -/
  | flagClear (src : Src) (idx sub : Nat)
  /-- R54. -/
  | peakRestart (src : Src) (idx sub : Nat)
  /-- R63. -/
  | bar0Access (write : Bool) (offset size : Nat) (data : List Byte)
  /-- R64. -/
  | wideRead (offset : Nat)
  /-- R52. -/
  | store (src : Src) (key : Nat)
  /-- R53. -/
  | restoreDefaults (src : Src) (key : Nat)
  /-- R52. -/
  | storeDone (ok : Bool)
  /-- R29. -/
  | unitQuarantine (src : Src) (unit : Nat)
  /-- R29. -/
  | unitRelease (src : Src) (unit : Nat)
  /-- R479. -/
  | unitReset (src : Src) (unit : Nat)
  /-- R30, R22: a fault of a unit, or one that it finds in the domain or shared logic of its cluster. -/
  | unitFault (fault : UnitFaultReport)
  /-- R33. -/
  | regionUndervoltage (region : Nat)
  /-- R76. -/
  | readRequest (peer : Peer) (pdu : Pdu)
  /-- R78. -/
  | writeRequest (peer : Peer) (pdu : Pdu)
  /-- R77. -/
  | writeSegment (peer : Peer) (pdu : Pdu)
  /-- R79. -/
  | blockSegment (peer : Peer) (pdu : Pdu)
  /-- R80. -/
  | blockAcknowledgement (peer : Peer) (pdu : Pdu)
  /-- R78. -/
  | clientAbort (peer : Peer) (pdu : Pdu)
  /-- R81. -/
  | windowBulkRequest (peer : Peer) (pdu : Pdu)
  /-- R83. -/
  | heartbeatReceived (peer : Peer) (pdu : Pdu)
  /-- R85. -/
  | timeBroadcastReceived (peer : Peer) (pdu : Pdu)
  /-- R82. -/
  | segmentGapTimeout (tid : TransferId)
  /-- R80. -/
  | blockAckTimeout (tid : TransferId)
  /-- R84. -/
  | emergencyInhibit (ctx : Ctx)
  /-- R512. -/
  | udpDatagram (mac srcIp srcPort dstIp vlan : Nat) (bytes : List Byte)
  /-- R87. -/
  | arpRequest (mac target senderIp senderMac : Nat)
  /-- R512. -/
  | usbVendorTransfer (bytes : List Byte)
  /-- R89. -/
  | h2dProducer (setup : MailboxSetup) (value : Nat)
  /-- R89. -/
  | d2hConsumer (setup : MailboxSetup) (value : Nat)
  /-- R240. -/
  | functionReset (fn : Nat)
  /-- R15. -/
  | frameIngress (port : Nat) (frame : Frame)
  /-- R117. -/
  | grateStep (faults : StepFaults)
  /-- R97. -/
  | eccWriteBack (portB : Bool) (group : Nat)
  /-- R98. -/
  | patrolScrub (errors : List EccError)
  /-- R443. -/
  | portBRequest (req : PortBRequest)
  /-- R106. -/
  | auditStart (src : Src) (value : Nat)
  /-- R107. -/
  | reliefRowTake (group row : Nat)
  /-- R164. -/
  | releaseDecision (port : Nat)
  /-- R120. -/
  | frameRelease (port : Nat)
  /-- R172. -/
  | egressLaunch (port : Nat)
  /-- R171. -/
  | gateEntryAdvance (port : Nat)
  /-- R175. -/
  | configChange (src : Src) (value : Nat)
  /-- R175. -/
  | gateSwap (port : Nat)
  /-- R168. -/
  | subscriberCommit (src : Src)
  /-- R167. -/
  | shaperCommit (src : Src) (portWindow : Bool)
  /-- R131. -/
  | portEnable (src : Src) (port value : Nat)
  /-- R131. -/
  | portDown (port : Nat) (cause : DownCause)
  /-- R131. -/
  | portFlushDone (port : Nat)
  /-- R131. -/
  | portUp (port : Nat)
  /-- R149. -/
  | flowEntryCommit (src : Src) (wildcard : Bool)
  /-- R149. -/
  | multicastCommit (src : Src)
  /-- R148. -/
  | policerCommit (src : Src)
  /-- R136. -/
  | profileWrite (src : Src) (sub : Nat) (value : List Byte)
  /-- R186. -/
  | configSpaceWrite (part : CfgPart) (reg value : Nat)
  /-- R191. -/
  | pathEnable (path : PathSpec)
  /-- R192. -/
  | pathDisable (usbPort pos : Nat)
  /-- R194. -/
  | creditGrant (usbPort pos : Nat)
  /-- R196. -/
  | creditArrival (usbPort pos credits : Nat)
  /-- R200. -/
  | dnLinkLost (usbPort : Nat)
  /-- R182. -/
  | usb4LinkUp (usbPort mode lanes rxRate txRate : Nat)
  /-- R200. -/
  | linkNarrowing (usbPort : Nat) (kept : KeptLane)
  /-- R200. -/
  | asymmetricTransition (usbPort : Nat) (shape : LinkShape) (rxRate txRate : Nat)
  /-- R184. -/
  | usb4Fallback (usbPort gen : Nat)
  /-- R197. -/
  | bandwidthAllocationRequest (tunnel : DpTunnel) (rate : Nat)
  /-- R214. -/
  | allotmentPass (duration : Nat)
  /-- R212. -/
  | allotmentLimitWrite (src : Src) (sub value : Nat)
  /-- R219. -/
  | envelopeCommit (src : Src) (subscriber : Bool)
  /-- R221. -/
  | macRxFrame (mac : Nat) (frame : Frame) (fcsOk : Bool) (secTag : Option SecTag)
  /-- R221. -/
  | pauseFrame (mac quanta : Nat)
  /-- R221. -/
  | pauseExpiry (mac : Nat)
  /-- R221. -/
  | macLinkLost (mac : Nat)
  /-- R235. -/
  | macMode (src : Src) (mac value : Nat)
  /-- R232. -/
  | saCommit (src : Src) (mac : Nat)
  /-- R233. -/
  | msTxAn (src : Src) (mac value : Nat)
  /-- R511. -/
  | rxqTail (queue : Nat) (setup : RingSetup) (value : Nat)
  /-- R511. -/
  | txqTail (queue : Nat) (setup : RingSetup) (value : Nat)
  /-- R228. -/
  | timeOffsetMeasure (source : TimeSrc) (reading : TimeReading)
  /-- R227. -/
  | timeSourceLost (source : TimeSrc)
  /-- R227. -/
  | timeSourceTakeover (source : TimeSrc)
  /-- R230. -/
  | timePriority (src : Src) (value : Nat)
  /-- R244. -/
  | nvLinkUp (nv speed width : Nat)
  /-- R242. -/
  | nvRetrain (nv width : Nat)
  /-- R248. -/
  | nvRemoval (nv : Nat)
  /-- R247. -/
  | updateFc (port type limit : Nat)
  /-- R261. -/
  | surfaceCommit (src : Src)
  /-- R262. -/
  | ingControl (value : Nat)
  /-- R269. -/
  | ingProducer (descs : List (Nat × List Byte)) (value : Nat)
  /-- R258. -/
  | tileCode (surface plane tile : Nat) (samples : List Nat)
  /-- R271. -/
  | precodedRecord (surface plane tile pitch : Nat) (bytes : List Byte)
  /-- R263. -/
  | tileRetry (surface : Nat)
  /-- R267. -/
  | interlockResume (surface plane row : Nat)
  /-- R280. -/
  | headLineStart (start : LineStart)
  /-- R295. -/
  | layerUnderrun (head layer plane : Nat)
  /-- R282. -/
  | hPresent (src : Src) (head value : Nat)
  /-- R283. -/
  | hEnable (src : Src) (head value : Nat)
  /-- R283. -/
  | hTiming (src : Src) (head value : Nat)
  /-- R282. -/
  | hSyncMode (src : Src) (head value : Nat)
  /-- R281. -/
  | timingCommit (src : Src)
  /-- R302. -/
  | formatCommit (src : Src)
  /-- R297. -/
  | lSurface (src : Src) (head layer value : Nat)
  /-- R315. -/
  | slotCommit (src : Src)
  /-- R311. -/
  | hotPlug (output : Nat) (caps : SinkCaps)
  /-- R311. -/
  | trainingDone (output rate lanes : Nat)
  /-- R311. -/
  | hotUnplug (output : Nat)
  /-- R311. -/
  | hpdIrq (output : Nat) (vector : IrqVector)
  /-- R312. -/
  | relink (output rate : Nat)
  /-- R308. -/
  | auxRequest (adapter : Nat) (kind : AuxKind)
  /-- R311. -/
  | auxTimeout (output : Nat)
  /-- R310. -/
  | streamStarved (slot : Nat)
  /-- R310. -/
  | streamResume (slot : Nat)
  /-- R310. -/
  | streamHoldExpiry (slot : Nat)
  /-- R320. -/
  | startSplit (port : Nat) (split : Split)
  /-- R322. -/
  | completeSplit (port : Nat) (split : Split)
  /-- R322. -/
  | clearTtBuffer (port device endpoint : Nat)
  /-- R331. -/
  | usbPortReset (usb3 : Bool) (port : Nat)
  /-- R332. -/
  | controlStatusAck (request : ControlWrite)
  /-- R327. -/
  | setInterface (alternate : Nat)
  /-- R327. -/
  | telemetryMicroframe (inToken : Bool)
  /-- R323. -/
  | carveOutCommit (src : Src)
  /-- R329. -/
  | remoteWake (port : Nat)
  /-- R330. -/
  | u3Exit (port : Nat) (fromHost : Bool)
  /-- R336. -/
  | pdAttach (partner : PdPartner)
  /-- R336. -/
  | pdDetach (port : Nat)
  /-- R342. -/
  | pdRequest (port mv ma : Nat)
  /-- R338. -/
  | contractPsRdy (port : Nat)
  /-- R342. -/
  | cutTimeout (port : Nat)
  /-- R340. -/
  | pbWrite (src : Src) (idx sub value : Nat)
  /-- R343. -/
  | prSwap (port : Nat) (hubToSink : Bool)
  /-- R343. -/
  | drSwap (port : Nat) (hubToUfp : Bool)
  /-- R343. -/
  | vconnSwap (port : Nat)
  /-- R344. -/
  | swapSend (port : Nat) (kind : SwapKind) (answer : SwapAnswer)
  /-- R345. -/
  | hardReset (port : Nat) (byPartner : Bool)
  /-- R346. -/
  | vbusSafe0V (port : Nat)
  /-- R350. -/
  | ioutReading (ma : Nat)
  /-- R352. -/
  | prSwapRetry (accepted : Bool)
  /-- R354. -/
  | stageFault (ports : List Nat)
  /-- R360. -/
  | txFfeWrite (src : Src) (lane : Nat) (value : List Byte)
  /-- R360. -/
  | ffeRampStep (lane : Nat)
  /-- R361. -/
  | dfeAdaptStep (receiver : LaneReceiver) (moves : List Int)
  /-- R361. -/
  | ctleAdaptStep (receiver : LaneReceiver) (move : Int)
  /-- R361. -/
  | rxAdapt (src : Src) (lane value : Nat)
  /-- R362. -/
  | eyeScanDone (lane : Nat) (margins : Nat × Nat) (second : Option (Nat × Nat))
  /-- R364. -/
  | laneSleepRequest (lane : Nat) (rx : Bool) (state : LaneState)
  /-- R365. -/
  | laneExit (lane : Nat) (rx : Bool)
  /-- R366. -/
  | lnEnable (src : Src) (lane value : Nat)
  /-- R367. -/
  | lnLoop (src : Src) (lane value : Nat)
  /-- R368. -/
  | prbsTx (src : Src) (lane value : Nat)
  /-- R368. -/
  | prbsRx (src : Src) (lane value : Nat)
  /-- R368. -/
  | prbsInject (src : Src) (lane value : Nat)
  /-- R369. -/
  | laneLockLost (lane : Nat)
  /-- R369. -/
  | reacquireTimeout (lane : Nat)
  /-- R369. -/
  | laneRelock (lane : Nat)
  /-- R372. -/
  | paceReading (bank logic : Nat) (tj : Int) (trusted : Bool)
  /-- R378. -/
  | flare (cause : FlareCause)
  /-- R386. -/
  | emberEntry (domain : Nat)
  /-- R385. -/
  | offEntry (domain : Nat)
  /-- R42. -/
  | dmRequestSleep (src : Src) (domain : Nat)
  /-- R388. -/
  | dmRequestWake (src : Src) (domain : Nat)
  /-- R388. -/
  | dmWakeTimer (domain : Nat)
  /-- R389. -/
  | domainWake (domain : Nat) (cause : WakeCause) (failed : List RetArray) (duration : Nat)
  /-- R391. -/
  | railRelease (rail : Nat)
  /-- R391. -/
  | railPowerGood (rail : Nat)
  /-- R391. -/
  | railTimeout (rail : Nat)
  /-- R400. -/
  | tyvelLaneBlock (blocks : List (Option LaneBlock))
  /-- R406. -/
  | train (lane laneNumber : Nat) (ffe : List Byte)
  /-- R406. -/
  | tyvelLinkUp (lanes : List Nat)
  /-- R406. -/
  | tyvelLaneRejoin (lane : Nat)
  /-- R411. -/
  | attest (result : AttestResult)
  /-- R404. -/
  | mgmt (hdr : TyvelHdr) (pdu : Pdu)
  /-- R403. -/
  | mirror (hdr : TyvelHdr) (seq : Nat) (item : MirrorItem)
  /-- R403. -/
  | mirrorAck (hdr : TyvelHdr) (seq : Nat)
  /-- R415. -/
  | protectedFrame (hdr : TyvelHdr) (stream seq pos : Nat) (frame : Frame)
  /-- R417. -/
  | tileRecords (hdr : TyvelHdr) (desc : Nat) (records : List (Nat × Nat × Nat × List Byte))
  /-- R413. -/
  | commit (hdr : TyvelHdr) (descriptor : Bool) (seq applyTime : Nat)
  /-- R420. -/
  | phase (hdr : TyvelHdr) (errorMui : Nat) (atLimit : Bool)
  /-- R418. -/
  | time (hdr : TyvelHdr) (moment : TwinTime) (delay : Nat)
  /-- R410. -/
  | state (hdr : TyvelHdr) (report : TwinReport)
  /-- R423. -/
  | equinox (hdr : TyvelHdr) (atTime : Nat) (lastSeqs : List (Nat × Nat))
  /-- R405. -/
  | rekey (hdr : TyvelHdr) (sending : Bool) (counter : Nat)
  /-- R408. -/
  | tokenClaim (view : ClaimView)
  /-- R422. -/
  | twinFaultDetect (fault : TwinFault) (view : ClaimView) (duration : Nat)
  /-- R421. -/
  | demotion (cause : DemotionCause)
  /-- R410. -/
  | pair (src : Src)
  /-- R410. -/
  | unpair (src : Src)
  /-- R423. -/
  | plannedEquinox (src : Src)
  /-- R419. -/
  | lockstepEntry (errorMui : Nat)
  /-- R430. -/
  | generate (src : Src)
  /-- R430. -/
  | importKey (src : Src)
  /-- R431. -/
  | derive (src : Src)
  /-- R431. -/
  | exportWrapped (src : Src)
  /-- R430. -/
  | erase (src : Src)
  /-- R433. -/
  | makePersistent (src : Src) (recordOk : Bool)
  /-- R430. -/
  | sign (src : Src)
  /-- R430. -/
  | macOp (src : Src)
  /-- R436. -/
  | keyPropertyStatement (src : Src)
  /-- R430. -/
  | keyOperationDone (ok : Bool)
  /-- R435. -/
  | spdmRequest (src : Src) (message : List Byte)
  /-- R431. -/
  | entropyFault (reseeded : Bool)
  /-- R438. -/
  | tamper (change : TamperChange)
  /-- R449. -/
  | gCommitShadow (src : Src) (guard : Nat)
  /-- R448. -/
  | gCommitCopy (src : Src) (guard : Nat)
  /-- R449. -/
  | epochDrained (guard : Nat)
  /-- R459. -/
  | healthReport (code unit : Nat)
  /-- R460. -/
  | healthRowClear (row unit : Nat)
  /-- R465. -/
  | healthTableCommit (src : Src)
  /-- R464. -/
  | mapoutClear (src : Src) (key : Nat)
  /-- R467. -/
  | powerOn (straps : Straps)
  /-- R496. -/
  | resetN (straps : Straps) (widthNs : Nat)
  /-- R481. -/
  | hubReset (src : Src) (key : Nat)
  /-- R476. -/
  | fwImage (src : Src) (image : Image)
  /-- R476. -/
  | imageProgrammed (ok : Bool)
  /-- R476. -/
  | fwActivate (src : Src) (value : Nat)
  /-- R474. -/
  | fwAccept (src : Src) (value : Nat)
  /-- R475. -/
  | fwPermitUntested (src : Src) (key : Nat)
  /-- R48. -/
  | wakeTimeout (domain : Nat)
  /-- R368. -/
  | prbsSyncGained (lane : Nat)
  /-- R368. -/
  | prbsSyncLost (lane bits errors : Nat)
  /-- R337. -/
  | discoverIdentity (port cableMa : Nat) (epr : Bool)
  /-- R337. -/
  | eprModeEntry (port : Nat)
  /-- R199. -/
  | alternateModeEntry (usbPort : Nat) (pins : AltPins)
  /-- R199. -/
  | alternateModeExit (usbPort : Nat)
  /-- R347. -/
  | sinkCapabilities (frsCurrent : Nat)
  /-- R322. -/
  | portConnect (port speed : Nat)
  /-- R322. -/
  | portDisconnect (port : Nat)
  /-- R310. -/
  | streamStart (adapter stream : Nat) (attrs : StreamAttrs)
  /-- R224. -/
  | pcieConfigWrite (fn reg value : Nat)
  /-- R65. -/
  | abortCodeRead
  /-- R83. -/
  | heartbeatPeriod
  /-- R83. -/
  | managerTimeout
  /-- R85. -/
  | timePeriod
  /-- R86. -/
  | canBusOff
  /-- R88. -/
  | mbxStatusRead
  /-- R447. -/
  | violationRecord
  /-- R106. -/
  | auditInterval
  /-- R106. -/
  | auditDone
  /-- R141. -/
  | mirrorReentry
  /-- R200. -/
  | upLinkLost
  /-- R388. -/
  | enginePrewake
  /-- R270. -/
  | ingestDescriptor
  /-- R282. -/
  | teCEdge
  /-- R331. -/
  | usbBusReset
  /-- R331. -/
  | usb3HotReset
  /-- R329. -/
  | hostResume
  /-- R348. -/
  | adapterOkLow
  /-- R348. -/
  | frsVbusArrival
  /-- R349. -/
  | frsVbusTimeout
  /-- R348. -/
  | frSwapComplete
  /-- R352. -/
  | adapterOkReturn
  /-- R378. -/
  | bellowsStep
  /-- R375. -/
  | avsResponse
  /-- R377. -/
  | avsTimeout
  /-- R377. -/
  | avsFaultRetry
  /-- R382. -/
  | bwCeiling
  /-- R403. -/
  | mirrorResend
  /-- R413. -/
  | applyTime
  /-- R402. -/
  | statePeriod
  /-- R405. -/
  | rekeyDue
  /-- R407. -/
  | twinAliveToggle
  /-- R423. -/
  | equinoxTime
  /-- R410. -/
  | catchUpDone
  /-- R480. -/
  | watchdog
  /-- R474. -/
  | fwTrialTime
  /-- R407. -/
  | powerLoss
  /-- R329. -/
  | suspend
  /-- R330. -/
  | u3Entry
  /-- R462. -/
  | junctionOvertemperature
deriving DecidableEq, Repr

end Sys2Proof
end

