-- ==== Sys2Proof/Decode.lean ====
section
/-! DEFINITION. The commands that a word spells by the opcode table's bits. No row of spec/opcode_table.json gives bits: the hub takes
its commands from carriers, links and pins, so no word spells one. -/

namespace Sys2Proof

/-- No row of the table gives bits. (DESIGN CHOICE, log 3) -/
def decodeTableWord (_nbits _w : Nat) : Option Instr := none

end Sys2Proof
end

