-- ==== Sys2Proof/Machine/ObjNames.lean ====
section
/-! DEFINITION. The dictionary's names: for each object of the manual, its key (index * 256 + sub-index), those of a
block with the instance's number (R9, R58). `at_` puts a window position in front of a key. -/

namespace Sys2Proof.Machine

/-- The key of a field at a window position: the position above the 24 bits of index and sub-index. -/
def at_ (pos k : Nat) : Nat := pos * 0x1000000 + k

/-! Global objects -/

def Obj.VENDOR_ID : Nat := 0x100001
def Obj.PART_NUMBER : Nat := 0x100002
def Obj.STEPPING : Nat := 0x100003
def Obj.SERIAL_NUMBER : Nat := 0x100004
def Obj.HEARTH_SIZE : Nat := 0x100005
def Obj.KINDLING_VERSION : Nat := 0x100801
def Obj.BOOT_VERSION : Nat := 0x100802
def Obj.ENGINE_VERSION : Nat := 0x100803
def Obj.PD_POLICY_VERSION : Nat := 0x100804
def Obj.SECURITY_VERSION : Nat := 0x100805
def Obj.DICTIONARY_LAYOUT : Nat := 0x100806
def Obj.UNIT_PRESENCE : Nat := 0x101001
def Obj.PRESENT_COUNT : Nat := 0x101002
def Obj.STORE : Nat := 0x102001
def Obj.RESTORE_DEFAULTS : Nat := 0x102002
def Obj.STORE_STATUS : Nat := 0x102003
def Obj.STORE_SEQUENCE : Nat := 0x102004
def Obj.STORE_FAILED : Nat := 0x102005
def Obj.STORE_FAILED_EVENTS : Nat := 0x102006
def Obj.NODE_ID_ACTIVE : Nat := 0x110001
def Obj.NODE_ID_OVERRIDE : Nat := 0x110002
def Obj.HEARTBEAT_PERIOD : Nat := 0x110003
def Obj.CAN_NOMINAL_RATE : Nat := 0x110004
def Obj.CAN_DATA_RATE : Nat := 0x110005
def Obj.EMERGENCY_INHIBIT : Nat := 0x110006
def Obj.EVENT_NODE : Nat := 0x110007
def Obj.TIME_PERIOD : Nat := 0x110008
def Obj.MANAGER_NODE : Nat := 0x110101
def Obj.MANAGER_TIMEOUT : Nat := 0x110102
def Obj.MANAGER_LOST : Nat := 0x110103
def Obj.MANAGER_LOST_EVENTS : Nat := 0x110104
def Obj.NODE_CONFLICT : Nat := 0x110105
def Obj.NODE_CONFLICT_EVENTS : Nat := 0x110106
def Obj.UDP_ENABLE : Nat := 0x110201
def Obj.UDP_IPV4_ADDRESS : Nat := 0x110202
def Obj.UDP_VLAN : Nat := 0x110203
def Obj.UDP_MACS : Nat := 0x110204
def Obj.UDP_REPORT_ADDRESS : Nat := 0x110205
def Obj.UDP_MAC_ADDRESS : Nat := 0x110206
def Obj.FRAMES_RX : Nat := 0x110301
def Obj.FRAMES_TX : Nat := 0x110302
def Obj.DISCARDED : Nat := 0x110303
def Obj.EMERGENCY_DROPPED : Nat := 0x110304
def Obj.CAN_BUS_OFF : Nat := 0x110305
def Obj.TRANSFER_TIMEOUTS : Nat := 0x110306
def Obj.NODE_NAME : Nat := 0x110401
def Obj.SEASON : Nat := 0x120001
def Obj.SEASON_CHANGED : Nat := 0x120002
def Obj.SEASON_CHANGED_EVENTS : Nat := 0x120003
def Obj.MAPPED_OUT_COUNT : Nat := 0x120004
def Obj.MAPOUT_CLEAR : Nat := 0x120005
def Obj.WINTER_CAUSE : Nat := 0x120006
def Obj.HT_POS : Nat := 0x120201
def Obj.HT_VALID : Nat := 0x120202
def Obj.HT_CONDITION : Nat := 0x120203
def Obj.HT_THRESHOLD : Nat := 0x120204
def Obj.HT_WINDOW : Nat := 0x120205
def Obj.HT_ACTION : Nat := 0x120206
def Obj.HT_SEASON : Nat := 0x120207
def Obj.HT_LATCH : Nat := 0x120208
def Obj.HT_HITS : Nat := 0x120209
def Obj.COMMIT_1202 : Nat := 0x1202FE
def Obj.HL_POS : Nat := 0x120401
def Obj.HL_SEQ : Nat := 0x120402
def Obj.HL_CODE : Nat := 0x120403
def Obj.HL_UNIT : Nat := 0x120404
def Obj.HL_SEASON : Nat := 0x120405
def Obj.HL_ROW : Nat := 0x120406
def Obj.HL_TIME : Nat := 0x120407
def Obj.HL_TOTAL : Nat := 0x120501
def Obj.TIME_NOW : Nat := 0x130001
def Obj.TIME_SOURCE : Nat := 0x130002
def Obj.TIME_HOLDOVER : Nat := 0x130003
def Obj.TIME_HOLDOVER_EVENTS : Nat := 0x130004
def Obj.TIME_OFFSET : Nat := 0x130005
def Obj.TIME_STEPS : Nat := 0x130006
def Obj.TIME_PRIORITY : Nat := 0x130101
def Obj.TIME_STEP_LIMIT : Nat := 0x130102
def Obj.TIME_SLEW_MAX : Nat := 0x130103
def Obj.GPTP_MACS : Nat := 0x130201
def Obj.GPTP_DOMAIN : Nat := 0x130202
def Obj.GPTP_PRIORITY1 : Nat := 0x130203
def Obj.UNIT_COUNT : Nat := 0x140001
def Obj.DIR_WINDOW_POS : Nat := 0x140101
def Obj.DIR_UNIT_NUMBER : Nat := 0x140102
def Obj.DIR_BLOCK_INDEX : Nat := 0x140103
def Obj.DIR_STATE : Nat := 0x140104
def Obj.DIR_FAULT : Nat := 0x140105
def Obj.DIR_FAULT_EVENTS : Nat := 0x140106
def Obj.DIR_DOMAIN : Nat := 0x140107
def Obj.DIR_GUARD : Nat := 0x140108
def Obj.LOOKUP_UNIT : Nat := 0x140201
def Obj.LOOKUP_POS : Nat := 0x140202
def Obj.UNIT_QUARANTINE : Nat := 0x140301
def Obj.UNIT_RELEASE : Nat := 0x140302
def Obj.UNIT_RESET : Nat := 0x140303
def Obj.EXPRESS_ENABLE : Nat := 0x280001
def Obj.EXPRESS_MAX_CELLS : Nat := 0x280002
def Obj.FILL_ENABLE : Nat := 0x280003
def Obj.PUSHOUT_ENABLE : Nat := 0x280004
def Obj.PUSHOUT_MAX_VICTIMS : Nat := 0x280005
def Obj.STEPS : Nat := 0x280101
def Obj.PUSHOUT_EVENTS : Nat := 0x280102
def Obj.PUSHOUT_VICTIMS : Nat := 0x280103
def Obj.PUSHOUT_FAILED : Nat := 0x280104
def Obj.MC_FRAMES : Nat := 0x280105
def Obj.MC_PARTIAL : Nat := 0x280106
def Obj.HEARTH_ROWS : Nat := 0x300001
def Obj.CELLS_PER_GROUP : Nat := 0x300002
def Obj.CHUNKS_TOTAL : Nat := 0x300003
def Obj.HEADROOM_CELLS : Nat := 0x300004
def Obj.GROUPS_IN_SERVICE : Nat := 0x300005
def Obj.GROUP_MAP : Nat := 0x300006
def Obj.OCCUPANCY_CELLS : Nat := 0x300101
def Obj.OCCUPANCY_PEAK : Nat := 0x300102
def Obj.SURFACE_CHUNKS : Nat := 0x300103
def Obj.HEADROOM_BORROWED : Nat := 0x300104
def Obj.BORROW_ADMISSIONS : Nat := 0x300105
def Obj.WRITE_COLLISIONS : Nat := 0x300201
def Obj.ECC_CORRECTED : Nat := 0x300202
def Obj.ECC_UNCORRECTED : Nat := 0x300203
def Obj.ECC_UE_FLAG : Nat := 0x300204
def Obj.ECC_UE_FLAG_EVENTS : Nat := 0x300205
def Obj.SCRUB_PERIOD : Nat := 0x300206
def Obj.SCRUB_PASSES : Nat := 0x300207
def Obj.AUDIT_START : Nat := 0x300301
def Obj.AUDIT_STATUS : Nat := 0x300302
def Obj.AUDIT_MISMATCH : Nat := 0x300303
def Obj.AUDIT_MISMATCH_EVENTS : Nat := 0x300304
def Obj.AUDIT_INTERVAL : Nat := 0x300305
def Obj.GROUP_POS : Nat := 0x300501
def Obj.G_STATE : Nat := 0x300502
def Obj.G_FREE : Nat := 0x300503
def Obj.G_QUEUED : Nat := 0x300504
def Obj.G_IN_TRANSIT : Nat := 0x300505
def Obj.G_SURFACE : Nat := 0x300506
def Obj.G_A_FREE : Nat := 0x300507
def Obj.G_A_QUEUED : Nat := 0x300508
def Obj.G_A_IN_TRANSIT : Nat := 0x300509
def Obj.G_A_SURFACE : Nat := 0x30050A
def Obj.G_A_BALANCED : Nat := 0x30050B
def Obj.G_RESERVED : Nat := 0x30050C
def Obj.BANK_CE (i : Nat) : Nat := 0x300510 + i
def Obj.BANK_UE (i : Nat) : Nat := 0x300518 + i
def Obj.EXACT_USED : Nat := 0x340001
def Obj.WILDCARD_USED : Nat := 0x340002
def Obj.LOOKUPS : Nat := 0x340003
def Obj.EXACT_HITS : Nat := 0x340004
def Obj.WILDCARD_HITS : Nat := 0x340005
def Obj.MISSES : Nat := 0x340006
def Obj.MIRROR_SUBSCRIBER : Nat := 0x340007
def Obj.MIRROR_SKIPPED : Nat := 0x340008
def Obj.PROFILE_SELECT (i : Nat) : Nat := 0x340201 + i
def Obj.MISS_SUBSCRIBER (i : Nat) : Nat := 0x340301 + i
def Obj.PROFILE_POS : Nat := 0x340501
def Obj.P_BASE : Nat := 0x340502
def Obj.P_MASK : Nat := 0x340503
def Obj.P_ENTRIES : Nat := 0x340504
def Obj.EX_POS : Nat := 0x340701
def Obj.EX_E_VALID : Nat := 0x340702
def Obj.EX_E_KEY : Nat := 0x340703
def Obj.EX_E_ACTION : Nat := 0x340704
def Obj.EX_E_SUBSCRIBER : Nat := 0x340705
def Obj.EX_E_CLASS : Nat := 0x340706
def Obj.EX_E_YELLOW_CLASS : Nat := 0x340707
def Obj.EX_E_MC_GROUP : Nat := 0x340708
def Obj.EX_E_MIRROR : Nat := 0x340709
def Obj.EX_E_PROTECTED : Nat := 0x34070A
def Obj.EX_E_POLICER : Nat := 0x34070B
def Obj.EX_E_HIT_FRAMES : Nat := 0x34070C
def Obj.EX_E_HIT_BYTES : Nat := 0x34070D
def Obj.COMMIT_3407 : Nat := 0x3407FE
def Obj.HK_KEY : Nat := 0x340801
def Obj.HK_BUCKET0 : Nat := 0x340802
def Obj.HK_BUCKET1 : Nat := 0x340803
def Obj.HK_FREE_POS : Nat := 0x340804
def Obj.HK_MATCH_POS : Nat := 0x340805
def Obj.WC_POS : Nat := 0x340A01
def Obj.WC_E_VALID : Nat := 0x340A02
def Obj.WC_E_KEY : Nat := 0x340A03
def Obj.WC_E_ACTION : Nat := 0x340A04
def Obj.WC_E_SUBSCRIBER : Nat := 0x340A05
def Obj.WC_E_CLASS : Nat := 0x340A06
def Obj.WC_E_YELLOW_CLASS : Nat := 0x340A07
def Obj.WC_E_MC_GROUP : Nat := 0x340A08
def Obj.WC_E_MIRROR : Nat := 0x340A09
def Obj.WC_E_PROTECTED : Nat := 0x340A0A
def Obj.WC_E_POLICER : Nat := 0x340A0B
def Obj.WC_E_HIT_FRAMES : Nat := 0x340A0C
def Obj.WC_E_HIT_BYTES : Nat := 0x340A0D
def Obj.WC_W_MASK : Nat := 0x340A0E
def Obj.COMMIT_340A : Nat := 0x340AFE
def Obj.MC_POS : Nat := 0x340C01
def Obj.M_COUNT : Nat := 0x340C02
def Obj.M_MEMBER (i : Nat) : Nat := 0x340C03 + i
def Obj.COMMIT_340C : Nat := 0x340CFE
def Obj.ASH_RED (i : Nat) : Nat := 0x341001 + i
def Obj.ASH_MISS (i : Nat) : Nat := 0x341101 + i
def Obj.ASH_ACTION (i : Nat) : Nat := 0x341201 + i
def Obj.QUANTUM_UNIT : Nat := 0x380001
def Obj.GATE_MARGIN : Nat := 0x380002
def Obj.DAMPER_BACKLOG : Nat := 0x380003
def Obj.TAKEN_FRAMES : Nat := 0x380004
def Obj.SB_POS : Nat := 0x380201
def Obj.SB_ENABLE : Nat := 0x380202
def Obj.SB_SERVICE : Nat := 0x380203
def Obj.SB_POOL : Nat := 0x380204
def Obj.SB_WEIGHT : Nat := 0x380205
def Obj.SB_CIR : Nat := 0x380206
def Obj.SB_CBS : Nat := 0x380207
def Obj.SB_EIR : Nat := 0x380208
def Obj.SB_EBS : Nat := 0x380209
def Obj.SB_C_TOKENS : Nat := 0x38020A
def Obj.SB_E_TOKENS : Nat := 0x38020B
def Obj.SB_QUEUED_FRAMES : Nat := 0x38020C
def Obj.SB_QUEUED_BYTES : Nat := 0x38020D
def Obj.SB_ENQUEUED_BYTES : Nat := 0x38020E
def Obj.SB_COMMITTED_BYTES : Nat := 0x38020F
def Obj.SB_EXCESS_BYTES : Nat := 0x380210
def Obj.COMMIT_3802 : Nat := 0x3802FE
def Obj.SV_POS : Nat := 0x380401
def Obj.SV_PRIORITY : Nat := 0x380402
def Obj.SV_WEIGHT : Nat := 0x380403
def Obj.SV_CIR : Nat := 0x380404
def Obj.SV_CBS : Nat := 0x380405
def Obj.SV_EIR : Nat := 0x380406
def Obj.SV_EBS : Nat := 0x380407
def Obj.SV_C_TOKENS : Nat := 0x380408
def Obj.SV_E_TOKENS : Nat := 0x380409
def Obj.SV_SUBSCRIBERS : Nat := 0x38040A
def Obj.SV_COMMITTED_BYTES : Nat := 0x38040B
def Obj.SV_EXCESS_BYTES : Nat := 0x38040C
def Obj.COMMIT_3804 : Nat := 0x3804FE
def Obj.PT_POS : Nat := 0x380601
def Obj.PT_SHAPE_ENABLE : Nat := 0x380602
def Obj.PT_RATE : Nat := 0x380603
def Obj.PT_BURST : Nat := 0x380604
def Obj.PT_DWRR : Nat := 0x380605
def Obj.PT_LEN_ADJUST : Nat := 0x380606
def Obj.PT_TOKENS : Nat := 0x380607
def Obj.PT_LINE_RATE : Nat := 0x380608
def Obj.PT_BACKLOG_BYTES : Nat := 0x380609
def Obj.PT_TAKEN_FRAMES : Nat := 0x38060A
def Obj.PT_ASH_DISABLED : Nat := 0x38060B
def Obj.COMMIT_3806 : Nat := 0x3806FE
def Obj.Q_POS : Nat := 0x380801
def Obj.Q_FRAMES : Nat := 0x380802
def Obj.Q_BYTES : Nat := 0x380803
def Obj.Q_SENT_FRAMES : Nat := 0x380804
def Obj.Q_SENT_BYTES : Nat := 0x380805
def Obj.Q_PEAK_BYTES : Nat := 0x380806
def Obj.GATE_PORT : Nat := 0x380901
def Obj.GA_ENABLE : Nat := 0x380902
def Obj.GA_BASE_TIME : Nat := 0x380903
def Obj.GA_CYCLE_TIME : Nat := 0x380904
def Obj.GA_LENGTH : Nat := 0x380905
def Obj.GA_LEAD : Nat := 0x380906
def Obj.CONFIG_CHANGE : Nat := 0x380907
def Obj.GATE_PENDING : Nat := 0x380908
def Obj.CHANGE_TIME : Nat := 0x380909
def Obj.GO_ENABLE : Nat := 0x38090A
def Obj.GO_BASE_TIME : Nat := 0x38090B
def Obj.GO_CYCLE_TIME : Nat := 0x38090C
def Obj.GO_LENGTH : Nat := 0x38090D
def Obj.GO_LEAD : Nat := 0x38090E
def Obj.GATE_LATE : Nat := 0x38090F
def Obj.GATE_OVERRUN : Nat := 0x380910
def Obj.ASH_GATE_OVERSIZE : Nat := 0x380911
def Obj.GATE_SWAPS : Nat := 0x380912
def Obj.GE_POS : Nat := 0x380B01
def Obj.GE_MASK : Nat := 0x380B02
def Obj.GE_DURATION : Nat := 0x380B03
def Obj.GE_OPER_MASK : Nat := 0x380B04
def Obj.GE_OPER_DURATION : Nat := 0x380B05
def Obj.POLICER_POS : Nat := 0x400101
def Obj.PL_MODE : Nat := 0x400102
def Obj.PL_COLOUR_AWARE : Nat := 0x400103
def Obj.PL_PRECOLOUR_SRC : Nat := 0x400104
def Obj.PL_CIR : Nat := 0x400105
def Obj.PL_CBS : Nat := 0x400106
def Obj.PL_RATE2 : Nat := 0x400107
def Obj.PL_BURST2 : Nat := 0x400108
def Obj.PL_T1 : Nat := 0x400109
def Obj.PL_T2 : Nat := 0x40010A
def Obj.PL_GREEN_FRAMES : Nat := 0x40010B
def Obj.PL_YELLOW_FRAMES : Nat := 0x40010C
def Obj.PL_RED_FRAMES : Nat := 0x40010D
def Obj.PL_GREEN_BYTES : Nat := 0x40010E
def Obj.PL_YELLOW_BYTES : Nat := 0x40010F
def Obj.PL_RED_BYTES : Nat := 0x400110
def Obj.COMMIT_4001 : Nat := 0x4001FE
def Obj.DSCP_COLOUR_MAP : Nat := 0x400201
def Obj.AL_ENABLE : Nat := 0x540001
def Obj.AL_PERIOD : Nat := 0x540002
def Obj.AL_GAIN : Nat := 0x540003
def Obj.AL_DECAY : Nat := 0x540004
def Obj.AL_DRAIN : Nat := 0x540005
def Obj.AL_PASSES : Nat := 0x540006
def Obj.AL_OVERRUNS : Nat := 0x540007
def Obj.AL_PASS_TIME : Nat := 0x540008
def Obj.AP_POS : Nat := 0x540201
def Obj.AP_ENABLE : Nat := 0x540202
def Obj.AP_UTIL : Nat := 0x540203
def Obj.AP_LIMIT : Nat := 0x540204
def Obj.AP_RATE : Nat := 0x540205
def Obj.AP_FIXED : Nat := 0x540206
def Obj.AP_UNALLOTTED : Nat := 0x540207
def Obj.AP_SHORT : Nat := 0x540208
def Obj.AP_SHORT_EVENTS : Nat := 0x540209
def Obj.AP_DECREASES : Nat := 0x54020A
def Obj.AP_INCREASES : Nat := 0x54020B
def Obj.AP_IMMEDIATE : Nat := 0x54020C
def Obj.AV_POS : Nat := 0x540401
def Obj.AV_MIN : Nat := 0x540402
def Obj.AV_MAX : Nat := 0x540403
def Obj.AV_WANT : Nat := 0x540404
def Obj.AV_GRANT : Nat := 0x540405
def Obj.COMMIT_5404 : Nat := 0x5404FE
def Obj.AS_POS : Nat := 0x540601
def Obj.AS_MODE : Nat := 0x540602
def Obj.AS_MIN : Nat := 0x540603
def Obj.AS_MAX : Nat := 0x540604
def Obj.AS_DEMAND : Nat := 0x540605
def Obj.AS_TARGET : Nat := 0x540606
def Obj.AS_GRANT : Nat := 0x540607
def Obj.AS_CHANGES : Nat := 0x540608
def Obj.COMMIT_5406 : Nat := 0x5406FE
def Obj.CR_POS : Nat := 0x5A0101
def Obj.CR_ADVERTISED : Nat := 0x5A0102
def Obj.CR_PARTNER : Nat := 0x5A0103
def Obj.CR_OWED : Nat := 0x5A0104
def Obj.CR_HELD : Nat := 0x5A0105
def Obj.CR_OUT_LIMIT : Nat := 0x5A0106
def Obj.NIC_QP_BASE : Nat := 0x5A2001
def Obj.NIC_QP_COUNT : Nat := 0x5A2002
def Obj.NIC_PROFILE_SELECT : Nat := 0x5A2003
def Obj.NIC_RX_RING_FULL : Nat := 0x5A2004
def Obj.NIC_RX_TOO_LONG : Nat := 0x5A2005
def Obj.SL_POS : Nat := 0x643101
def Obj.SL_SOURCE : Nat := 0x643102
def Obj.SL_PRIORITY : Nat := 0x643103
def Obj.SL_STATE : Nat := 0x643104
def Obj.SL_TIMESLOTS : Nat := 0x643105
def Obj.SL_PAYLOAD : Nat := 0x643106
def Obj.SL_STARVED_LINES : Nat := 0x643107
def Obj.SL_ENDS : Nat := 0x643108
def Obj.COMMIT_6431 : Nat := 0x6431FE
def Obj.STREAM_HOLD : Nat := 0x643801
def Obj.TM_POS : Nat := 0x64E101
def Obj.TM_PIXEL_CLOCK : Nat := 0x64E102
def Obj.TM_H_ACTIVE : Nat := 0x64E103
def Obj.TM_H_FRONT : Nat := 0x64E104
def Obj.TM_H_SYNC : Nat := 0x64E105
def Obj.TM_H_BACK : Nat := 0x64E106
def Obj.TM_V_ACTIVE : Nat := 0x64E107
def Obj.TM_V_FRONT : Nat := 0x64E108
def Obj.TM_V_SYNC : Nat := 0x64E109
def Obj.TM_V_BACK : Nat := 0x64E10A
def Obj.TM_FLAGS : Nat := 0x64E10B
def Obj.TM_V_TOTAL_MAX : Nat := 0x64E10C
def Obj.COMMIT_64E1 : Nat := 0x64E1FE
def Obj.RETRY_POOL : Nat := 0x680001
def Obj.RETRY_USED : Nat := 0x680002
def Obj.CODER_TILES : Nat := 0x680003
def Obj.CODER_PRECODED : Nat := 0x680004
def Obj.CODER_REFUSED : Nat := 0x680005
def Obj.ESC_TOTAL : Nat := 0x680006
def Obj.INTERLOCK_WAITS : Nat := 0x680007
def Obj.TILE_DEFERRED : Nat := 0x680008
def Obj.TILE_DEFERRED_EVENTS : Nat := 0x680009
def Obj.TILE_RESEND : Nat := 0x68000A
def Obj.TILE_RESEND_EVENTS : Nat := 0x68000B
def Obj.ESCALATED : Nat := 0x68000C
def Obj.ESCALATED_EVENTS : Nat := 0x68000D
def Obj.SF_POS : Nat := 0x680201
def Obj.SF_VALID : Nat := 0x680202
def Obj.SF_FORMAT : Nat := 0x680203
def Obj.SF_WIDTH : Nat := 0x680204
def Obj.SF_HEIGHT : Nat := 0x680205
def Obj.SF_POOL : Nat := 0x680206
def Obj.SF_MODE : Nat := 0x680207
def Obj.SF_E_MIN : Nat := 0x680208
def Obj.SF_E_MAX : Nat := 0x680209
def Obj.SF_SLOT : Nat := 0x68020A
def Obj.SF_OV_BLOCKS : Nat := 0x68020B
def Obj.SF_STATE : Nat := 0x68020C
def Obj.SF_CHUNKS : Nat := 0x68020D
def Obj.SF_AT_E0 : Nat := 0x68020E
def Obj.SF_AT_E1 : Nat := 0x68020F
def Obj.SF_AT_E2 : Nat := 0x680210
def Obj.SF_AT_E4 : Nat := 0x680211
def Obj.SF_AT_E8 : Nat := 0x680212
def Obj.SF_AT_E16 : Nat := 0x680213
def Obj.SF_PENDING : Nat := 0x680214
def Obj.SF_RESEND : Nat := 0x680215
def Obj.SF_OV_FREE : Nat := 0x680216
def Obj.SF_ESCALATIONS : Nat := 0x680217
def Obj.SF_DEFERRALS : Nat := 0x680218
def Obj.COMMIT_6802 : Nat := 0x6802FE
def Obj.LOG_POS : Nat := 0x680401
def Obj.LG_SEQ : Nat := 0x680402
def Obj.LG_SURFACE : Nat := 0x680403
def Obj.LG_PLANE : Nat := 0x680404
def Obj.LG_TILE : Nat := 0x680405
def Obj.LG_E : Nat := 0x680406
def Obj.LG_TIME : Nat := 0x680407
def Obj.TQ_SURFACE : Nat := 0x680501
def Obj.TQ_PLANE : Nat := 0x680502
def Obj.TQ_INDEX : Nat := 0x680503
def Obj.TQ_STATE : Nat := 0x680504
def Obj.TQ_E : Nat := 0x680505
def Obj.TQ_BYTES : Nat := 0x680506
def Obj.TQ_NEXT : Nat := 0x680507
def Obj.FD_POS : Nat := 0x680701
def Obj.FD_VALID : Nat := 0x680702
def Obj.FD_MODEL : Nat := 0x680703
def Obj.FD_DEPTH : Nat := 0x680704
def Obj.FD_CHROMA : Nat := 0x680705
def Obj.FD_SOURCE : Nat := 0x680706
def Obj.FD_PLANES : Nat := 0x680707
def Obj.COMMIT_6807 : Nat := 0x6807FE
def Obj.USB3_HUB_ENABLE : Nat := 0x700001
def Obj.PORT_DISABLE : Nat := 0x700002
def Obj.TT_THINK_TIME : Nat := 0x700003
def Obj.BILLBOARD_ENABLE : Nat := 0x700004
def Obj.USB2_STATE : Nat := 0x700005
def Obj.USB3_STATE : Nat := 0x700006
def Obj.EPM_UNITS_FREE : Nat := 0x700007
def Obj.TT_EXHAUSTED : Nat := 0x700101
def Obj.TT_EXHAUSTED_EVENTS : Nat := 0x700102
def Obj.REMOTE_WAKES : Nat := 0x700103
def Obj.WAKE_COLLISIONS : Nat := 0x700104
def Obj.BUS_RESETS : Nat := 0x700105
def Obj.CTRL_ABANDONED : Nat := 0x700106
def Obj.TELEM_UNSENT : Nat := 0x700107
def Obj.TELEM_SEQ : Nat := 0x700108
def Obj.PS_POS : Nat := 0x700301
def Obj.PS_SPEED : Nat := 0x700302
def Obj.PS_STATE : Nat := 0x700303
def Obj.TT_NP_NAKS : Nat := 0x700304
def Obj.TT_PERIODIC_DROPS : Nat := 0x700305
def Obj.TT_CLEARED : Nat := 0x700306
def Obj.PS_WAKES : Nat := 0x700307
def Obj.CV_POS : Nat := 0x700501
def Obj.CV_OWNER : Nat := 0x700502
def Obj.CV_BASE : Nat := 0x700503
def Obj.CV_UNITS : Nat := 0x700504
def Obj.COMMIT_7005 : Nat := 0x7005FE
def Obj.TL_POS : Nat := 0x700801
def Obj.TL_INDEX : Nat := 0x700802
def Obj.TL_SUB : Nat := 0x700803
def Obj.BW_ENABLE : Nat := 0x7C0001
def Obj.BW_V_FIXED : Nat := 0x7C0002
def Obj.BW_V_MIN : Nat := 0x7C0003
def Obj.BW_PERIOD : Nat := 0x7C0004
def Obj.BW_MARGIN : Nat := 0x7C0005
def Obj.BW_DRAIN : Nat := 0x7C0006
def Obj.BW_HYSTERESIS : Nat := 0x7C0007
def Obj.BW_LOW_MARK : Nat := 0x7C0008
def Obj.BW_HIGH_MARK : Nat := 0x7C0009
def Obj.BW_FLARE_RISE : Nat := 0x7C000A
def Obj.BW_FLARE_HOLD : Nat := 0x7C000B
def Obj.AVS_RAIL : Nat := 0x7C000C
def Obj.BW_VDD_TARGET : Nat := 0x7C0101
def Obj.BW_TJ : Nat := 0x7C0102
def Obj.BW_PACE_NEED : Nat := 0x7C0103
def Obj.BW_PACE_NOW : Nat := 0x7C0104
def Obj.BW_LOGIC_PACE : Nat := 0x7C0105
def Obj.BW_RAISING : Nat := 0x7C0106
def Obj.BW_FLARE : Nat := 0x7C0201
def Obj.BW_FLARE_EVENTS : Nat := 0x7C0202
def Obj.BW_AVS_FAULT : Nat := 0x7C0203
def Obj.BW_AVS_FAULT_EVENTS : Nat := 0x7C0204
def Obj.BW_CEILING : Nat := 0x7C0205
def Obj.BW_CEILING_EVENTS : Nat := 0x7C0206
def Obj.BW_REQUESTS : Nat := 0x7C0207
def Obj.BW_FLARES : Nat := 0x7C0208
def Obj.BW_UNDERRUN_FLARES : Nat := 0x7C0209
def Obj.BW_RETRIES : Nat := 0x7C020A
def Obj.BW_RAISE_TIME_MAX : Nat := 0x7C020B
def Obj.BC_POS : Nat := 0x7C0401
def Obj.BC_VOLTAGE : Nat := 0x7C0402
def Obj.TW_ENABLE : Nat := 0x840001
def Obj.TW_SIDE : Nat := 0x840002
def Obj.TW_PEER_SERIAL : Nat := 0x840003
def Obj.TW_APPLY_LEAD : Nat := 0x840004
def Obj.TW_SWITCHED : Nat := 0x840005
def Obj.TW_MAC_PROTECT : Nat := 0x840006
def Obj.TW_TAG_ETHERTYPE : Nat := 0x840007
def Obj.TW_LOCKSTEP_ALLOW : Nat := 0x840008
def Obj.TW_TRIM_A : Nat := 0x840009
def Obj.TW_TRIM_B : Nat := 0x84000A
def Obj.TW_TRIM_C : Nat := 0x84000B
def Obj.TW_STATE : Nat := 0x840101
def Obj.TW_ROLE : Nat := 0x840102
def Obj.TW_PEER_NODE : Nat := 0x840103
def Obj.TW_PEER_SERIAL_SEEN : Nat := 0x840104
def Obj.TW_REFUSE_REASON : Nat := 0x840105
def Obj.TW_CATCHUP_LEFT : Nat := 0x840106
def Obj.TW_PHASE_ERROR : Nat := 0x840107
def Obj.TW_ING_SEQ : Nat := 0x840108
def Obj.TW_COMMAND : Nat := 0x840201
def Obj.TW_COMMAND_STATUS : Nat := 0x840202
def Obj.TW_PARTNER_LOST : Nat := 0x840301
def Obj.TW_PARTNER_LOST_EVENTS : Nat := 0x840302
def Obj.TW_MISMATCH : Nat := 0x840303
def Obj.TW_MISMATCH_EVENTS : Nat := 0x840304
def Obj.TW_SIDEBAND_FAULT : Nat := 0x840305
def Obj.TW_SIDEBAND_FAULT_EVENTS : Nat := 0x840306
def Obj.TW_LOCKSTEP_LOST : Nat := 0x840307
def Obj.TW_LOCKSTEP_LOST_EVENTS : Nat := 0x840308
def Obj.TY_MISWIRED : Nat := 0x840309
def Obj.TY_MISWIRED_EVENTS : Nat := 0x84030A
def Obj.TW_EQUINOXES : Nat := 0x840401
def Obj.TW_EQUINOX_TIME_MAX : Nat := 0x840402
def Obj.TW_CLAIM_YIELDS : Nat := 0x840403
def Obj.TW_ASH_DUPLICATE : Nat := 0x840404
def Obj.TW_LATE : Nat := 0x840405
def Obj.TW_ASH_STANDBY : Nat := 0x840406
def Obj.TW_ASH_BAD_TAG : Nat := 0x840407
def Obj.TW_UNTAGGED : Nat := 0x840408
def Obj.TW_LATE_COMMITS : Nat := 0x840409
def Obj.TW_DIVERGENCES : Nat := 0x84040A
def Obj.TY_STRIPES_LOST : Nat := 0x84040B
def Obj.TY_FRAMES_BAD : Nat := 0x84040C
def Obj.KS_SECURE : Nat := 0x900001
def Obj.KS_CARRIERS : Nat := 0x900002
def Obj.KS_SESSION_REQUIRED : Nat := 0x900003
def Obj.KS_ENTROPY_FAULT : Nat := 0x900004
def Obj.KS_ENTROPY_FAULT_EVENTS : Nat := 0x900005
def Obj.KS_OPERATIONS : Nat := 0x900006
def Obj.KS_RECORD_FAILS : Nat := 0x900007
def Obj.KS_POS : Nat := 0x900201
def Obj.KS_STATE : Nat := 0x900202
def Obj.KS_ALGORITHM : Nat := 0x900203
def Obj.KS_ATTRIBUTES : Nat := 0x900204
def Obj.KS_USE_LIMIT : Nat := 0x900205
def Obj.KS_USES_LEFT : Nat := 0x900206
def Obj.KS_GENERATION : Nat := 0x900207
def Obj.KS_PUBLIC : Nat := 0x900208
def Obj.KS_RECORD_SEQ : Nat := 0x900209
def Obj.KC_OP : Nat := 0x900401
def Obj.KC_SLOT : Nat := 0x900402
def Obj.KC_ALGORITHM : Nat := 0x900403
def Obj.KC_ATTRIBUTES : Nat := 0x900404
def Obj.KC_USE_LIMIT : Nat := 0x900405
def Obj.KC_PARENT : Nat := 0x900406
def Obj.KC_LABEL : Nat := 0x900407
def Obj.KC_CONTEXT : Nat := 0x900408
def Obj.KC_INPUT : Nat := 0x900409
def Obj.KC_OUTPUT : Nat := 0x90040A
def Obj.KC_STATUS : Nat := 0x90040B
def Obj.SPDM_REQUEST : Nat := 0x900601
def Obj.SPDM_RESPONSE : Nat := 0x900602
def Obj.TP_ENABLE : Nat := 0x980001
def Obj.TP_TAMPERED : Nat := 0x980002
def Obj.TP_CAUSE : Nat := 0x980003
def Obj.TP_TIME : Nat := 0x980004
def Obj.TP_INPUTS : Nat := 0x980005
def Obj.TP_EPOCH : Nat := 0x980006
def Obj.TP_EVENTS : Nat := 0x980007
def Obj.FW_SET_STATE : Nat := 0xA00001
def Obj.FW_HOLD_REASON : Nat := 0xA00002
def Obj.RESET_CAUSE : Nat := 0xA00003
def Obj.BOOT_MODE_LATCHED : Nat := 0xA00004
def Obj.WATCHDOG_RESETS : Nat := 0xA00005
def Obj.BOOT_COUNT : Nat := 0xA00006
def Obj.HUB_RESET : Nat := 0xA00101
def Obj.FW_ACTIVATE : Nat := 0xA00102
def Obj.FW_ACCEPT : Nat := 0xA00103
def Obj.FW_PERMIT_UNTESTED : Nat := 0xA00104
def Obj.FW_TRIAL_TIME : Nat := 0xA00105
def Obj.FW_AUTO_ACCEPT : Nat := 0xA00106
def Obj.WD_TIMEOUT : Nat := 0xA00107
def Obj.FW_TARGET : Nat := 0xA00201
def Obj.FW_IMAGE : Nat := 0xA00202
def Obj.FW_UPDATE_STATUS : Nat := 0xA00203
def Obj.FW_UPDATE_DETAIL : Nat := 0xA00204
def Obj.IM_POS : Nat := 0xA00401
def Obj.IM_STATE : Nat := 0xA00402
def Obj.IM_VERSION : Nat := 0xA00403
def Obj.IM_LENGTH : Nat := 0xA00404
def Obj.IM_STEPPINGS : Nat := 0xA00405
def Obj.IM_ROLE : Nat := 0xA00406

/-! A Grate port's block (R132). -/

def Obj.PORT_STATE (n : Nat) : Nat := (0x2000 + 0x40 * n + 0) * 256 + 1
def Obj.PORT_ENABLE (n : Nat) : Nat := (0x2000 + 0x40 * n + 0) * 256 + 2
def Obj.BOND_MEMBER (n : Nat) : Nat := (0x2000 + 0x40 * n + 0) * 256 + 3
def Obj.CELLS_IN (n : Nat) : Nat := (0x2000 + 0x40 * n + 1) * 256 + 1
def Obj.CELLS_OUT (n : Nat) : Nat := (0x2000 + 0x40 * n + 1) * 256 + 2
def Obj.FRAMES_IN (n : Nat) : Nat := (0x2000 + 0x40 * n + 1) * 256 + 3
def Obj.FRAMES_OUT (n : Nat) : Nat := (0x2000 + 0x40 * n + 1) * 256 + 4
def Obj.EXPRESS_FRAMES (n : Nat) : Nat := (0x2000 + 0x40 * n + 1) * 256 + 5
def Obj.FILL_WRITES (n : Nat) : Nat := (0x2000 + 0x40 * n + 1) * 256 + 6
def Obj.FILL_READS (n : Nat) : Nat := (0x2000 + 0x40 * n + 1) * 256 + 7
def Obj.STAGER_FULL_STEPS (n : Nat) : Nat := (0x2000 + 0x40 * n + 1) * 256 + 8
def Obj.ASH_NO_ROOM (n : Nat) : Nat := (0x2000 + 0x40 * n + 2) * 256 + 1
def Obj.ASH_PUSHED_OUT (n : Nat) : Nat := (0x2000 + 0x40 * n + 2) * 256 + 2
def Obj.ASH_PORT_DOWN (n : Nat) : Nat := (0x2000 + 0x40 * n + 2) * 256 + 3
def Obj.ASH_ECC (n : Nat) : Nat := (0x2000 + 0x40 * n + 2) * 256 + 4
def Obj.ASH_SEQUENCE (n : Nat) : Nat := (0x2000 + 0x40 * n + 2) * 256 + 5
def Obj.ASH_OVERSIZE (n : Nat) : Nat := (0x2000 + 0x40 * n + 2) * 256 + 6
def Obj.ASH_CELLS (n : Nat) : Nat := (0x2000 + 0x40 * n + 2) * 256 + 7
def Obj.RESEQ_PEAK (n : Nat) : Nat := (0x2000 + 0x40 * n + 3) * 256 + 1
def Obj.READ_DELAY_MAX (n : Nat) : Nat := (0x2000 + 0x40 * n + 3) * 256 + 2
def Obj.SEQ_ERROR (n : Nat) : Nat := (0x2000 + 0x40 * n + 3) * 256 + 3
def Obj.SEQ_ERROR_EVENTS (n : Nat) : Nat := (0x2000 + 0x40 * n + 3) * 256 + 4

/-! A pool's block (R111). -/

def Obj.CELL_QUOTA (p : Nat) : Nat := (0x3100 + 0x10 * p + 0) * 256 + 1
def Obj.CHUNK_QUOTA (p : Nat) : Nat := (0x3100 + 0x10 * p + 0) * 256 + 2
def Obj.HEADROOM_BORROW (p : Nat) : Nat := (0x3100 + 0x10 * p + 0) * 256 + 3
def Obj.CELLS_IN_USE (p : Nat) : Nat := (0x3100 + 0x10 * p + 1) * 256 + 1
def Obj.CELLS_PEAK (p : Nat) : Nat := (0x3100 + 0x10 * p + 1) * 256 + 2
def Obj.CHUNKS_IN_USE (p : Nat) : Nat := (0x3100 + 0x10 * p + 1) * 256 + 3
def Obj.QUOTA_HITS (p : Nat) : Nat := (0x3100 + 0x10 * p + 1) * 256 + 4
def Obj.CHUNK_REFUSED (p : Nat) : Nat := (0x3100 + 0x10 * p + 1) * 256 + 5

/-! A USB4 port's block (R201). -/

def Obj.LINK_MODE (k : Nat) : Nat := (0x5000 + 0x100 * k + 0) * 256 + 1
def Obj.LANES_UP (k : Nat) : Nat := (0x5000 + 0x100 * k + 0) * 256 + 2
def Obj.RX_RATE (k : Nat) : Nat := (0x5000 + 0x100 * k + 0) * 256 + 3
def Obj.TX_RATE (k : Nat) : Nat := (0x5000 + 0x100 * k + 0) * 256 + 4
def Obj.MAX_GEN (k : Nat) : Nat := (0x5000 + 0x100 * k + 0) * 256 + 5
def Obj.ASYM_ALLOW (k : Nat) : Nat := (0x5000 + 0x100 * k + 0) * 256 + 6
def Obj.DP_ALT_ALLOW (k : Nat) : Nat := (0x5000 + 0x100 * k + 0) * 256 + 7
def Obj.CL_ALLOW (k : Nat) : Nat := (0x5000 + 0x100 * k + 0) * 256 + 8
def Obj.PORT_SUB_BASE (k : Nat) : Nat := (0x5000 + 0x100 * k + 0) * 256 + 9
def Obj.PORT_SUB_COUNT (k : Nat) : Nat := (0x5000 + 0x100 * k + 0) * 256 + 10
def Obj.PORT_POOL (k : Nat) : Nat := (0x5000 + 0x100 * k + 0) * 256 + 11
def Obj.CREDIT_TOTAL (k : Nat) : Nat := (0x5000 + 0x100 * k + 0) * 256 + 12
def Obj.CREDITS_ADVERTISED (k : Nat) : Nat := (0x5000 + 0x100 * k + 0) * 256 + 13
def Obj.LINK_DOWN (k : Nat) : Nat := (0x5000 + 0x100 * k + 1) * 256 + 1
def Obj.LINK_DOWN_EVENTS (k : Nat) : Nat := (0x5000 + 0x100 * k + 1) * 256 + 2
def Obj.NARROWED (k : Nat) : Nat := (0x5000 + 0x100 * k + 1) * 256 + 3
def Obj.NARROWED_EVENTS (k : Nat) : Nat := (0x5000 + 0x100 * k + 1) * 256 + 4
def Obj.PATH_SETUP_FAILED (k : Nat) : Nat := (0x5000 + 0x100 * k + 1) * 256 + 5
def Obj.PATH_SETUP_FAILED_EVENTS (k : Nat) : Nat := (0x5000 + 0x100 * k + 1) * 256 + 6
def Obj.LINK_UPS (k : Nat) : Nat := (0x5000 + 0x100 * k + 1) * 256 + 7
def Obj.MODE_CHANGES (k : Nat) : Nat := (0x5000 + 0x100 * k + 1) * 256 + 8
def Obj.RX_PACKETS (k : Nat) : Nat := (0x5000 + 0x100 * k + 1) * 256 + 9
def Obj.TX_PACKETS (k : Nat) : Nat := (0x5000 + 0x100 * k + 1) * 256 + 10
def Obj.ASH_HEADER (k : Nat) : Nat := (0x5000 + 0x100 * k + 1) * 256 + 11
def Obj.CREDIT_STALLS (k : Nat) : Nat := (0x5000 + 0x100 * k + 1) * 256 + 12
def Obj.PA_POS (k : Nat) : Nat := (0x5000 + 0x100 * k + 4) * 256 + 1
def Obj.PA_STATE (k : Nat) : Nat := (0x5000 + 0x100 * k + 4) * 256 + 2
def Obj.PA_IN_ADAPTER (k : Nat) : Nat := (0x5000 + 0x100 * k + 4) * 256 + 3
def Obj.PA_IN_HOPID (k : Nat) : Nat := (0x5000 + 0x100 * k + 4) * 256 + 4
def Obj.PA_OUT_ADAPTER (k : Nat) : Nat := (0x5000 + 0x100 * k + 4) * 256 + 5
def Obj.PA_OUT_HOPID (k : Nat) : Nat := (0x5000 + 0x100 * k + 4) * 256 + 6
def Obj.PA_PRIORITY (k : Nat) : Nat := (0x5000 + 0x100 * k + 4) * 256 + 7
def Obj.PA_WEIGHT (k : Nat) : Nat := (0x5000 + 0x100 * k + 4) * 256 + 8
def Obj.PA_FC (k : Nat) : Nat := (0x5000 + 0x100 * k + 4) * 256 + 9
def Obj.PA_WILDCARD (k : Nat) : Nat := (0x5000 + 0x100 * k + 4) * 256 + 10
def Obj.PA_SUBSCRIBER (k : Nat) : Nat := (0x5000 + 0x100 * k + 4) * 256 + 11
def Obj.PA_CREDITS (k : Nat) : Nat := (0x5000 + 0x100 * k + 4) * 256 + 12
def Obj.PA_PARTNER (k : Nat) : Nat := (0x5000 + 0x100 * k + 4) * 256 + 13
def Obj.PA_OWED (k : Nat) : Nat := (0x5000 + 0x100 * k + 4) * 256 + 14
def Obj.PA_HELD (k : Nat) : Nat := (0x5000 + 0x100 * k + 4) * 256 + 15
def Obj.PA_OUT_GRANT (k : Nat) : Nat := (0x5000 + 0x100 * k + 4) * 256 + 16
def Obj.PA_PACKETS_IN (k : Nat) : Nat := (0x5000 + 0x100 * k + 4) * 256 + 17
def Obj.PA_PACKETS_OUT (k : Nat) : Nat := (0x5000 + 0x100 * k + 4) * 256 + 18

/-! A MAC's block (R235, R236). -/

def Obj.MAC_MODE (m : Nat) : Nat := (0x5800 + 0x20 * m + 0) * 256 + 1
def Obj.MAC_FEC (m : Nat) : Nat := (0x5800 + 0x20 * m + 0) * 256 + 2
def Obj.MAX_FRAME (m : Nat) : Nat := (0x5800 + 0x20 * m + 0) * 256 + 3
def Obj.PAUSE_RX (m : Nat) : Nat := (0x5800 + 0x20 * m + 0) * 256 + 4
def Obj.PHY_DELAY_RX (m : Nat) : Nat := (0x5800 + 0x20 * m + 0) * 256 + 5
def Obj.PHY_DELAY_TX (m : Nat) : Nat := (0x5800 + 0x20 * m + 0) * 256 + 6
def Obj.LINK_SPEED (m : Nat) : Nat := (0x5800 + 0x20 * m + 0) * 256 + 7
def Obj.MAC_ADDRESS (m : Nat) : Nat := (0x5800 + 0x20 * m + 0) * 256 + 8
def Obj.LINK_LOST (m : Nat) : Nat := (0x5800 + 0x20 * m + 1) * 256 + 1
def Obj.LINK_LOST_EVENTS (m : Nat) : Nat := (0x5800 + 0x20 * m + 1) * 256 + 2
def Obj.MACSEC_PN_NEAR (m : Nat) : Nat := (0x5800 + 0x20 * m + 1) * 256 + 3
def Obj.MACSEC_PN_NEAR_EVENTS (m : Nat) : Nat := (0x5800 + 0x20 * m + 1) * 256 + 4
def Obj.RX_FRAMES (m : Nat) : Nat := (0x5800 + 0x20 * m + 2) * 256 + 1
def Obj.RX_BYTES (m : Nat) : Nat := (0x5800 + 0x20 * m + 2) * 256 + 2
def Obj.TX_FRAMES (m : Nat) : Nat := (0x5800 + 0x20 * m + 2) * 256 + 3
def Obj.TX_BYTES (m : Nat) : Nat := (0x5800 + 0x20 * m + 2) * 256 + 4
def Obj.RX_FCS_ERRORS (m : Nat) : Nat := (0x5800 + 0x20 * m + 2) * 256 + 5
def Obj.RX_UNDERSIZE (m : Nat) : Nat := (0x5800 + 0x20 * m + 2) * 256 + 6
def Obj.RX_OVERSIZE (m : Nat) : Nat := (0x5800 + 0x20 * m + 2) * 256 + 7
def Obj.RX_PAUSE (m : Nat) : Nat := (0x5800 + 0x20 * m + 2) * 256 + 8
def Obj.MS_MODE (m : Nat) : Nat := (0x5800 + 0x20 * m + 3) * 256 + 1
def Obj.MS_CIPHER (m : Nat) : Nat := (0x5800 + 0x20 * m + 3) * 256 + 2
def Obj.MS_INCLUDE_SCI (m : Nat) : Nat := (0x5800 + 0x20 * m + 3) * 256 + 3
def Obj.MS_SCI (m : Nat) : Nat := (0x5800 + 0x20 * m + 3) * 256 + 4
def Obj.MS_TX_AN (m : Nat) : Nat := (0x5800 + 0x20 * m + 3) * 256 + 5
def Obj.MS_REPLAY_WINDOW (m : Nat) : Nat := (0x5800 + 0x20 * m + 3) * 256 + 6
def Obj.MS_PN_THRESHOLD (m : Nat) : Nat := (0x5800 + 0x20 * m + 3) * 256 + 7
def Obj.SA_POS (m : Nat) : Nat := (0x5800 + 0x20 * m + 5) * 256 + 1
def Obj.SA_VALID (m : Nat) : Nat := (0x5800 + 0x20 * m + 5) * 256 + 2
def Obj.SA_KEY_SLOT (m : Nat) : Nat := (0x5800 + 0x20 * m + 5) * 256 + 3
def Obj.SA_SSCI (m : Nat) : Nat := (0x5800 + 0x20 * m + 5) * 256 + 4
def Obj.SA_SALT (m : Nat) : Nat := (0x5800 + 0x20 * m + 5) * 256 + 5
def Obj.SA_PEER_SCI (m : Nat) : Nat := (0x5800 + 0x20 * m + 5) * 256 + 6
def Obj.SA_NEXT_PN (m : Nat) : Nat := (0x5800 + 0x20 * m + 5) * 256 + 7
def Obj.SA_FRAMES (m : Nat) : Nat := (0x5800 + 0x20 * m + 5) * 256 + 8
def Obj.COMMIT_mac (m : Nat) : Nat := (0x5800 + 0x20 * m + 5) * 256 + 254
def Obj.MS_RX_OK (m : Nat) : Nat := (0x5800 + 0x20 * m + 6) * 256 + 1
def Obj.MS_RX_INVALID (m : Nat) : Nat := (0x5800 + 0x20 * m + 6) * 256 + 2
def Obj.MS_RX_REPLAY (m : Nat) : Nat := (0x5800 + 0x20 * m + 6) * 256 + 3
def Obj.MS_RX_NO_SA (m : Nat) : Nat := (0x5800 + 0x20 * m + 6) * 256 + 4
def Obj.MS_RX_UNTAGGED (m : Nat) : Nat := (0x5800 + 0x20 * m + 6) * 256 + 5
def Obj.MS_TX_NO_SA (m : Nat) : Nat := (0x5800 + 0x20 * m + 6) * 256 + 6

/-! An NV port's block (R249). -/

def Obj.NV_MAX_SPEED (k : Nat) : Nat := (0x5A10 + 0x02 * k + 0) * 256 + 1
def Obj.NV_MAX_WIDTH (k : Nat) : Nat := (0x5A10 + 0x02 * k + 0) * 256 + 2
def Obj.NV_LINK_SPEED (k : Nat) : Nat := (0x5A10 + 0x02 * k + 0) * 256 + 3
def Obj.NV_LINK_WIDTH (k : Nat) : Nat := (0x5A10 + 0x02 * k + 0) * 256 + 4
def Obj.NV_DOWN_SUBSCRIBER (k : Nat) : Nat := (0x5A10 + 0x02 * k + 0) * 256 + 5
def Obj.NV_UP_SUBSCRIBER (k : Nat) : Nat := (0x5A10 + 0x02 * k + 0) * 256 + 6
def Obj.NV_POOL (k : Nat) : Nat := (0x5A10 + 0x02 * k + 0) * 256 + 7
def Obj.NV_REMOVED (k : Nat) : Nat := (0x5A10 + 0x02 * k + 1) * 256 + 1
def Obj.NV_REMOVED_EVENTS (k : Nat) : Nat := (0x5A10 + 0x02 * k + 1) * 256 + 2
def Obj.NV_NARROWED (k : Nat) : Nat := (0x5A10 + 0x02 * k + 1) * 256 + 3
def Obj.NV_NARROWED_EVENTS (k : Nat) : Nat := (0x5A10 + 0x02 * k + 1) * 256 + 4
def Obj.NV_COMPLETIONS_SYNTH (k : Nat) : Nat := (0x5A10 + 0x02 * k + 1) * 256 + 5
def Obj.NV_CREDIT_STALLS (k : Nat) : Nat := (0x5A10 + 0x02 * k + 1) * 256 + 6

/-! A head's block (R299, R300). -/

def Obj.H_ENABLE (h : Nat) : Nat := (0x6000 + 0x100 * h + 0) * 256 + 1
def Obj.H_TIMING (h : Nat) : Nat := (0x6000 + 0x100 * h + 0) * 256 + 2
def Obj.H_SYNC_MODE (h : Nat) : Nat := (0x6000 + 0x100 * h + 0) * 256 + 3
def Obj.H_OUT_DEPTH (h : Nat) : Nat := (0x6000 + 0x100 * h + 0) * 256 + 4
def Obj.H_DITHER (h : Nat) : Nat := (0x6000 + 0x100 * h + 0) * 256 + 5
def Obj.H_BACKGROUND (h : Nat) : Nat := (0x6000 + 0x100 * h + 0) * 256 + 6
def Obj.H_LUT_BYPASS (h : Nat) : Nat := (0x6000 + 0x100 * h + 0) * 256 + 7
def Obj.H_LINE_MATCH (h : Nat) : Nat := (0x6000 + 0x100 * h + 0) * 256 + 8
def Obj.H_PRESENT (h : Nat) : Nat := (0x6000 + 0x100 * h + 0) * 256 + 9
def Obj.H_LINE (h : Nat) : Nat := (0x6000 + 0x100 * h + 0) * 256 + 10
def Obj.H_FRAME (h : Nat) : Nat := (0x6000 + 0x100 * h + 0) * 256 + 11
def Obj.H_SOF (h : Nat) : Nat := (0x6000 + 0x100 * h + 1) * 256 + 1
def Obj.H_SOF_EVENTS (h : Nat) : Nat := (0x6000 + 0x100 * h + 1) * 256 + 2
def Obj.H_SOB (h : Nat) : Nat := (0x6000 + 0x100 * h + 1) * 256 + 3
def Obj.H_SOB_EVENTS (h : Nat) : Nat := (0x6000 + 0x100 * h + 1) * 256 + 4
def Obj.H_LINE_MATCHED (h : Nat) : Nat := (0x6000 + 0x100 * h + 1) * 256 + 5
def Obj.H_LINE_MATCHED_EVENTS (h : Nat) : Nat := (0x6000 + 0x100 * h + 1) * 256 + 6
def Obj.H_UNDERRUN (h : Nat) : Nat := (0x6000 + 0x100 * h + 1) * 256 + 7
def Obj.H_UNDERRUN_EVENTS (h : Nat) : Nat := (0x6000 + 0x100 * h + 1) * 256 + 8
def Obj.H_CONFIG_ERROR (h : Nat) : Nat := (0x6000 + 0x100 * h + 1) * 256 + 9
def Obj.H_CONFIG_ERROR_EVENTS (h : Nat) : Nat := (0x6000 + 0x100 * h + 1) * 256 + 10
def Obj.H_FRAMES (h : Nat) : Nat := (0x6000 + 0x100 * h + 2) * 256 + 1
def Obj.H_UNDERRUNS (h : Nat) : Nat := (0x6000 + 0x100 * h + 2) * 256 + 2
def Obj.H_PRESENT_TIMEOUTS (h : Nat) : Nat := (0x6000 + 0x100 * h + 2) * 256 + 3
def Obj.H_TILES_DECODED (h : Nat) : Nat := (0x6000 + 0x100 * h + 2) * 256 + 4
def Obj.UR_LAYER (h : Nat) : Nat := (0x6000 + 0x100 * h + 3) * 256 + 1
def Obj.UR_PLANE (h : Nat) : Nat := (0x6000 + 0x100 * h + 3) * 256 + 2
def Obj.UR_LINE (h : Nat) : Nat := (0x6000 + 0x100 * h + 3) * 256 + 3
def Obj.UR_FRAME (h : Nat) : Nat := (0x6000 + 0x100 * h + 3) * 256 + 4
def Obj.UR_TIME (h : Nat) : Nat := (0x6000 + 0x100 * h + 3) * 256 + 5
def Obj.UR_SEQ (h : Nat) : Nat := (0x6000 + 0x100 * h + 3) * 256 + 6
def Obj.LUT_POS (h : Nat) : Nat := (0x6000 + 0x100 * h + 5) * 256 + 1
def Obj.LUT_VALUE (h : Nat) : Nat := (0x6000 + 0x100 * h + 5) * 256 + 2

/-! A layer's block (R301). -/

def Obj.L_ENABLE (h l : Nat) : Nat := (0x6080 + 0x100 * h + 0x20 * l + 0) * 256 + 1
def Obj.L_SURFACE (h l : Nat) : Nat := (0x6080 + 0x100 * h + 0x20 * l + 0) * 256 + 2
def Obj.L_SRC_X (h l : Nat) : Nat := (0x6080 + 0x100 * h + 0x20 * l + 0) * 256 + 3
def Obj.L_SRC_Y (h l : Nat) : Nat := (0x6080 + 0x100 * h + 0x20 * l + 0) * 256 + 4
def Obj.L_WIDTH (h l : Nat) : Nat := (0x6080 + 0x100 * h + 0x20 * l + 0) * 256 + 5
def Obj.L_HEIGHT (h l : Nat) : Nat := (0x6080 + 0x100 * h + 0x20 * l + 0) * 256 + 6
def Obj.L_DST_X (h l : Nat) : Nat := (0x6080 + 0x100 * h + 0x20 * l + 0) * 256 + 7
def Obj.L_DST_Y (h l : Nat) : Nat := (0x6080 + 0x100 * h + 0x20 * l + 0) * 256 + 8
def Obj.L_ALPHA (h l : Nat) : Nat := (0x6080 + 0x100 * h + 0x20 * l + 0) * 256 + 9
def Obj.L_ALPHA_MODE (h l : Nat) : Nat := (0x6080 + 0x100 * h + 0x20 * l + 0) * 256 + 10
def Obj.L_MATRIX_PRESET (h l : Nat) : Nat := (0x6080 + 0x100 * h + 0x20 * l + 0) * 256 + 11
def Obj.L_MATRIX (h l : Nat) : Nat := (0x6080 + 0x100 * h + 0x20 * l + 1) * 256 + 1
def Obj.L_FETCH_SURFACE (h l : Nat) : Nat := (0x6080 + 0x100 * h + 0x20 * l + 2) * 256 + 1
def Obj.L_FETCH_ROW (h l : Nat) : Nat := (0x6080 + 0x100 * h + 0x20 * l + 2) * 256 + 2
def Obj.L_UNDERRUNS (h l : Nat) : Nat := (0x6080 + 0x100 * h + 0x20 * l + 2) * 256 + 3
def Obj.L_ROWS_FETCHED (h l : Nat) : Nat := (0x6080 + 0x100 * h + 0x20 * l + 2) * 256 + 4

/-! An output's block (R314). -/

def Obj.OUT_ENABLE (o : Nat) : Nat := (0x6400 + 0x10 * o + 0) * 256 + 1
def Obj.OUT_MAX_RATE (o : Nat) : Nat := (0x6400 + 0x10 * o + 0) * 256 + 2
def Obj.OUT_MAX_LANES (o : Nat) : Nat := (0x6400 + 0x10 * o + 0) * 256 + 3
def Obj.OUT_MST (o : Nat) : Nat := (0x6400 + 0x10 * o + 0) * 256 + 4
def Obj.LINK_RATE (o : Nat) : Nat := (0x6400 + 0x10 * o + 0) * 256 + 5
def Obj.LINK_LANES (o : Nat) : Nat := (0x6400 + 0x10 * o + 0) * 256 + 6
def Obj.LINK_CODING (o : Nat) : Nat := (0x6400 + 0x10 * o + 0) * 256 + 7
def Obj.SINK_PRESENT (o : Nat) : Nat := (0x6400 + 0x10 * o + 0) * 256 + 8
def Obj.HOT_PLUG (o : Nat) : Nat := (0x6400 + 0x10 * o + 1) * 256 + 1
def Obj.HOT_PLUG_EVENTS (o : Nat) : Nat := (0x6400 + 0x10 * o + 1) * 256 + 2
def Obj.RELINKED (o : Nat) : Nat := (0x6400 + 0x10 * o + 1) * 256 + 3
def Obj.RELINKED_EVENTS (o : Nat) : Nat := (0x6400 + 0x10 * o + 1) * 256 + 4
def Obj.SLOT_DROPPED (o : Nat) : Nat := (0x6400 + 0x10 * o + 1) * 256 + 5
def Obj.SLOT_DROPPED_EVENTS (o : Nat) : Nat := (0x6400 + 0x10 * o + 1) * 256 + 6
def Obj.TRAININGS (o : Nat) : Nat := (0x6400 + 0x10 * o + 2) * 256 + 1
def Obj.RELINKS (o : Nat) : Nat := (0x6400 + 0x10 * o + 2) * 256 + 2
def Obj.AUX_TIMEOUTS (o : Nat) : Nat := (0x6400 + 0x10 * o + 2) * 256 + 3

/-! A PD port's block (R355). -/

def Obj.PD_ENABLE (p : Nat) : Nat := (0x7400 + 0x40 * p + 0) * 256 + 1
def Obj.PD_STATE (p : Nat) : Nat := (0x7400 + 0x40 * p + 0) * 256 + 2
def Obj.PD_POWER_ROLE (p : Nat) : Nat := (0x7400 + 0x40 * p + 0) * 256 + 3
def Obj.PD_DATA_ROLE (p : Nat) : Nat := (0x7400 + 0x40 * p + 0) * 256 + 4
def Obj.PD_VCONN (p : Nat) : Nat := (0x7400 + 0x40 * p + 0) * 256 + 5
def Obj.CONTRACT_MV (p : Nat) : Nat := (0x7400 + 0x40 * p + 0) * 256 + 6
def Obj.CONTRACT_MA (p : Nat) : Nat := (0x7400 + 0x40 * p + 0) * 256 + 7
def Obj.CABLE_MAX_MA (p : Nat) : Nat := (0x7400 + 0x40 * p + 0) * 256 + 8
def Obj.SWAP_ALLOW (p : Nat) : Nat := (0x7400 + 0x40 * p + 0) * 256 + 9
def Obj.STAGE_ADDR (p : Nat) : Nat := (0x7400 + 0x40 * p + 0) * 256 + 10
def Obj.FRS_ARMED (p : Nat) : Nat := (0x7400 + 0x40 * p + 0) * 256 + 11
def Obj.PB_MIN (p : Nat) : Nat := (0x7400 + 0x40 * p + 1) * 256 + 1
def Obj.PB_MAX (p : Nat) : Nat := (0x7400 + 0x40 * p + 1) * 256 + 2
def Obj.PB_PRIORITY (p : Nat) : Nat := (0x7400 + 0x40 * p + 1) * 256 + 3
def Obj.PB_GRANTED (p : Nat) : Nat := (0x7400 + 0x40 * p + 1) * 256 + 4
def Obj.PB_CAP (p : Nat) : Nat := (0x7400 + 0x40 * p + 1) * 256 + 5
def Obj.PD_HARD_RESET (p : Nat) : Nat := (0x7400 + 0x40 * p + 2) * 256 + 1
def Obj.PD_HARD_RESET_EVENTS (p : Nat) : Nat := (0x7400 + 0x40 * p + 2) * 256 + 2
def Obj.PD_STAGE_FAULT (p : Nat) : Nat := (0x7400 + 0x40 * p + 2) * 256 + 3
def Obj.PD_STAGE_FAULT_EVENTS (p : Nat) : Nat := (0x7400 + 0x40 * p + 2) * 256 + 4
def Obj.CONTRACTS (p : Nat) : Nat := (0x7400 + 0x40 * p + 3) * 256 + 1
def Obj.HARD_RESETS (p : Nat) : Nat := (0x7400 + 0x40 * p + 3) * 256 + 2
def Obj.SWAPS_DONE (p : Nat) : Nat := (0x7400 + 0x40 * p + 3) * 256 + 3
def Obj.SWAP_COLLISIONS (p : Nat) : Nat := (0x7400 + 0x40 * p + 3) * 256 + 4
def Obj.SWAPS_ABANDONED (p : Nat) : Nat := (0x7400 + 0x40 * p + 3) * 256 + 5
def Obj.CUTS (p : Nat) : Nat := (0x7400 + 0x40 * p + 3) * 256 + 6
def Obj.PB_SUPPLY (p : Nat) : Nat := (0x7400 + 0x40 * p + 63) * 256 + 1
def Obj.PB_RESERVE (p : Nat) : Nat := (0x7400 + 0x40 * p + 63) * 256 + 2
def Obj.PB_AVAILABLE (p : Nat) : Nat := (0x7400 + 0x40 * p + 63) * 256 + 3
def Obj.PB_UNALLOTTED (p : Nat) : Nat := (0x7400 + 0x40 * p + 63) * 256 + 4
def Obj.ADAPTER_STATE (p : Nat) : Nat := (0x7400 + 0x40 * p + 63) * 256 + 5
def Obj.RT_DOMAIN_OFF (p : Nat) : Nat := (0x7400 + 0x40 * p + 63) * 256 + 6
def Obj.RT_DOMAIN_EMBER (p : Nat) : Nat := (0x7400 + 0x40 * p + 63) * 256 + 7
def Obj.RT_PORT_SHED (p : Nat) : Nat := (0x7400 + 0x40 * p + 63) * 256 + 8
def Obj.RT_ACTIVE (p : Nat) : Nat := (0x7400 + 0x40 * p + 63) * 256 + 9
def Obj.RT_ACTIVE_EVENTS (p : Nat) : Nat := (0x7400 + 0x40 * p + 63) * 256 + 10
def Obj.RT_OVERDRAW (p : Nat) : Nat := (0x7400 + 0x40 * p + 63) * 256 + 11
def Obj.RT_OVERDRAW_EVENTS (p : Nat) : Nat := (0x7400 + 0x40 * p + 63) * 256 + 12
def Obj.FRS_COUNT (p : Nat) : Nat := (0x7400 + 0x40 * p + 63) * 256 + 13
def Obj.FRS_FAILS (p : Nat) : Nat := (0x7400 + 0x40 * p + 63) * 256 + 14

/-! A lane's block (R371). -/

def Obj.LN_TYPE (l : Nat) : Nat := (0x7800 + 0x10 * l + 0) * 256 + 1
def Obj.LN_ENABLE (l : Nat) : Nat := (0x7800 + 0x10 * l + 0) * 256 + 2
def Obj.LN_MODULATION (l : Nat) : Nat := (0x7800 + 0x10 * l + 0) * 256 + 3
def Obj.LN_RATE (l : Nat) : Nat := (0x7800 + 0x10 * l + 0) * 256 + 4
def Obj.TX_STATE (l : Nat) : Nat := (0x7800 + 0x10 * l + 0) * 256 + 5
def Obj.RX_STATE (l : Nat) : Nat := (0x7800 + 0x10 * l + 0) * 256 + 6
def Obj.LN_LOCKED (l : Nat) : Nat := (0x7800 + 0x10 * l + 0) * 256 + 7
def Obj.TX_SLEEP_ALLOW (l : Nat) : Nat := (0x7800 + 0x10 * l + 0) * 256 + 8
def Obj.RX_SLEEP_ALLOW (l : Nat) : Nat := (0x7800 + 0x10 * l + 0) * 256 + 9
def Obj.TX_FFE_MODE (l : Nat) : Nat := (0x7800 + 0x10 * l + 1) * 256 + 1
def Obj.TX_FFE (l : Nat) : Nat := (0x7800 + 0x10 * l + 1) * 256 + 2
def Obj.TX_FFE_NOW (l : Nat) : Nat := (0x7800 + 0x10 * l + 1) * 256 + 3
def Obj.TX_SWING (l : Nat) : Nat := (0x7800 + 0x10 * l + 1) * 256 + 4
def Obj.TX_INVERT (l : Nat) : Nat := (0x7800 + 0x10 * l + 1) * 256 + 5
def Obj.RX_ADAPT (l : Nat) : Nat := (0x7800 + 0x10 * l + 2) * 256 + 1
def Obj.RX_CTLE_MODE (l : Nat) : Nat := (0x7800 + 0x10 * l + 2) * 256 + 2
def Obj.RX_CTLE (l : Nat) : Nat := (0x7800 + 0x10 * l + 2) * 256 + 3
def Obj.RX_DFE (l : Nat) : Nat := (0x7800 + 0x10 * l + 2) * 256 + 4
def Obj.RX_INVERT (l : Nat) : Nat := (0x7800 + 0x10 * l + 2) * 256 + 5
def Obj.EYE_WINDOW (l : Nat) : Nat := (0x7800 + 0x10 * l + 3) * 256 + 1
def Obj.EYE_HEIGHT (l : Nat) : Nat := (0x7800 + 0x10 * l + 3) * 256 + 2
def Obj.EYE_WIDTH (l : Nat) : Nat := (0x7800 + 0x10 * l + 3) * 256 + 3
def Obj.EYE_SCANS (l : Nat) : Nat := (0x7800 + 0x10 * l + 3) * 256 + 4
def Obj.LN_LOOP (l : Nat) : Nat := (0x7800 + 0x10 * l + 4) * 256 + 1
def Obj.PRBS_TX (l : Nat) : Nat := (0x7800 + 0x10 * l + 4) * 256 + 2
def Obj.PRBS_RX (l : Nat) : Nat := (0x7800 + 0x10 * l + 4) * 256 + 3
def Obj.PRBS_INJECT (l : Nat) : Nat := (0x7800 + 0x10 * l + 4) * 256 + 4
def Obj.PRBS_SYNC (l : Nat) : Nat := (0x7800 + 0x10 * l + 4) * 256 + 5
def Obj.PRBS_BITS (l : Nat) : Nat := (0x7800 + 0x10 * l + 4) * 256 + 6
def Obj.PRBS_ERRORS (l : Nat) : Nat := (0x7800 + 0x10 * l + 4) * 256 + 7
def Obj.LN_TEST_RATE (l : Nat) : Nat := (0x7800 + 0x10 * l + 4) * 256 + 8
def Obj.LOCK_LOST (l : Nat) : Nat := (0x7800 + 0x10 * l + 5) * 256 + 1
def Obj.LOCK_LOST_EVENTS (l : Nat) : Nat := (0x7800 + 0x10 * l + 5) * 256 + 2
def Obj.RELOCKS (l : Nat) : Nat := (0x7800 + 0x10 * l + 5) * 256 + 3
def Obj.TX_SLEEPS (l : Nat) : Nat := (0x7800 + 0x10 * l + 5) * 256 + 4
def Obj.RX_SLEEPS (l : Nat) : Nat := (0x7800 + 0x10 * l + 5) * 256 + 5
def Obj.SLEEP_ABANDONED (l : Nat) : Nat := (0x7800 + 0x10 * l + 5) * 256 + 6

/-! A domain's block (R395). -/

def Obj.DM_STATE (d : Nat) : Nat := (0x8000 + 0x08 * d + 0) * 256 + 1
def Obj.DM_DEEPEST (d : Nat) : Nat := (0x8000 + 0x08 * d + 0) * 256 + 2
def Obj.DM_IDLE_TIME (d : Nat) : Nat := (0x8000 + 0x08 * d + 0) * 256 + 3
def Obj.DM_OFF_TIME (d : Nat) : Nat := (0x8000 + 0x08 * d + 0) * 256 + 4
def Obj.DM_WAKE_ENABLE (d : Nat) : Nat := (0x8000 + 0x08 * d + 0) * 256 + 5
def Obj.DM_WAKE_TIMER (d : Nat) : Nat := (0x8000 + 0x08 * d + 0) * 256 + 6
def Obj.DM_REQUEST (d : Nat) : Nat := (0x8000 + 0x08 * d + 0) * 256 + 7
def Obj.DM_EMBER_ENTRIES (d : Nat) : Nat := (0x8000 + 0x08 * d + 1) * 256 + 1
def Obj.DM_OFF_ENTRIES (d : Nat) : Nat := (0x8000 + 0x08 * d + 1) * 256 + 2
def Obj.DM_WAKES (d : Nat) : Nat := (0x8000 + 0x08 * d + 1) * 256 + 3
def Obj.DM_SLEEPS_ABANDONED (d : Nat) : Nat := (0x8000 + 0x08 * d + 1) * 256 + 4
def Obj.DM_WAKE_TIME_MAX (d : Nat) : Nat := (0x8000 + 0x08 * d + 1) * 256 + 5
def Obj.DM_WAKE_CAUSE (d : Nat) : Nat := (0x8000 + 0x08 * d + 1) * 256 + 6
def Obj.DM_RETENTION_LOST (d : Nat) : Nat := (0x8000 + 0x08 * d + 2) * 256 + 1
def Obj.DM_RETENTION_LOST_EVENTS (d : Nat) : Nat := (0x8000 + 0x08 * d + 2) * 256 + 2
def Obj.DM_CANARY_FAILS (d : Nat) : Nat := (0x8000 + 0x08 * d + 2) * 256 + 3
def Obj.RAIL_STATE (d : Nat) : Nat := (0x8000 + 0x08 * d + 7) * 256 + 1
def Obj.RAIL_RELEASE (d : Nat) : Nat := (0x8000 + 0x08 * d + 7) * 256 + 2
def Obj.RAIL_ADDR_CORE (d : Nat) : Nat := (0x8000 + 0x08 * d + 7) * 256 + 3
def Obj.RAIL_ADDR_MEM (d : Nat) : Nat := (0x8000 + 0x08 * d + 7) * 256 + 4
def Obj.RAIL_ADDR_LANE_A (d : Nat) : Nat := (0x8000 + 0x08 * d + 7) * 256 + 5
def Obj.RAIL_ADDR_LANE_H (d : Nat) : Nat := (0x8000 + 0x08 * d + 7) * 256 + 6
def Obj.RAIL_FAULT (d : Nat) : Nat := (0x8000 + 0x08 * d + 7) * 256 + 7
def Obj.RAIL_FAULT_EVENTS (d : Nat) : Nat := (0x8000 + 0x08 * d + 7) * 256 + 8
def Obj.RAIL_REQUESTS (d : Nat) : Nat := (0x8000 + 0x08 * d + 7) * 256 + 9

/-! A Guard's block (R453, R454). -/

def Obj.G_MASTER_CLUSTER (g : Nat) : Nat := (0x9400 + 0x40 * g + 0) * 256 + 1
def Obj.G_EPOCH (g : Nat) : Nat := (0x9400 + 0x40 * g + 0) * 256 + 2
def Obj.G_DRAINED_EPOCH (g : Nat) : Nat := (0x9400 + 0x40 * g + 0) * 256 + 3
def Obj.G_COMMIT (g : Nat) : Nat := (0x9400 + 0x40 * g + 0) * 256 + 4
def Obj.G_VALID_REGIONS (g : Nat) : Nat := (0x9400 + 0x40 * g + 0) * 256 + 5
def Obj.G_VIOLATION (g : Nat) : Nat := (0x9400 + 0x40 * g + 1) * 256 + 1
def Obj.G_VIOLATION_EVENTS (g : Nat) : Nat := (0x9400 + 0x40 * g + 1) * 256 + 2
def Obj.G_REFUSED (g : Nat) : Nat := (0x9400 + 0x40 * g + 1) * 256 + 3
def Obj.G_REFUSED_EVENTS (g : Nat) : Nat := (0x9400 + 0x40 * g + 1) * 256 + 4
def Obj.G_CHECKS (g : Nat) : Nat := (0x9400 + 0x40 * g + 2) * 256 + 1
def Obj.G_VIOLATIONS (g : Nat) : Nat := (0x9400 + 0x40 * g + 2) * 256 + 2
def Obj.G_REFUSALS (g : Nat) : Nat := (0x9400 + 0x40 * g + 2) * 256 + 3
def Obj.RG_POS (g : Nat) : Nat := (0x9400 + 0x40 * g + 4) * 256 + 1
def Obj.RG_VALID (g : Nat) : Nat := (0x9400 + 0x40 * g + 4) * 256 + 2
def Obj.RG_BASE (g : Nat) : Nat := (0x9400 + 0x40 * g + 4) * 256 + 3
def Obj.RG_LIMIT (g : Nat) : Nat := (0x9400 + 0x40 * g + 4) * 256 + 4
def Obj.RG_READ (g : Nat) : Nat := (0x9400 + 0x40 * g + 4) * 256 + 5
def Obj.RG_WRITE (g : Nat) : Nat := (0x9400 + 0x40 * g + 4) * 256 + 6
def Obj.RG_OPER_VALID (g : Nat) : Nat := (0x9400 + 0x40 * g + 4) * 256 + 7
def Obj.RG_OPER_BASE (g : Nat) : Nat := (0x9400 + 0x40 * g + 4) * 256 + 8
def Obj.RG_OPER_LIMIT (g : Nat) : Nat := (0x9400 + 0x40 * g + 4) * 256 + 9
def Obj.RG_OPER_READ (g : Nat) : Nat := (0x9400 + 0x40 * g + 4) * 256 + 10
def Obj.RG_OPER_WRITE (g : Nat) : Nat := (0x9400 + 0x40 * g + 4) * 256 + 11
def Obj.RG_HITS (g : Nat) : Nat := (0x9400 + 0x40 * g + 4) * 256 + 12
def Obj.VL_POS (g : Nat) : Nat := (0x9400 + 0x40 * g + 62) * 256 + 1
def Obj.VL_SEQ (g : Nat) : Nat := (0x9400 + 0x40 * g + 62) * 256 + 2
def Obj.VL_MASTER (g : Nat) : Nat := (0x9400 + 0x40 * g + 62) * 256 + 3
def Obj.VL_GUARD (g : Nat) : Nat := (0x9400 + 0x40 * g + 62) * 256 + 4
def Obj.VL_OPERATION (g : Nat) : Nat := (0x9400 + 0x40 * g + 62) * 256 + 5
def Obj.VL_ADDRESS (g : Nat) : Nat := (0x9400 + 0x40 * g + 62) * 256 + 6
def Obj.VL_LENGTH (g : Nat) : Nat := (0x9400 + 0x40 * g + 62) * 256 + 7
def Obj.VL_REGION (g : Nat) : Nat := (0x9400 + 0x40 * g + 62) * 256 + 8
def Obj.VL_REASON (g : Nat) : Nat := (0x9400 + 0x40 * g + 62) * 256 + 9
def Obj.VL_EPOCH (g : Nat) : Nat := (0x9400 + 0x40 * g + 62) * 256 + 10
def Obj.VL_TIME (g : Nat) : Nat := (0x9400 + 0x40 * g + 62) * 256 + 11
def Obj.G_LOCK (g : Nat) : Nat := (0x9400 + 0x40 * g + 63) * 256 + 1
def Obj.VL_TOTAL (g : Nat) : Nat := (0x9400 + 0x40 * g + 63) * 256 + 2
def Obj.VL_DROPPED (g : Nat) : Nat := (0x9400 + 0x40 * g + 63) * 256 + 3

end Sys2Proof.Machine
end

