-- ==== Sys2Proof/Machine/ObjRows.lean ====
section
/-! DEFINITION. The object dictionary's rows (R43, R45, R46, R54, R55), one for each object that the spec's object tables
define: index or block offset, first sub-index, how many sub-indices repeat it, type, access code, default, range,
persistence, staging, selector, and whether it is a flag, an event count, a counter or a peak. -/

namespace Sys2Proof.Machine

/-- Table 4.1, the widths in bytes. -/
inductive Ty where
  | bool | u (n : Nat) | i (n : Nat) | octets (n : Nat) | str (n : Nat) | domain (n : Nat)
deriving DecidableEq, Repr, Inhabited

/-- Table 4.2. -/
inductive Acc where
  | const | ro | rw | wo | rwi
deriving DecidableEq, Repr, Inhabited

/-- A default: a number, zeros or an empty string, one that the instance decides, or one the hub sets from hardware. -/
inductive Dflt where
  | int (v : Int) | zeros | per | hw
deriving DecidableEq, Repr, Inhabited

/-- What a write may carry: anything the type holds, a range, one of a range or 0 or another special value, an
enumeration, a mask of the bits that are not reserved, or a check that the object's chapter writes out. -/
inductive Rng where
  | any | range (lo hi : Int) | zeroOr (lo hi : Int) | orV (v lo hi : Int) | enum (l : List Int) | mask (m : Nat) | per
deriving DecidableEq, Repr, Inhabited

/-- R54: flags, their event counts, counters and peaks. -/
inductive Kind where
  | plain | flag | count | counter | peak
deriving DecidableEq, Repr, Inhabited

/-- One row of an object table. -/
structure Row where
  off : Nat
  sub : Nat
  cnt : Nat
  ty : Ty
  acc : Acc
  dflt : Dflt
  rng : Rng
  pers : Bool
  staged : Bool
  sel : Bool
  kind : Kind
deriving DecidableEq, Repr, Inhabited

/-- The global objects of indices 0x1000 to 0x10FF. -/
def rowsPage10 : List Row := [
  ⟨0x1000, 1, 1, .u 4, .const, .int 0x4257, .any, false, false, false, .plain⟩,
  ⟨0x1000, 2, 1, .u 2, .const, .hw, .any, false, false, false, .plain⟩,
  ⟨0x1000, 3, 1, .u 1, .const, .hw, .any, false, false, false, .plain⟩,
  ⟨0x1000, 4, 1, .octets 16, .const, .hw, .any, false, false, false, .plain⟩,
  ⟨0x1000, 5, 1, .u 4, .const, .per, .any, false, false, false, .plain⟩,
  ⟨0x1008, 1, 1, .u 4, .const, .hw, .any, false, false, false, .plain⟩,
  ⟨0x1008, 2, 1, .u 4, .ro, .hw, .any, false, false, false, .plain⟩,
  ⟨0x1008, 3, 1, .u 4, .ro, .hw, .any, false, false, false, .plain⟩,
  ⟨0x1008, 4, 1, .u 4, .ro, .hw, .any, false, false, false, .plain⟩,
  ⟨0x1008, 5, 1, .u 4, .ro, .hw, .any, false, false, false, .plain⟩,
  ⟨0x1008, 6, 1, .u 4, .ro, .hw, .any, false, false, false, .plain⟩,
  ⟨0x1010, 1, 1, .octets 54, .const, .hw, .any, false, false, false, .plain⟩,
  ⟨0x1010, 2, 1, .u 2, .const, .hw, .any, false, false, false, .plain⟩,
  ⟨0x1020, 1, 1, .u 4, .wo, .hw, .enum [0x65766173], true, false, false, .plain⟩,
  ⟨0x1020, 2, 1, .u 4, .wo, .hw, .enum [0x64616F6C], false, false, false, .plain⟩,
  ⟨0x1020, 3, 1, .u 1, .ro, .int 0, .any, false, false, false, .plain⟩,
  ⟨0x1020, 4, 1, .u 4, .ro, .hw, .any, false, false, false, .plain⟩,
  ⟨0x1020, 5, 1, .bool, .rw, .int 0, .any, false, false, false, .flag⟩,
  ⟨0x1020, 6, 1, .u 1, .ro, .int 0, .any, false, false, false, .count⟩]

/-- The global objects of indices 0x1100 to 0x11FF. -/
def rowsPage11 : List Row := [
  ⟨0x1100, 1, 1, .u 1, .ro, .hw, .any, false, false, false, .plain⟩,
  ⟨0x1100, 2, 1, .u 1, .rw, .int 0, .range 0 0x7E, true, false, false, .plain⟩,
  ⟨0x1100, 3, 1, .u 2, .rw, .int 1000, .zeroOr 10 10000, true, false, false, .plain⟩,
  ⟨0x1100, 4, 1, .u 1, .rw, .int 1, .enum [0, 1], true, false, false, .plain⟩,
  ⟨0x1100, 5, 1, .u 1, .rw, .int 0, .enum [0, 1, 2], true, false, false, .plain⟩,
  ⟨0x1100, 6, 1, .u 2, .rw, .int 10, .range 1 1000, true, false, false, .plain⟩,
  ⟨0x1100, 7, 1, .u 1, .rw, .int 0x7F, .range 1 0x7F, true, false, false, .plain⟩,
  ⟨0x1100, 8, 1, .u 2, .rw, .int 0, .zeroOr 10 10000, true, false, false, .plain⟩,
  ⟨0x1101, 1, 1, .u 1, .rw, .int 0, .range 0 0x7E, true, false, false, .plain⟩,
  ⟨0x1101, 2, 1, .u 2, .rw, .int 3000, .range 100 60000, true, false, false, .plain⟩,
  ⟨0x1101, 3, 1, .bool, .rw, .int 0, .any, false, false, false, .flag⟩,
  ⟨0x1101, 4, 1, .u 1, .ro, .int 0, .any, false, false, false, .count⟩,
  ⟨0x1101, 5, 1, .bool, .rw, .int 0, .any, false, false, false, .flag⟩,
  ⟨0x1101, 6, 1, .u 1, .ro, .int 0, .any, false, false, false, .count⟩,
  ⟨0x1102, 1, 1, .bool, .rw, .int 0, .any, true, false, false, .plain⟩,
  ⟨0x1102, 2, 1, .u 4, .rw, .int 0, .any, true, false, false, .plain⟩,
  ⟨0x1102, 3, 1, .u 2, .rw, .int 1, .range 1 4094, true, false, false, .plain⟩,
  ⟨0x1102, 4, 1, .u 1, .rw, .int 0, .mask 0x3F, true, false, false, .plain⟩,
  ⟨0x1102, 5, 1, .u 4, .rw, .int 0, .any, true, false, false, .plain⟩,
  ⟨0x1102, 6, 1, .octets 6, .const, .hw, .any, false, false, false, .plain⟩,
  ⟨0x1103, 1, 1, .u 4, .ro, .int 0, .any, false, false, false, .counter⟩,
  ⟨0x1103, 2, 1, .u 4, .ro, .int 0, .any, false, false, false, .counter⟩,
  ⟨0x1103, 3, 1, .u 4, .ro, .int 0, .any, false, false, false, .counter⟩,
  ⟨0x1103, 4, 1, .u 4, .ro, .int 0, .any, false, false, false, .counter⟩,
  ⟨0x1103, 5, 1, .u 4, .ro, .int 0, .any, false, false, false, .counter⟩,
  ⟨0x1103, 6, 1, .u 4, .ro, .int 0, .any, false, false, false, .counter⟩,
  ⟨0x1104, 1, 1, .str 200, .rw, .zeros, .any, true, false, false, .plain⟩]

/-- The global objects of indices 0x1200 to 0x12FF. -/
def rowsPage12 : List Row := [
  ⟨0x1200, 1, 1, .u 1, .ro, .int 0, .any, false, false, false, .plain⟩,
  ⟨0x1200, 2, 1, .bool, .rw, .int 0, .any, false, false, false, .flag⟩,
  ⟨0x1200, 3, 1, .u 1, .ro, .int 0, .any, false, false, false, .count⟩,
  ⟨0x1200, 4, 1, .u 2, .ro, .int 0, .any, false, false, false, .plain⟩,
  ⟨0x1200, 5, 1, .u 4, .wo, .hw, .enum [0x72616C63], false, false, false, .plain⟩,
  ⟨0x1200, 6, 1, .u 2, .ro, .int 0, .any, false, false, false, .plain⟩,
  ⟨0x1201, 1, 1, .u 2, .const, .int 64, .any, false, false, false, .plain⟩,
  ⟨0x1202, 1, 1, .u 2, .rw, .int 0, .any, false, false, true, .plain⟩,
  ⟨0x1202, 2, 1, .bool, .rw, .per, .any, true, true, false, .plain⟩,
  ⟨0x1202, 3, 1, .u 2, .rw, .per, .any, true, true, false, .plain⟩,
  ⟨0x1202, 4, 1, .u 2, .rw, .per, .range 1 65535, true, true, false, .plain⟩,
  ⟨0x1202, 5, 1, .u 4, .rw, .per, .any, true, true, false, .plain⟩,
  ⟨0x1202, 6, 1, .u 1, .rw, .per, .enum [0, 1, 2], true, true, false, .plain⟩,
  ⟨0x1202, 7, 1, .u 1, .rw, .per, .range 1 3, true, true, false, .plain⟩,
  ⟨0x1202, 8, 1, .bool, .rw, .per, .any, true, true, false, .plain⟩,
  ⟨0x1202, 9, 1, .u 4, .ro, .int 0, .any, false, false, false, .counter⟩,
  ⟨0x1202, 254, 1, .u 1, .wo, .hw, .enum [1, 2], false, false, false, .plain⟩,
  ⟨0x1202, 255, 1, .bool, .ro, .int 0, .any, false, false, false, .plain⟩,
  ⟨0x1203, 1, 1, .u 2, .const, .int 256, .any, false, false, false, .plain⟩,
  ⟨0x1204, 1, 1, .u 2, .rw, .int 0, .any, false, false, true, .plain⟩,
  ⟨0x1204, 2, 1, .u 4, .ro, .int 0, .any, false, false, false, .plain⟩,
  ⟨0x1204, 3, 1, .u 2, .ro, .int 0, .any, false, false, false, .plain⟩,
  ⟨0x1204, 4, 1, .u 2, .ro, .int 0, .any, false, false, false, .plain⟩,
  ⟨0x1204, 5, 1, .u 1, .ro, .int 0, .any, false, false, false, .plain⟩,
  ⟨0x1204, 6, 1, .u 1, .ro, .int 0xFF, .any, false, false, false, .plain⟩,
  ⟨0x1204, 7, 1, .u 8, .ro, .int 0, .any, false, false, false, .plain⟩,
  ⟨0x1205, 1, 1, .u 4, .ro, .int 0, .any, false, false, false, .plain⟩]

/-- The global objects of indices 0x1300 to 0x13FF. -/
def rowsPage13 : List Row := [
  ⟨0x1300, 1, 1, .u 8, .ro, .hw, .any, false, false, false, .plain⟩,
  ⟨0x1300, 2, 1, .u 1, .ro, .int 0, .any, false, false, false, .plain⟩,
  ⟨0x1300, 3, 1, .bool, .rw, .int 0, .any, false, false, false, .flag⟩,
  ⟨0x1300, 4, 1, .u 1, .ro, .int 0, .any, false, false, false, .count⟩,
  ⟨0x1300, 5, 1, .i 4, .ro, .int 0, .any, false, false, false, .plain⟩,
  ⟨0x1300, 6, 1, .u 4, .ro, .int 0, .any, false, false, false, .counter⟩,
  ⟨0x1301, 1, 1, .u 2, .rw, .int 0x321, .per, true, false, false, .plain⟩,
  ⟨0x1301, 2, 1, .u 4, .rw, .int 10000, .range 100 1000000, true, false, false, .plain⟩,
  ⟨0x1301, 3, 1, .u 2, .rw, .int 200, .range 10 1000, true, false, false, .plain⟩,
  ⟨0x1302, 1, 1, .u 1, .rw, .int 0, .mask 0x3F, true, false, false, .plain⟩,
  ⟨0x1302, 2, 1, .u 1, .rw, .int 0, .range 0 127, true, false, false, .plain⟩,
  ⟨0x1302, 3, 1, .u 1, .rw, .int 255, .any, true, false, false, .plain⟩]

/-- The global objects of indices 0x1400 to 0x14FF. -/
def rowsPage14 : List Row := [
  ⟨0x1400, 1, 1, .u 2, .const, .int 429, .any, false, false, false, .plain⟩,
  ⟨0x1401, 1, 1, .u 2, .rw, .int 0, .any, false, false, true, .plain⟩,
  ⟨0x1401, 2, 1, .u 2, .ro, .hw, .any, false, false, false, .plain⟩,
  ⟨0x1401, 3, 1, .u 2, .ro, .hw, .any, false, false, false, .plain⟩,
  ⟨0x1401, 4, 1, .u 1, .ro, .hw, .any, false, false, false, .plain⟩,
  ⟨0x1401, 5, 1, .bool, .rw, .int 0, .any, false, false, false, .flag⟩,
  ⟨0x1401, 6, 1, .u 1, .ro, .int 0, .any, false, false, false, .count⟩,
  ⟨0x1401, 7, 1, .u 1, .ro, .hw, .any, false, false, false, .plain⟩,
  ⟨0x1401, 8, 1, .u 1, .ro, .hw, .any, false, false, false, .plain⟩,
  ⟨0x1402, 1, 1, .u 2, .rw, .int 0, .any, false, false, true, .plain⟩,
  ⟨0x1402, 2, 1, .u 2, .ro, .int 0, .any, false, false, false, .plain⟩,
  ⟨0x1403, 1, 1, .u 2, .wo, .hw, .any, false, false, false, .plain⟩,
  ⟨0x1403, 2, 1, .u 2, .wo, .hw, .any, false, false, false, .plain⟩,
  ⟨0x1403, 3, 1, .u 2, .wo, .hw, .any, false, false, false, .plain⟩]

/-- The global objects of indices 0x2800 to 0x28FF. -/
def rowsPage28 : List Row := [
  ⟨0x2800, 1, 1, .bool, .rw, .int 1, .any, true, false, false, .plain⟩,
  ⟨0x2800, 2, 1, .u 1, .rw, .int 8, .range 1 16, true, false, false, .plain⟩,
  ⟨0x2800, 3, 1, .bool, .rw, .int 1, .any, true, false, false, .plain⟩,
  ⟨0x2800, 4, 1, .bool, .rw, .int 1, .any, true, false, false, .plain⟩,
  ⟨0x2800, 5, 1, .u 1, .rw, .int 8, .range 1 16, true, false, false, .plain⟩,
  ⟨0x2801, 1, 1, .u 8, .ro, .int 0, .any, false, false, false, .counter⟩,
  ⟨0x2801, 2, 1, .u 8, .ro, .int 0, .any, false, false, false, .counter⟩,
  ⟨0x2801, 3, 1, .u 8, .ro, .int 0, .any, false, false, false, .counter⟩,
  ⟨0x2801, 4, 1, .u 8, .ro, .int 0, .any, false, false, false, .counter⟩,
  ⟨0x2801, 5, 1, .u 8, .ro, .int 0, .any, false, false, false, .counter⟩,
  ⟨0x2801, 6, 1, .u 8, .ro, .int 0, .any, false, false, false, .counter⟩]

/-- The global objects of indices 0x3000 to 0x30FF. -/
def rowsPage30 : List Row := [
  ⟨0x3000, 1, 1, .u 2, .const, .hw, .any, false, false, false, .plain⟩,
  ⟨0x3000, 2, 1, .u 2, .const, .hw, .any, false, false, false, .plain⟩,
  ⟨0x3000, 3, 1, .u 4, .const, .hw, .any, false, false, false, .plain⟩,
  ⟨0x3000, 4, 1, .u 2, .const, .int 1024, .any, false, false, false, .plain⟩,
  ⟨0x3000, 5, 1, .u 1, .ro, .int 32, .any, false, false, false, .plain⟩,
  ⟨0x3000, 6, 1, .u 4, .ro, .int 0xFFFFFFFF, .any, false, false, false, .plain⟩,
  ⟨0x3001, 1, 1, .u 4, .ro, .int 0, .any, false, false, false, .plain⟩,
  ⟨0x3001, 2, 1, .u 4, .rw, .int 0, .any, false, false, false, .peak⟩,
  ⟨0x3001, 3, 1, .u 4, .ro, .int 0, .any, false, false, false, .plain⟩,
  ⟨0x3001, 4, 1, .u 4, .ro, .int 0, .any, false, false, false, .plain⟩,
  ⟨0x3001, 5, 1, .u 8, .ro, .int 0, .any, false, false, false, .counter⟩,
  ⟨0x3002, 1, 1, .u 4, .ro, .int 0, .any, false, false, false, .counter⟩,
  ⟨0x3002, 2, 1, .u 8, .ro, .int 0, .any, false, false, false, .counter⟩,
  ⟨0x3002, 3, 1, .u 4, .ro, .int 0, .any, false, false, false, .counter⟩,
  ⟨0x3002, 4, 1, .bool, .rw, .int 0, .any, false, false, false, .flag⟩,
  ⟨0x3002, 5, 1, .u 1, .ro, .int 0, .any, false, false, false, .count⟩,
  ⟨0x3002, 6, 1, .u 4, .rw, .int 3600, .range 60 86400, true, false, false, .plain⟩,
  ⟨0x3002, 7, 1, .u 4, .ro, .int 0, .any, false, false, false, .counter⟩,
  ⟨0x3003, 1, 1, .u 1, .wo, .hw, .enum [1], false, false, false, .plain⟩,
  ⟨0x3003, 2, 1, .u 1, .ro, .int 0, .any, false, false, false, .plain⟩,
  ⟨0x3003, 3, 1, .bool, .rw, .int 0, .any, false, false, false, .flag⟩,
  ⟨0x3003, 4, 1, .u 1, .ro, .int 0, .any, false, false, false, .count⟩,
  ⟨0x3003, 5, 1, .u 2, .rw, .int 1000, .zeroOr 10 60000, true, false, false, .plain⟩,
  ⟨0x3004, 1, 1, .u 2, .const, .int 32, .any, false, false, false, .plain⟩,
  ⟨0x3005, 1, 1, .u 2, .rw, .int 0, .any, false, false, true, .plain⟩,
  ⟨0x3005, 2, 1, .u 1, .ro, .int 0, .any, false, false, false, .plain⟩,
  ⟨0x3005, 3, 1, .u 2, .ro, .hw, .any, false, false, false, .plain⟩,
  ⟨0x3005, 4, 1, .u 2, .ro, .int 0, .any, false, false, false, .plain⟩,
  ⟨0x3005, 5, 1, .u 1, .ro, .int 0, .any, false, false, false, .plain⟩,
  ⟨0x3005, 6, 1, .u 2, .ro, .int 0, .any, false, false, false, .plain⟩,
  ⟨0x3005, 7, 1, .u 2, .ro, .int 0, .any, false, false, false, .plain⟩,
  ⟨0x3005, 8, 1, .u 2, .ro, .int 0, .any, false, false, false, .plain⟩,
  ⟨0x3005, 9, 1, .u 1, .ro, .int 0, .any, false, false, false, .plain⟩,
  ⟨0x3005, 10, 1, .u 2, .ro, .int 0, .any, false, false, false, .plain⟩,
  ⟨0x3005, 11, 1, .bool, .ro, .int 0, .any, false, false, false, .plain⟩,
  ⟨0x3005, 12, 1, .u 2, .ro, .int 0, .any, false, false, false, .plain⟩,
  ⟨0x3005, 16, 8, .u 4, .ro, .int 0, .any, false, false, false, .counter⟩,
  ⟨0x3005, 24, 8, .u 4, .ro, .int 0, .any, false, false, false, .counter⟩]

/-- The global objects of indices 0x3400 to 0x34FF. Part 1. -/
def rowsPage34Part0 : List Row := [
  ⟨0x3400, 1, 1, .u 2, .ro, .int 0, .any, false, false, false, .plain⟩,
  ⟨0x3400, 2, 1, .u 2, .ro, .int 0, .any, false, false, false, .plain⟩,
  ⟨0x3400, 3, 1, .u 8, .ro, .int 0, .any, false, false, false, .counter⟩,
  ⟨0x3400, 4, 1, .u 8, .ro, .int 0, .any, false, false, false, .counter⟩,
  ⟨0x3400, 5, 1, .u 8, .ro, .int 0, .any, false, false, false, .counter⟩,
  ⟨0x3400, 6, 1, .u 8, .ro, .int 0, .any, false, false, false, .counter⟩,
  ⟨0x3400, 7, 1, .u 2, .rw, .int 0xFFFF, .orV 0xFFFF 0 1023, true, false, false, .plain⟩,
  ⟨0x3400, 8, 1, .u 8, .ro, .int 0, .any, false, false, false, .counter⟩,
  ⟨0x3402, 1, 32, .u 2, .rw, .per, .mask 0x0FFF, true, false, false, .plain⟩,
  ⟨0x3403, 1, 32, .u 2, .rw, .int 0xFFFF, .orV 0xFFFF 0 1023, true, false, false, .plain⟩,
  ⟨0x3404, 1, 1, .u 2, .const, .int 16, .any, false, false, false, .plain⟩,
  ⟨0x3405, 1, 1, .u 2, .rw, .int 0, .any, false, false, true, .plain⟩,
  ⟨0x3405, 2, 1, .u 1, .rwi, .int 0, .range 0 10, true, false, false, .plain⟩,
  ⟨0x3405, 3, 1, .octets 48, .rwi, .per, .per, true, false, false, .plain⟩,
  ⟨0x3405, 4, 1, .u 2, .ro, .int 0, .any, false, false, false, .plain⟩,
  ⟨0x3406, 1, 1, .u 2, .const, .int 8192, .any, false, false, false, .plain⟩,
  ⟨0x3407, 1, 1, .u 2, .rw, .int 0, .any, false, false, true, .plain⟩,
  ⟨0x3407, 2, 1, .bool, .rw, .int 0, .any, true, true, false, .plain⟩,
  ⟨0x3407, 3, 1, .octets 48, .rw, .zeros, .any, true, true, false, .plain⟩,
  ⟨0x3407, 4, 1, .u 1, .rw, .int 0, .enum [0, 1, 2], true, true, false, .plain⟩,
  ⟨0x3407, 5, 1, .u 2, .rw, .int 0, .range 0 1023, true, true, false, .plain⟩,
  ⟨0x3407, 6, 1, .u 1, .rw, .int 0, .range 0 7, true, true, false, .plain⟩,
  ⟨0x3407, 7, 1, .u 1, .rw, .int 0xFF, .orV 0xFF 0 7, true, true, false, .plain⟩,
  ⟨0x3407, 8, 1, .u 2, .rw, .int 0, .range 0 511, true, true, false, .plain⟩,
  ⟨0x3407, 9, 1, .bool, .rw, .int 0, .any, true, true, false, .plain⟩,
  ⟨0x3407, 10, 1, .bool, .rw, .int 0, .any, true, true, false, .plain⟩,
  ⟨0x3407, 11, 1, .u 2, .rw, .per, .per, true, true, false, .plain⟩,
  ⟨0x3407, 12, 1, .u 8, .ro, .int 0, .any, false, false, false, .counter⟩,
  ⟨0x3407, 13, 1, .u 8, .ro, .int 0, .any, false, false, false, .counter⟩,
  ⟨0x3407, 254, 1, .u 1, .wo, .hw, .enum [1, 2], false, false, false, .plain⟩,
  ⟨0x3407, 255, 1, .bool, .ro, .int 0, .any, false, false, false, .plain⟩,
  ⟨0x3408, 1, 1, .octets 48, .rw, .zeros, .any, false, false, true, .plain⟩,
  ⟨0x3408, 2, 1, .u 2, .ro, .hw, .any, false, false, false, .plain⟩,
  ⟨0x3408, 3, 1, .u 2, .ro, .hw, .any, false, false, false, .plain⟩,
  ⟨0x3408, 4, 1, .u 2, .ro, .hw, .any, false, false, false, .plain⟩,
  ⟨0x3408, 5, 1, .u 2, .ro, .hw, .any, false, false, false, .plain⟩,
  ⟨0x3409, 1, 1, .u 2, .const, .int 256, .any, false, false, false, .plain⟩,
  ⟨0x340A, 1, 1, .u 2, .rw, .int 0, .any, false, false, true, .plain⟩,
  ⟨0x340A, 2, 1, .bool, .rw, .int 0, .any, true, true, false, .plain⟩,
  ⟨0x340A, 3, 1, .octets 48, .rw, .zeros, .any, true, true, false, .plain⟩]

/-- The global objects of indices 0x3400 to 0x34FF. Part 2. -/
def rowsPage34Part1 : List Row := [
  ⟨0x340A, 4, 1, .u 1, .rw, .int 0, .enum [0, 1, 2], true, true, false, .plain⟩,
  ⟨0x340A, 5, 1, .u 2, .rw, .int 0, .range 0 1023, true, true, false, .plain⟩,
  ⟨0x340A, 6, 1, .u 1, .rw, .int 0, .range 0 7, true, true, false, .plain⟩,
  ⟨0x340A, 7, 1, .u 1, .rw, .int 0xFF, .orV 0xFF 0 7, true, true, false, .plain⟩,
  ⟨0x340A, 8, 1, .u 2, .rw, .int 0, .range 0 511, true, true, false, .plain⟩,
  ⟨0x340A, 9, 1, .bool, .rw, .int 0, .any, true, true, false, .plain⟩,
  ⟨0x340A, 10, 1, .bool, .rw, .int 0, .any, true, true, false, .plain⟩,
  ⟨0x340A, 11, 1, .u 2, .rw, .per, .per, true, true, false, .plain⟩,
  ⟨0x340A, 12, 1, .u 8, .ro, .int 0, .any, false, false, false, .counter⟩,
  ⟨0x340A, 13, 1, .u 8, .ro, .int 0, .any, false, false, false, .counter⟩,
  ⟨0x340A, 14, 1, .octets 48, .rw, .zeros, .any, true, true, false, .plain⟩,
  ⟨0x340A, 254, 1, .u 1, .wo, .hw, .enum [1, 2], false, false, false, .plain⟩,
  ⟨0x340A, 255, 1, .bool, .ro, .int 0, .any, false, false, false, .plain⟩,
  ⟨0x340B, 1, 1, .u 2, .const, .int 512, .any, false, false, false, .plain⟩,
  ⟨0x340C, 1, 1, .u 2, .rw, .int 0, .any, false, false, true, .plain⟩,
  ⟨0x340C, 2, 1, .u 1, .rw, .int 0, .range 0 16, true, true, false, .plain⟩,
  ⟨0x340C, 3, 16, .u 2, .rw, .int 0, .range 0 1023, true, true, false, .plain⟩,
  ⟨0x340C, 254, 1, .u 1, .wo, .hw, .enum [1, 2], false, false, false, .plain⟩,
  ⟨0x340C, 255, 1, .bool, .ro, .int 0, .any, false, false, false, .plain⟩,
  ⟨0x3410, 1, 32, .u 8, .ro, .int 0, .any, false, false, false, .counter⟩,
  ⟨0x3411, 1, 32, .u 8, .ro, .int 0, .any, false, false, false, .counter⟩,
  ⟨0x3412, 1, 32, .u 8, .ro, .int 0, .any, false, false, false, .counter⟩]

/-- The global objects of indices 0x3400 to 0x34FF. -/
def rowsPage34 : List Row := rowsPage34Part0 ++ rowsPage34Part1

/-- The global objects of indices 0x3800 to 0x38FF. Part 1. -/
def rowsPage38Part0 : List Row := [
  ⟨0x3800, 1, 1, .u 2, .const, .int 1024, .any, false, false, false, .plain⟩,
  ⟨0x3800, 2, 1, .u 1, .const, .int 8, .any, false, false, false, .plain⟩,
  ⟨0x3800, 3, 1, .u 8, .ro, .int 0, .any, false, false, false, .plain⟩,
  ⟨0x3800, 4, 1, .u 8, .ro, .int 0, .any, false, false, false, .counter⟩,
  ⟨0x3801, 1, 1, .u 2, .const, .int 1024, .any, false, false, false, .plain⟩,
  ⟨0x3802, 1, 1, .u 2, .rw, .int 0, .any, false, false, true, .plain⟩,
  ⟨0x3802, 2, 1, .bool, .rw, .int 0, .any, true, true, false, .plain⟩,
  ⟨0x3802, 3, 1, .u 2, .rw, .int 0, .range 0 255, true, true, false, .plain⟩,
  ⟨0x3802, 4, 1, .u 1, .rw, .int 0, .range 0 15, true, true, false, .plain⟩,
  ⟨0x3802, 5, 1, .u 2, .rw, .int 1, .range 1 1024, true, true, false, .plain⟩,
  ⟨0x3802, 6, 1, .u 4, .rw, .int 0, .range 0 200000000, true, true, false, .plain⟩,
  ⟨0x3802, 7, 1, .u 4, .rw, .int 0, .range 0 16777216, true, true, false, .plain⟩,
  ⟨0x3802, 8, 1, .u 4, .rw, .int 200000000, .range 0 200000000, true, true, false, .plain⟩,
  ⟨0x3802, 9, 1, .u 4, .rw, .int 16777216, .range 0 16777216, true, true, false, .plain⟩,
  ⟨0x3802, 10, 1, .i 4, .ro, .int 0, .any, false, false, false, .plain⟩,
  ⟨0x3802, 11, 1, .i 4, .ro, .int 0, .any, false, false, false, .plain⟩,
  ⟨0x3802, 12, 1, .u 4, .ro, .int 0, .any, false, false, false, .plain⟩,
  ⟨0x3802, 13, 1, .u 8, .ro, .int 0, .any, false, false, false, .plain⟩,
  ⟨0x3802, 14, 1, .u 8, .ro, .int 0, .any, false, false, false, .counter⟩,
  ⟨0x3802, 15, 1, .u 8, .ro, .int 0, .any, false, false, false, .counter⟩,
  ⟨0x3802, 16, 1, .u 8, .ro, .int 0, .any, false, false, false, .counter⟩,
  ⟨0x3802, 254, 1, .u 1, .wo, .hw, .enum [1, 2], false, false, false, .plain⟩,
  ⟨0x3802, 255, 1, .bool, .ro, .int 0, .any, false, false, false, .plain⟩,
  ⟨0x3803, 1, 1, .u 2, .const, .int 256, .any, false, false, false, .plain⟩,
  ⟨0x3804, 1, 1, .u 2, .rw, .int 0, .any, false, false, true, .plain⟩,
  ⟨0x3804, 2, 1, .u 1, .rw, .int 0, .range 0 7, true, true, false, .plain⟩,
  ⟨0x3804, 3, 1, .u 2, .rw, .int 1, .range 1 1024, true, true, false, .plain⟩,
  ⟨0x3804, 4, 1, .u 4, .rw, .int 0, .range 0 200000000, true, true, false, .plain⟩,
  ⟨0x3804, 5, 1, .u 4, .rw, .int 0, .range 0 16777216, true, true, false, .plain⟩,
  ⟨0x3804, 6, 1, .u 4, .rw, .int 200000000, .range 0 200000000, true, true, false, .plain⟩,
  ⟨0x3804, 7, 1, .u 4, .rw, .int 16777216, .range 0 16777216, true, true, false, .plain⟩,
  ⟨0x3804, 8, 1, .i 4, .ro, .int 0, .any, false, false, false, .plain⟩,
  ⟨0x3804, 9, 1, .i 4, .ro, .int 0, .any, false, false, false, .plain⟩,
  ⟨0x3804, 10, 1, .u 2, .ro, .int 0, .any, false, false, false, .plain⟩,
  ⟨0x3804, 11, 1, .u 8, .ro, .int 0, .any, false, false, false, .counter⟩,
  ⟨0x3804, 12, 1, .u 8, .ro, .int 0, .any, false, false, false, .counter⟩,
  ⟨0x3804, 254, 1, .u 1, .wo, .hw, .enum [1, 2], false, false, false, .plain⟩,
  ⟨0x3804, 255, 1, .bool, .ro, .int 0, .any, false, false, false, .plain⟩,
  ⟨0x3805, 1, 1, .u 2, .const, .int 32, .any, false, false, false, .plain⟩,
  ⟨0x3806, 1, 1, .u 2, .rw, .int 0, .any, false, false, true, .plain⟩]

/-- The global objects of indices 0x3800 to 0x38FF. Part 2. -/
def rowsPage38Part1 : List Row := [
  ⟨0x3806, 2, 1, .bool, .rw, .int 0, .any, true, true, false, .plain⟩,
  ⟨0x3806, 3, 1, .u 4, .rw, .int 200000000, .range 1 200000000, true, true, false, .plain⟩,
  ⟨0x3806, 4, 1, .u 4, .rw, .int 16777216, .range 0 16777216, true, true, false, .plain⟩,
  ⟨0x3806, 5, 1, .bool, .rw, .int 1, .any, true, true, false, .plain⟩,
  ⟨0x3806, 6, 1, .i 1, .rw, .per, .range (-64) 64, true, true, false, .plain⟩,
  ⟨0x3806, 7, 1, .i 4, .ro, .int 0, .any, false, false, false, .plain⟩,
  ⟨0x3806, 8, 1, .u 4, .ro, .hw, .any, false, false, false, .plain⟩,
  ⟨0x3806, 9, 1, .u 8, .ro, .int 0, .any, false, false, false, .plain⟩,
  ⟨0x3806, 10, 1, .u 8, .ro, .int 0, .any, false, false, false, .counter⟩,
  ⟨0x3806, 11, 1, .u 8, .ro, .int 0, .any, false, false, false, .counter⟩,
  ⟨0x3806, 254, 1, .u 1, .wo, .hw, .enum [1, 2], false, false, false, .plain⟩,
  ⟨0x3806, 255, 1, .bool, .ro, .int 0, .any, false, false, false, .plain⟩,
  ⟨0x3807, 1, 1, .u 2, .const, .int 8192, .any, false, false, false, .plain⟩,
  ⟨0x3808, 1, 1, .u 2, .rw, .int 0, .any, false, false, true, .plain⟩,
  ⟨0x3808, 2, 1, .u 4, .ro, .int 0, .any, false, false, false, .plain⟩,
  ⟨0x3808, 3, 1, .u 8, .ro, .int 0, .any, false, false, false, .plain⟩,
  ⟨0x3808, 4, 1, .u 8, .ro, .int 0, .any, false, false, false, .counter⟩,
  ⟨0x3808, 5, 1, .u 8, .ro, .int 0, .any, false, false, false, .counter⟩,
  ⟨0x3808, 6, 1, .u 8, .rw, .int 0, .any, false, false, false, .peak⟩,
  ⟨0x3809, 1, 1, .u 1, .rw, .int 0, .range 0 31, false, false, true, .plain⟩,
  ⟨0x3809, 2, 1, .bool, .rw, .int 0, .any, true, false, false, .plain⟩,
  ⟨0x3809, 3, 1, .u 8, .rw, .int 0, .any, true, false, false, .plain⟩,
  ⟨0x3809, 4, 1, .u 4, .rw, .int 1000000, .range 1000 1000000000, true, false, false, .plain⟩,
  ⟨0x3809, 5, 1, .u 2, .rw, .int 1, .range 1 256, true, false, false, .plain⟩,
  ⟨0x3809, 6, 1, .u 4, .rw, .int 2200, .range 200 20000, true, false, false, .plain⟩,
  ⟨0x3809, 7, 1, .u 1, .wo, .hw, .enum [1], false, false, false, .plain⟩,
  ⟨0x3809, 8, 1, .bool, .ro, .int 0, .any, false, false, false, .plain⟩,
  ⟨0x3809, 9, 1, .u 8, .ro, .int 0, .any, false, false, false, .plain⟩,
  ⟨0x3809, 10, 1, .bool, .ro, .int 0, .any, false, false, false, .plain⟩,
  ⟨0x3809, 11, 1, .u 8, .ro, .int 0, .any, false, false, false, .plain⟩,
  ⟨0x3809, 12, 1, .u 4, .ro, .int 0, .any, false, false, false, .plain⟩,
  ⟨0x3809, 13, 1, .u 2, .ro, .int 0, .any, false, false, false, .plain⟩,
  ⟨0x3809, 14, 1, .u 4, .ro, .int 0, .any, false, false, false, .plain⟩,
  ⟨0x3809, 15, 1, .u 8, .ro, .int 0, .any, false, false, false, .counter⟩,
  ⟨0x3809, 16, 1, .u 8, .ro, .int 0, .any, false, false, false, .counter⟩,
  ⟨0x3809, 17, 1, .u 8, .ro, .int 0, .any, false, false, false, .counter⟩,
  ⟨0x3809, 18, 1, .u 8, .ro, .int 0, .any, false, false, false, .counter⟩,
  ⟨0x380A, 1, 1, .u 2, .const, .int 256, .any, false, false, false, .plain⟩,
  ⟨0x380B, 1, 1, .u 2, .rw, .int 0, .any, false, false, true, .plain⟩,
  ⟨0x380B, 2, 1, .u 1, .rw, .int 0xFF, .any, true, false, false, .plain⟩]

/-- The global objects of indices 0x3800 to 0x38FF. Part 3. -/
def rowsPage38Part2 : List Row := [
  ⟨0x380B, 3, 1, .u 4, .rw, .int 1000000, .range 16 1000000000, true, false, false, .plain⟩,
  ⟨0x380B, 4, 1, .u 1, .ro, .int 0xFF, .any, false, false, false, .plain⟩,
  ⟨0x380B, 5, 1, .u 4, .ro, .int 0, .any, false, false, false, .plain⟩]

/-- The global objects of indices 0x3800 to 0x38FF. -/
def rowsPage38 : List Row := rowsPage38Part0 ++ rowsPage38Part1 ++ rowsPage38Part2

/-- The global objects of indices 0x4000 to 0x40FF. -/
def rowsPage40 : List Row := [
  ⟨0x4000, 1, 1, .u 2, .const, .int 8192, .any, false, false, false, .plain⟩,
  ⟨0x4001, 1, 1, .u 2, .rw, .int 0, .any, false, false, true, .plain⟩,
  ⟨0x4001, 2, 1, .u 1, .rw, .int 0, .enum [0, 1], true, true, false, .plain⟩,
  ⟨0x4001, 3, 1, .bool, .rw, .int 0, .any, true, true, false, .plain⟩,
  ⟨0x4001, 4, 1, .u 1, .rw, .int 0, .range 0 2, true, true, false, .plain⟩,
  ⟨0x4001, 5, 1, .u 4, .rw, .int 200000000, .range 0 200000000, true, true, false, .plain⟩,
  ⟨0x4001, 6, 1, .u 4, .rw, .int 16777216, .range 0 16777216, true, true, false, .plain⟩,
  ⟨0x4001, 7, 1, .u 4, .rw, .int 200000000, .range 0 200000000, true, true, false, .plain⟩,
  ⟨0x4001, 8, 1, .u 4, .rw, .int 16777216, .range 0 16777216, true, true, false, .plain⟩,
  ⟨0x4001, 9, 1, .u 4, .ro, .hw, .any, false, false, false, .plain⟩,
  ⟨0x4001, 10, 1, .u 4, .ro, .hw, .any, false, false, false, .plain⟩,
  ⟨0x4001, 11, 3, .u 8, .ro, .int 0, .any, false, false, false, .counter⟩,
  ⟨0x4001, 14, 3, .u 8, .ro, .int 0, .any, false, false, false, .counter⟩,
  ⟨0x4001, 254, 1, .u 1, .wo, .hw, .enum [1, 2], false, false, false, .plain⟩,
  ⟨0x4001, 255, 1, .bool, .ro, .int 0, .any, false, false, false, .plain⟩,
  ⟨0x4002, 1, 1, .octets 16, .rw, .zeros, .per, true, false, false, .plain⟩]

/-- The global objects of indices 0x5400 to 0x54FF. -/
def rowsPage54 : List Row := [
  ⟨0x5400, 1, 1, .bool, .rw, .int 1, .any, true, false, false, .plain⟩,
  ⟨0x5400, 2, 1, .u 4, .rw, .int 100, .range 50 10000, true, false, false, .plain⟩,
  ⟨0x5400, 3, 1, .u 2, .rw, .int 1100, .range 1000 2000, true, false, false, .plain⟩,
  ⟨0x5400, 4, 1, .u 1, .rw, .int 3, .range 0 7, true, false, false, .plain⟩,
  ⟨0x5400, 5, 1, .u 4, .rw, .int 1000, .range 100 100000, true, false, false, .plain⟩,
  ⟨0x5400, 6, 1, .u 8, .ro, .int 0, .any, false, false, false, .counter⟩,
  ⟨0x5400, 7, 1, .u 4, .ro, .int 0, .any, false, false, false, .counter⟩,
  ⟨0x5400, 8, 1, .u 4, .ro, .int 0, .any, false, false, false, .plain⟩,
  ⟨0x5401, 1, 1, .u 2, .const, .int 32, .any, false, false, false, .plain⟩,
  ⟨0x5402, 1, 1, .u 2, .rw, .int 0, .any, false, false, true, .plain⟩,
  ⟨0x5402, 2, 1, .bool, .rw, .per, .any, true, false, false, .plain⟩,
  ⟨0x5402, 3, 1, .u 2, .rw, .per, .range 500 1000, true, false, false, .plain⟩,
  ⟨0x5402, 4, 1, .u 4, .rw, .int 200000000, .range 0 200000000, true, false, false, .plain⟩,
  ⟨0x5402, 5, 1, .u 4, .ro, .int 0, .any, false, false, false, .plain⟩,
  ⟨0x5402, 6, 1, .u 4, .ro, .int 0, .any, false, false, false, .plain⟩,
  ⟨0x5402, 7, 1, .u 4, .ro, .int 0, .any, false, false, false, .plain⟩,
  ⟨0x5402, 8, 1, .bool, .rw, .int 0, .any, false, false, false, .flag⟩,
  ⟨0x5402, 9, 1, .u 1, .ro, .int 0, .any, false, false, false, .count⟩,
  ⟨0x5402, 10, 1, .u 8, .ro, .int 0, .any, false, false, false, .counter⟩,
  ⟨0x5402, 11, 1, .u 8, .ro, .int 0, .any, false, false, false, .counter⟩,
  ⟨0x5402, 12, 1, .u 4, .ro, .int 0, .any, false, false, false, .counter⟩,
  ⟨0x5403, 1, 1, .u 2, .const, .int 256, .any, false, false, false, .plain⟩,
  ⟨0x5404, 1, 1, .u 2, .rw, .int 0, .any, false, false, true, .plain⟩,
  ⟨0x5404, 2, 1, .u 4, .rw, .int 0, .range 0 200000000, true, true, false, .plain⟩,
  ⟨0x5404, 3, 1, .u 4, .rw, .int 200000000, .range 0 200000000, true, true, false, .plain⟩,
  ⟨0x5404, 4, 1, .u 4, .ro, .int 0, .any, false, false, false, .plain⟩,
  ⟨0x5404, 5, 1, .u 4, .ro, .int 0, .any, false, false, false, .plain⟩,
  ⟨0x5404, 254, 1, .u 1, .wo, .hw, .enum [1, 2], false, false, false, .plain⟩,
  ⟨0x5404, 255, 1, .bool, .ro, .int 0, .any, false, false, false, .plain⟩,
  ⟨0x5405, 1, 1, .u 2, .const, .int 1024, .any, false, false, false, .plain⟩,
  ⟨0x5406, 1, 1, .u 2, .rw, .int 0, .any, false, false, true, .plain⟩,
  ⟨0x5406, 2, 1, .u 1, .rw, .int 0, .enum [0, 1], true, true, false, .plain⟩,
  ⟨0x5406, 3, 1, .u 4, .rw, .int 0, .range 0 200000000, true, true, false, .plain⟩,
  ⟨0x5406, 4, 1, .u 4, .rw, .int 200000000, .range 0 200000000, true, true, false, .plain⟩,
  ⟨0x5406, 5, 1, .u 4, .ro, .int 0, .any, false, false, false, .plain⟩,
  ⟨0x5406, 6, 1, .u 4, .ro, .int 0, .any, false, false, false, .plain⟩,
  ⟨0x5406, 7, 1, .u 4, .ro, .int 0, .any, false, false, false, .plain⟩,
  ⟨0x5406, 8, 1, .u 4, .ro, .int 0, .any, false, false, false, .counter⟩,
  ⟨0x5406, 254, 1, .u 1, .wo, .hw, .enum [1, 2], false, false, false, .plain⟩,
  ⟨0x5406, 255, 1, .bool, .ro, .int 0, .any, false, false, false, .plain⟩]

/-- The global objects of indices 0x5A00 to 0x5AFF. -/
def rowsPage5A : List Row := [
  ⟨0x5A00, 1, 1, .u 2, .const, .int 36, .any, false, false, false, .plain⟩,
  ⟨0x5A01, 1, 1, .u 2, .rw, .int 0, .any, false, false, true, .plain⟩,
  ⟨0x5A01, 2, 1, .u 2, .ro, .hw, .any, false, false, false, .plain⟩,
  ⟨0x5A01, 3, 1, .u 2, .ro, .int 0, .any, false, false, false, .plain⟩,
  ⟨0x5A01, 4, 1, .u 2, .ro, .int 0, .any, false, false, false, .plain⟩,
  ⟨0x5A01, 5, 1, .u 2, .ro, .int 0, .any, false, false, false, .plain⟩,
  ⟨0x5A01, 6, 1, .u 2, .ro, .int 0, .any, false, false, false, .plain⟩,
  ⟨0x5A20, 1, 1, .u 2, .rwi, .int 0, .range 0 1023, true, false, false, .plain⟩,
  ⟨0x5A20, 2, 1, .u 2, .rwi, .int 64, .range 1 1024, true, false, false, .plain⟩,
  ⟨0x5A20, 3, 1, .u 2, .rw, .int 0x430, .mask 0x0FFF, true, false, false, .plain⟩,
  ⟨0x5A20, 4, 1, .u 8, .ro, .int 0, .any, false, false, false, .counter⟩,
  ⟨0x5A20, 5, 1, .u 8, .ro, .int 0, .any, false, false, false, .counter⟩]

/-- The global objects of indices 0x6400 to 0x64FF. -/
def rowsPage64 : List Row := [
  ⟨0x6430, 1, 1, .u 2, .const, .int 9, .any, false, false, false, .plain⟩,
  ⟨0x6431, 1, 1, .u 2, .rw, .int 0, .any, false, false, true, .plain⟩,
  ⟨0x6431, 2, 1, .u 1, .rw, .int 0x0, .per, true, true, false, .plain⟩,
  ⟨0x6431, 3, 1, .u 1, .rw, .int 0, .range 0 7, true, true, false, .plain⟩,
  ⟨0x6431, 4, 1, .u 1, .ro, .int 0, .any, false, false, false, .plain⟩,
  ⟨0x6431, 5, 1, .u 1, .ro, .int 0, .any, false, false, false, .plain⟩,
  ⟨0x6431, 6, 1, .u 4, .ro, .int 0, .any, false, false, false, .plain⟩,
  ⟨0x6431, 7, 1, .u 8, .ro, .int 0, .any, false, false, false, .counter⟩,
  ⟨0x6431, 8, 1, .u 4, .ro, .int 0, .any, false, false, false, .counter⟩,
  ⟨0x6431, 254, 1, .u 1, .wo, .hw, .enum [1, 2], false, false, false, .plain⟩,
  ⟨0x6431, 255, 1, .bool, .ro, .int 0, .any, false, false, false, .plain⟩,
  ⟨0x6438, 1, 1, .u 2, .rw, .int 2000, .range 500 100000, true, false, false, .plain⟩,
  ⟨0x64E0, 1, 1, .u 2, .const, .int 32, .any, false, false, false, .plain⟩,
  ⟨0x64E1, 1, 1, .u 2, .rw, .int 0, .any, false, false, true, .plain⟩,
  ⟨0x64E1, 2, 1, .u 4, .rw, .int 533250, .range 25000 2400000, true, true, false, .plain⟩,
  ⟨0x64E1, 3, 1, .u 2, .rw, .int 3840, .range 64 7680, true, true, false, .plain⟩,
  ⟨0x64E1, 4, 1, .u 2, .rw, .int 48, .range 1 4095, true, true, false, .plain⟩,
  ⟨0x64E1, 5, 1, .u 2, .rw, .int 32, .range 1 4095, true, true, false, .plain⟩,
  ⟨0x64E1, 6, 1, .u 2, .rw, .int 80, .range 1 4095, true, true, false, .plain⟩,
  ⟨0x64E1, 7, 1, .u 2, .rw, .int 2160, .range 64 4320, true, true, false, .plain⟩,
  ⟨0x64E1, 8, 1, .u 2, .rw, .int 3, .range 1 4095, true, true, false, .plain⟩,
  ⟨0x64E1, 9, 1, .u 2, .rw, .int 5, .range 1 255, true, true, false, .plain⟩,
  ⟨0x64E1, 10, 1, .u 2, .rw, .int 54, .range 1 4095, true, true, false, .plain⟩,
  ⟨0x64E1, 11, 1, .u 1, .rw, .int 0x1, .mask 0x03, true, true, false, .plain⟩,
  ⟨0x64E1, 12, 1, .u 2, .rw, .int 0, .any, true, true, false, .plain⟩,
  ⟨0x64E1, 254, 1, .u 1, .wo, .hw, .enum [1, 2], false, false, false, .plain⟩,
  ⟨0x64E1, 255, 1, .bool, .ro, .int 0, .any, false, false, false, .plain⟩]

/-- The global objects of indices 0x6800 to 0x68FF. Part 1. -/
def rowsPage68Part0 : List Row := [
  ⟨0x6800, 1, 1, .u 1, .rwi, .int 0, .range 0 15, true, false, false, .plain⟩,
  ⟨0x6800, 2, 1, .u 1, .ro, .int 0, .any, false, false, false, .plain⟩,
  ⟨0x6800, 3, 1, .u 8, .ro, .int 0, .any, false, false, false, .counter⟩,
  ⟨0x6800, 4, 1, .u 8, .ro, .int 0, .any, false, false, false, .counter⟩,
  ⟨0x6800, 5, 1, .u 8, .ro, .int 0, .any, false, false, false, .counter⟩,
  ⟨0x6800, 6, 1, .u 4, .ro, .int 0, .any, false, false, false, .counter⟩,
  ⟨0x6800, 7, 1, .u 8, .ro, .int 0, .any, false, false, false, .counter⟩,
  ⟨0x6800, 8, 1, .bool, .rw, .int 0, .any, false, false, false, .flag⟩,
  ⟨0x6800, 9, 1, .u 1, .ro, .int 0, .any, false, false, false, .count⟩,
  ⟨0x6800, 10, 1, .bool, .rw, .int 0, .any, false, false, false, .flag⟩,
  ⟨0x6800, 11, 1, .u 1, .ro, .int 0, .any, false, false, false, .count⟩,
  ⟨0x6800, 12, 1, .bool, .rw, .int 0, .any, false, false, false, .flag⟩,
  ⟨0x6800, 13, 1, .u 1, .ro, .int 0, .any, false, false, false, .count⟩,
  ⟨0x6801, 1, 1, .u 2, .const, .int 256, .any, false, false, false, .plain⟩,
  ⟨0x6802, 1, 1, .u 2, .rw, .int 0, .any, false, false, true, .plain⟩,
  ⟨0x6802, 2, 1, .bool, .rw, .int 0, .any, false, true, false, .plain⟩,
  ⟨0x6802, 3, 1, .u 1, .rw, .int 0, .range 0 63, false, true, false, .plain⟩,
  ⟨0x6802, 4, 1, .u 2, .rw, .int 16, .range 16 8192, false, true, false, .plain⟩,
  ⟨0x6802, 5, 1, .u 2, .rw, .int 16, .range 16 8192, false, true, false, .plain⟩,
  ⟨0x6802, 6, 1, .u 1, .rw, .int 0, .range 0 15, false, true, false, .plain⟩,
  ⟨0x6802, 7, 1, .u 1, .rw, .int 0, .enum [0, 1], false, true, false, .plain⟩,
  ⟨0x6802, 8, 1, .u 1, .rw, .int 1, .range 1 5, false, true, false, .plain⟩,
  ⟨0x6802, 9, 1, .u 1, .rw, .int 4, .range 0 5, false, true, false, .plain⟩,
  ⟨0x6802, 10, 1, .u 2, .rw, .int 0, .per, false, true, false, .plain⟩,
  ⟨0x6802, 11, 1, .u 2, .rw, .int 0, .range 0 4096, false, true, false, .plain⟩,
  ⟨0x6802, 12, 1, .u 1, .ro, .int 0, .any, false, false, false, .plain⟩,
  ⟨0x6802, 13, 1, .u 4, .ro, .int 0, .any, false, false, false, .plain⟩,
  ⟨0x6802, 14, 6, .u 4, .ro, .int 0, .any, false, false, false, .plain⟩,
  ⟨0x6802, 20, 1, .u 4, .ro, .int 0, .any, false, false, false, .plain⟩,
  ⟨0x6802, 21, 1, .u 4, .ro, .int 0, .any, false, false, false, .plain⟩,
  ⟨0x6802, 22, 1, .u 2, .ro, .int 0, .any, false, false, false, .plain⟩,
  ⟨0x6802, 23, 1, .u 8, .ro, .int 0, .any, false, false, false, .counter⟩,
  ⟨0x6802, 24, 1, .u 8, .ro, .int 0, .any, false, false, false, .counter⟩,
  ⟨0x6802, 254, 1, .u 1, .wo, .hw, .enum [1, 2], false, false, false, .plain⟩,
  ⟨0x6802, 255, 1, .bool, .ro, .int 0, .any, false, false, false, .plain⟩,
  ⟨0x6803, 1, 1, .u 2, .const, .int 256, .any, false, false, false, .plain⟩,
  ⟨0x6804, 1, 1, .u 2, .rw, .int 0, .any, false, false, true, .plain⟩,
  ⟨0x6804, 2, 1, .u 4, .ro, .int 0, .any, false, false, false, .plain⟩,
  ⟨0x6804, 3, 1, .u 1, .ro, .int 0, .any, false, false, false, .plain⟩,
  ⟨0x6804, 4, 1, .u 1, .ro, .int 0, .any, false, false, false, .plain⟩]

/-- The global objects of indices 0x6800 to 0x68FF. Part 2. -/
def rowsPage68Part1 : List Row := [
  ⟨0x6804, 5, 1, .u 4, .ro, .int 0, .any, false, false, false, .plain⟩,
  ⟨0x6804, 6, 1, .u 1, .ro, .int 0, .any, false, false, false, .plain⟩,
  ⟨0x6804, 7, 1, .u 8, .ro, .int 0, .any, false, false, false, .plain⟩,
  ⟨0x6805, 1, 1, .u 1, .rw, .int 0, .any, false, false, true, .plain⟩,
  ⟨0x6805, 2, 1, .u 1, .rw, .int 0, .range 0 3, false, false, true, .plain⟩,
  ⟨0x6805, 3, 1, .u 4, .rw, .int 0, .any, false, false, true, .plain⟩,
  ⟨0x6805, 4, 1, .u 1, .ro, .int 0, .any, false, false, false, .plain⟩,
  ⟨0x6805, 5, 1, .u 1, .ro, .int 0, .any, false, false, false, .plain⟩,
  ⟨0x6805, 6, 1, .u 2, .ro, .int 0, .any, false, false, false, .plain⟩,
  ⟨0x6805, 7, 1, .u 4, .ro, .int 0xFFFFFFFF, .any, false, false, false, .plain⟩,
  ⟨0x6806, 1, 1, .u 2, .const, .int 64, .any, false, false, false, .plain⟩,
  ⟨0x6807, 1, 1, .u 2, .rw, .int 0, .any, false, false, true, .plain⟩,
  ⟨0x6807, 2, 1, .bool, .rw, .per, .any, true, true, false, .plain⟩,
  ⟨0x6807, 3, 1, .u 1, .rw, .per, .enum [0, 1, 2, 3, 4], true, true, false, .plain⟩,
  ⟨0x6807, 4, 1, .u 1, .rw, .per, .enum [8, 10, 12], true, true, false, .plain⟩,
  ⟨0x6807, 5, 1, .u 1, .rw, .per, .enum [0, 1, 2], true, true, false, .plain⟩,
  ⟨0x6807, 6, 1, .u 1, .rw, .per, .enum [0, 1], true, true, false, .plain⟩,
  ⟨0x6807, 7, 1, .u 1, .ro, .hw, .any, false, false, false, .plain⟩,
  ⟨0x6807, 254, 1, .u 1, .wo, .hw, .enum [1, 2], false, false, false, .plain⟩,
  ⟨0x6807, 255, 1, .bool, .ro, .int 0, .any, false, false, false, .plain⟩]

/-- The global objects of indices 0x6800 to 0x68FF. -/
def rowsPage68 : List Row := rowsPage68Part0 ++ rowsPage68Part1

/-- The global objects of indices 0x7000 to 0x70FF. -/
def rowsPage70 : List Row := [
  ⟨0x7000, 1, 1, .bool, .rwi, .int 1, .any, true, false, false, .plain⟩,
  ⟨0x7000, 2, 1, .u 1, .rwi, .int 0, .mask 0x7F, true, false, false, .plain⟩,
  ⟨0x7000, 3, 1, .u 1, .rwi, .int 0, .range 0 3, true, false, false, .plain⟩,
  ⟨0x7000, 4, 1, .bool, .rwi, .int 1, .any, true, false, false, .plain⟩,
  ⟨0x7000, 5, 1, .u 1, .ro, .int 0, .any, false, false, false, .plain⟩,
  ⟨0x7000, 6, 1, .u 1, .ro, .int 0, .any, false, false, false, .plain⟩,
  ⟨0x7000, 7, 1, .u 2, .ro, .int 412, .any, false, false, false, .plain⟩,
  ⟨0x7001, 1, 1, .bool, .rw, .int 0, .any, false, false, false, .flag⟩,
  ⟨0x7001, 2, 1, .u 1, .ro, .int 0, .any, false, false, false, .count⟩,
  ⟨0x7001, 3, 1, .u 4, .ro, .int 0, .any, false, false, false, .counter⟩,
  ⟨0x7001, 4, 1, .u 4, .ro, .int 0, .any, false, false, false, .counter⟩,
  ⟨0x7001, 5, 1, .u 4, .ro, .int 0, .any, false, false, false, .counter⟩,
  ⟨0x7001, 6, 1, .u 4, .ro, .int 0, .any, false, false, false, .counter⟩,
  ⟨0x7001, 7, 1, .u 8, .ro, .int 0, .any, false, false, false, .counter⟩,
  ⟨0x7001, 8, 1, .u 4, .ro, .int 0, .any, false, false, false, .plain⟩,
  ⟨0x7002, 1, 1, .u 2, .const, .int 7, .any, false, false, false, .plain⟩,
  ⟨0x7003, 1, 1, .u 2, .rw, .int 0, .any, false, false, true, .plain⟩,
  ⟨0x7003, 2, 1, .u 1, .ro, .int 0, .any, false, false, false, .plain⟩,
  ⟨0x7003, 3, 1, .u 1, .ro, .int 0, .any, false, false, false, .plain⟩,
  ⟨0x7003, 4, 1, .u 8, .ro, .int 0, .any, false, false, false, .counter⟩,
  ⟨0x7003, 5, 1, .u 8, .ro, .int 0, .any, false, false, false, .counter⟩,
  ⟨0x7003, 6, 1, .u 8, .ro, .int 0, .any, false, false, false, .counter⟩,
  ⟨0x7003, 7, 1, .u 4, .ro, .int 0, .any, false, false, false, .counter⟩,
  ⟨0x7004, 1, 1, .u 2, .const, .int 32, .any, false, false, false, .plain⟩,
  ⟨0x7005, 1, 1, .u 2, .rw, .int 0, .any, false, false, true, .plain⟩,
  ⟨0x7005, 2, 1, .u 1, .rw, .per, .per, true, true, false, .plain⟩,
  ⟨0x7005, 3, 1, .u 2, .rw, .per, .range 0 511, true, true, false, .plain⟩,
  ⟨0x7005, 4, 1, .u 2, .rw, .per, .range 0 512, true, true, false, .plain⟩,
  ⟨0x7005, 254, 1, .u 1, .wo, .hw, .enum [1, 2], false, false, false, .plain⟩,
  ⟨0x7005, 255, 1, .bool, .ro, .int 0, .any, false, false, false, .plain⟩,
  ⟨0x7007, 1, 1, .u 2, .const, .int 189, .any, false, false, false, .plain⟩,
  ⟨0x7008, 1, 1, .u 2, .rw, .int 0, .any, false, false, true, .plain⟩,
  ⟨0x7008, 2, 1, .u 2, .rw, .int 0x0, .orV 0 0x1000 0xEFFF, true, false, false, .plain⟩,
  ⟨0x7008, 3, 1, .u 1, .rw, .int 0x1, .range 1 0xFF, true, false, false, .plain⟩]

/-- The global objects of indices 0x7C00 to 0x7CFF. -/
def rowsPage7C : List Row := [
  ⟨0x7C00, 1, 1, .bool, .rw, .int 1, .any, true, false, false, .plain⟩,
  ⟨0x7C00, 2, 1, .u 2, .rw, .int 750, .range 550 850, true, false, false, .plain⟩,
  ⟨0x7C00, 3, 1, .u 2, .rw, .int 550, .range 550 850, true, false, false, .plain⟩,
  ⟨0x7C00, 4, 1, .u 2, .rw, .int 10, .range 5 1000, true, false, false, .plain⟩,
  ⟨0x7C00, 5, 1, .u 2, .rw, .int 1250, .range 1000 2000, true, false, false, .plain⟩,
  ⟨0x7C00, 6, 1, .u 2, .rw, .int 100, .range 10 10000, true, false, false, .plain⟩,
  ⟨0x7C00, 7, 1, .u 2, .rw, .int 50, .range 10 500, true, false, false, .plain⟩,
  ⟨0x7C00, 8, 1, .u 4, .rw, .int 16384, .any, true, false, false, .plain⟩,
  ⟨0x7C00, 9, 1, .u 4, .rw, .int 65536, .any, true, false, false, .plain⟩,
  ⟨0x7C00, 10, 1, .u 2, .rw, .int 128, .range 16 4096, true, false, false, .plain⟩,
  ⟨0x7C00, 11, 1, .u 2, .rw, .int 100, .range 1 10000, true, false, false, .plain⟩,
  ⟨0x7C00, 12, 1, .u 1, .rwi, .int 0, .range 0 15, true, false, false, .plain⟩,
  ⟨0x7C01, 1, 1, .u 2, .ro, .int 850, .any, false, false, false, .plain⟩,
  ⟨0x7C01, 2, 1, .i 2, .ro, .hw, .any, false, false, false, .plain⟩,
  ⟨0x7C01, 3, 1, .u 2, .ro, .int 0, .any, false, false, false, .plain⟩,
  ⟨0x7C01, 4, 1, .u 2, .ro, .hw, .any, false, false, false, .plain⟩,
  ⟨0x7C01, 5, 1, .u 2, .ro, .hw, .any, false, false, false, .plain⟩,
  ⟨0x7C01, 6, 1, .bool, .ro, .int 0, .any, false, false, false, .plain⟩,
  ⟨0x7C02, 1, 1, .bool, .rw, .int 0, .any, false, false, false, .flag⟩,
  ⟨0x7C02, 2, 1, .u 1, .ro, .int 0, .any, false, false, false, .count⟩,
  ⟨0x7C02, 3, 1, .bool, .rw, .int 0, .any, false, false, false, .flag⟩,
  ⟨0x7C02, 4, 1, .u 1, .ro, .int 0, .any, false, false, false, .count⟩,
  ⟨0x7C02, 5, 1, .bool, .rw, .int 0, .any, false, false, false, .flag⟩,
  ⟨0x7C02, 6, 1, .u 1, .ro, .int 0, .any, false, false, false, .count⟩,
  ⟨0x7C02, 7, 1, .u 8, .ro, .int 0, .any, false, false, false, .counter⟩,
  ⟨0x7C02, 8, 1, .u 4, .ro, .int 0, .any, false, false, false, .counter⟩,
  ⟨0x7C02, 9, 1, .u 4, .ro, .int 0, .any, false, false, false, .counter⟩,
  ⟨0x7C02, 10, 1, .u 4, .ro, .int 0, .any, false, false, false, .counter⟩,
  ⟨0x7C02, 11, 1, .u 4, .rw, .int 0, .any, false, false, false, .peak⟩,
  ⟨0x7C03, 1, 1, .u 2, .const, .int 64, .any, false, false, false, .plain⟩,
  ⟨0x7C04, 1, 1, .u 2, .rw, .int 0, .any, false, false, true, .plain⟩,
  ⟨0x7C04, 2, 1, .u 2, .rw, .per, .range 550 850, true, false, false, .plain⟩]

/-- The global objects of indices 0x8400 to 0x84FF. Part 1. -/
def rowsPage84Part0 : List Row := [
  ⟨0x8400, 1, 1, .bool, .rw, .int 0, .any, true, false, false, .plain⟩,
  ⟨0x8400, 2, 1, .u 1, .ro, .hw, .any, false, false, false, .plain⟩,
  ⟨0x8400, 3, 1, .octets 16, .rw, .zeros, .any, true, false, false, .plain⟩,
  ⟨0x8400, 4, 1, .u 4, .rw, .int 20, .range 10 1000, true, false, false, .plain⟩,
  ⟨0x8400, 5, 1, .u 2, .rwi, .int 0, .mask 0x1FF, true, false, false, .plain⟩,
  ⟨0x8400, 6, 1, .u 1, .rwi, .int 0, .mask 0x3F, true, false, false, .plain⟩,
  ⟨0x8400, 7, 1, .u 2, .rwi, .int 0x88B5, .range 1536 65535, true, false, false, .plain⟩,
  ⟨0x8400, 8, 1, .bool, .rw, .int 1, .any, true, false, false, .plain⟩,
  ⟨0x8400, 9, 3, .i 2, .rw, .int 0, .range (-500) 500, true, false, false, .plain⟩,
  ⟨0x8401, 1, 1, .u 1, .ro, .int 0, .any, false, false, false, .plain⟩,
  ⟨0x8401, 2, 1, .u 1, .ro, .int 0, .any, false, false, false, .plain⟩,
  ⟨0x8401, 3, 1, .u 1, .ro, .int 0, .any, false, false, false, .plain⟩,
  ⟨0x8401, 4, 1, .octets 16, .ro, .zeros, .any, false, false, false, .plain⟩,
  ⟨0x8401, 5, 1, .u 1, .ro, .int 0, .any, false, false, false, .plain⟩,
  ⟨0x8401, 6, 1, .u 4, .ro, .int 0, .any, false, false, false, .plain⟩,
  ⟨0x8401, 7, 1, .u 2, .ro, .int 0, .any, false, false, false, .plain⟩,
  ⟨0x8401, 8, 1, .u 4, .ro, .int 0, .any, false, false, false, .plain⟩,
  ⟨0x8402, 1, 1, .u 1, .wo, .hw, .enum [1, 2, 3], false, false, false, .plain⟩,
  ⟨0x8402, 2, 1, .u 1, .ro, .int 0, .any, false, false, false, .plain⟩,
  ⟨0x8403, 1, 1, .bool, .rw, .int 0, .any, false, false, false, .flag⟩,
  ⟨0x8403, 2, 1, .u 1, .ro, .int 0, .any, false, false, false, .count⟩,
  ⟨0x8403, 3, 1, .bool, .rw, .int 0, .any, false, false, false, .flag⟩,
  ⟨0x8403, 4, 1, .u 1, .ro, .int 0, .any, false, false, false, .count⟩,
  ⟨0x8403, 5, 1, .bool, .rw, .int 0, .any, false, false, false, .flag⟩,
  ⟨0x8403, 6, 1, .u 1, .ro, .int 0, .any, false, false, false, .count⟩,
  ⟨0x8403, 7, 1, .bool, .rw, .int 0, .any, false, false, false, .flag⟩,
  ⟨0x8403, 8, 1, .u 1, .ro, .int 0, .any, false, false, false, .count⟩,
  ⟨0x8403, 9, 1, .bool, .rw, .int 0, .any, false, false, false, .flag⟩,
  ⟨0x8403, 10, 1, .u 1, .ro, .int 0, .any, false, false, false, .count⟩,
  ⟨0x8404, 1, 1, .u 4, .ro, .int 0, .any, false, false, false, .counter⟩,
  ⟨0x8404, 2, 1, .u 4, .rw, .int 0, .any, false, false, false, .peak⟩,
  ⟨0x8404, 3, 1, .u 4, .ro, .int 0, .any, false, false, false, .counter⟩,
  ⟨0x8404, 4, 1, .u 8, .ro, .int 0, .any, false, false, false, .counter⟩,
  ⟨0x8404, 5, 1, .u 8, .ro, .int 0, .any, false, false, false, .counter⟩,
  ⟨0x8404, 6, 1, .u 8, .ro, .int 0, .any, false, false, false, .counter⟩,
  ⟨0x8404, 7, 1, .u 8, .ro, .int 0, .any, false, false, false, .counter⟩,
  ⟨0x8404, 8, 1, .u 8, .ro, .int 0, .any, false, false, false, .counter⟩,
  ⟨0x8404, 9, 1, .u 4, .ro, .int 0, .any, false, false, false, .counter⟩,
  ⟨0x8404, 10, 1, .u 4, .ro, .int 0, .any, false, false, false, .counter⟩,
  ⟨0x8404, 11, 1, .u 8, .ro, .int 0, .any, false, false, false, .counter⟩]

/-- The global objects of indices 0x8400 to 0x84FF. Part 2. -/
def rowsPage84Part1 : List Row := [
  ⟨0x8404, 12, 1, .u 8, .ro, .int 0, .any, false, false, false, .counter⟩]

/-- The global objects of indices 0x8400 to 0x84FF. -/
def rowsPage84 : List Row := rowsPage84Part0 ++ rowsPage84Part1

/-- The global objects of indices 0x9000 to 0x90FF. -/
def rowsPage90 : List Row := [
  ⟨0x9000, 1, 1, .u 1, .ro, .int 0, .any, false, false, false, .plain⟩,
  ⟨0x9000, 2, 1, .u 1, .rw, .int 0x5C, .mask 0x7F, true, false, false, .plain⟩,
  ⟨0x9000, 3, 1, .bool, .rw, .int 0, .any, true, false, false, .plain⟩,
  ⟨0x9000, 4, 1, .bool, .rw, .int 0, .any, false, false, false, .flag⟩,
  ⟨0x9000, 5, 1, .u 1, .ro, .int 0, .any, false, false, false, .count⟩,
  ⟨0x9000, 6, 1, .u 8, .ro, .int 0, .any, false, false, false, .counter⟩,
  ⟨0x9000, 7, 1, .u 4, .ro, .int 0, .any, false, false, false, .counter⟩,
  ⟨0x9001, 1, 1, .u 2, .const, .int 64, .any, false, false, false, .plain⟩,
  ⟨0x9002, 1, 1, .u 2, .rw, .int 0, .any, false, false, true, .plain⟩,
  ⟨0x9002, 2, 1, .u 1, .ro, .int 0, .any, false, false, false, .plain⟩,
  ⟨0x9002, 3, 1, .u 1, .ro, .int 0, .any, false, false, false, .plain⟩,
  ⟨0x9002, 4, 1, .u 2, .ro, .int 0, .any, false, false, false, .plain⟩,
  ⟨0x9002, 5, 1, .u 4, .ro, .int 0, .any, false, false, false, .plain⟩,
  ⟨0x9002, 6, 1, .u 4, .ro, .int 0, .any, false, false, false, .plain⟩,
  ⟨0x9002, 7, 1, .u 4, .ro, .int 0, .any, false, false, false, .plain⟩,
  ⟨0x9002, 8, 1, .octets 97, .ro, .zeros, .any, false, false, false, .plain⟩,
  ⟨0x9002, 9, 1, .u 4, .ro, .int 0, .any, false, false, false, .plain⟩,
  ⟨0x9004, 1, 1, .u 1, .wo, .hw, .range 1 9, false, false, false, .plain⟩,
  ⟨0x9004, 2, 1, .u 1, .rw, .int 0, .range 0 63, false, false, true, .plain⟩,
  ⟨0x9004, 3, 1, .u 1, .rw, .int 0, .range 0 5, false, false, true, .plain⟩,
  ⟨0x9004, 4, 1, .u 2, .rw, .int 0, .mask 0x3F1F, false, false, true, .plain⟩,
  ⟨0x9004, 5, 1, .u 4, .rw, .int 0, .any, false, false, true, .plain⟩,
  ⟨0x9004, 6, 1, .u 1, .rw, .int 0, .orV 0xFF 0 63, false, false, true, .plain⟩,
  ⟨0x9004, 7, 1, .octets 32, .rw, .zeros, .any, false, false, true, .plain⟩,
  ⟨0x9004, 8, 1, .octets 32, .rw, .zeros, .any, false, false, true, .plain⟩,
  ⟨0x9004, 9, 1, .domain 4096, .wo, .hw, .any, false, false, true, .plain⟩,
  ⟨0x9004, 10, 1, .domain 4096, .ro, .zeros, .any, false, false, true, .plain⟩,
  ⟨0x9004, 11, 1, .u 1, .ro, .int 0, .any, false, false, true, .plain⟩,
  ⟨0x9006, 1, 1, .domain 4096, .wo, .hw, .any, false, false, true, .plain⟩,
  ⟨0x9006, 2, 1, .domain 4096, .ro, .zeros, .any, false, false, true, .plain⟩]

/-- The global objects of indices 0x9800 to 0x98FF. -/
def rowsPage98 : List Row := [
  ⟨0x9800, 1, 1, .u 1, .rw, .int 0x1F, .mask 0x1F, true, false, false, .plain⟩,
  ⟨0x9800, 2, 1, .bool, .ro, .int 0, .any, false, false, false, .plain⟩,
  ⟨0x9800, 3, 1, .u 1, .ro, .int 0, .any, false, false, false, .plain⟩,
  ⟨0x9800, 4, 1, .u 8, .ro, .int 0, .any, false, false, false, .plain⟩,
  ⟨0x9800, 5, 1, .u 1, .ro, .hw, .any, false, false, false, .plain⟩,
  ⟨0x9800, 6, 1, .u 1, .ro, .hw, .any, false, false, false, .plain⟩,
  ⟨0x9800, 7, 1, .u 4, .ro, .int 0, .any, false, false, false, .counter⟩]

/-- The global objects of indices 0xA000 to 0xA0FF. -/
def rowsPageA0 : List Row := [
  ⟨0xA000, 1, 1, .u 1, .ro, .hw, .any, false, false, false, .plain⟩,
  ⟨0xA000, 2, 1, .u 1, .ro, .int 0, .any, false, false, false, .plain⟩,
  ⟨0xA000, 3, 1, .u 1, .ro, .hw, .any, false, false, false, .plain⟩,
  ⟨0xA000, 4, 1, .u 1, .ro, .hw, .any, false, false, false, .plain⟩,
  ⟨0xA000, 5, 1, .u 4, .ro, .int 0, .any, false, false, false, .plain⟩,
  ⟨0xA000, 6, 1, .u 4, .ro, .int 0, .any, false, false, false, .plain⟩,
  ⟨0xA001, 1, 1, .u 4, .wo, .hw, .enum [0x74657372], false, false, false, .plain⟩,
  ⟨0xA001, 2, 1, .u 1, .wo, .hw, .enum [1], false, false, false, .plain⟩,
  ⟨0xA001, 3, 1, .u 1, .wo, .hw, .enum [1], false, false, false, .plain⟩,
  ⟨0xA001, 4, 1, .u 4, .wo, .hw, .enum [0x74736574], false, false, false, .plain⟩,
  ⟨0xA001, 5, 1, .u 4, .rw, .int 60, .range 10 3600, true, false, false, .plain⟩,
  ⟨0xA001, 6, 1, .bool, .rw, .int 1, .any, true, false, false, .plain⟩,
  ⟨0xA001, 7, 1, .u 2, .rw, .int 1000, .range 100 60000, true, false, false, .plain⟩,
  ⟨0xA002, 1, 1, .u 1, .rw, .int 1, .range 1 4, false, false, true, .plain⟩,
  ⟨0xA002, 2, 1, .domain 8388608, .wo, .hw, .any, false, false, true, .plain⟩,
  ⟨0xA002, 3, 1, .u 1, .ro, .int 0, .any, false, false, false, .plain⟩,
  ⟨0xA002, 4, 1, .u 1, .ro, .int 0, .any, false, false, false, .plain⟩,
  ⟨0xA003, 1, 1, .u 2, .const, .int 8, .any, false, false, false, .plain⟩,
  ⟨0xA004, 1, 1, .u 2, .rw, .int 0, .any, false, false, true, .plain⟩,
  ⟨0xA004, 2, 1, .u 1, .ro, .hw, .any, false, false, false, .plain⟩,
  ⟨0xA004, 3, 1, .u 4, .ro, .int 0, .any, false, false, false, .plain⟩,
  ⟨0xA004, 4, 1, .u 4, .ro, .int 0, .any, false, false, false, .plain⟩,
  ⟨0xA004, 5, 1, .octets 8, .ro, .zeros, .any, false, false, false, .plain⟩,
  ⟨0xA004, 6, 1, .u 1, .ro, .int 0, .any, false, false, false, .plain⟩]

/-- A Grate port's block (R132). -/
def rowsGp : List Row := [
  ⟨0, 1, 1, .u 1, .ro, .hw, .any, false, false, false, .plain⟩,
  ⟨0, 2, 1, .bool, .rw, .per, .any, true, false, false, .plain⟩,
  ⟨0, 3, 1, .u 1, .const, .hw, .any, false, false, false, .plain⟩,
  ⟨1, 1, 1, .u 8, .ro, .int 0, .any, false, false, false, .counter⟩,
  ⟨1, 2, 1, .u 8, .ro, .int 0, .any, false, false, false, .counter⟩,
  ⟨1, 3, 1, .u 8, .ro, .int 0, .any, false, false, false, .counter⟩,
  ⟨1, 4, 1, .u 8, .ro, .int 0, .any, false, false, false, .counter⟩,
  ⟨1, 5, 1, .u 8, .ro, .int 0, .any, false, false, false, .counter⟩,
  ⟨1, 6, 1, .u 8, .ro, .int 0, .any, false, false, false, .counter⟩,
  ⟨1, 7, 1, .u 8, .ro, .int 0, .any, false, false, false, .counter⟩,
  ⟨1, 8, 1, .u 8, .ro, .int 0, .any, false, false, false, .counter⟩,
  ⟨2, 1, 1, .u 8, .ro, .int 0, .any, false, false, false, .counter⟩,
  ⟨2, 2, 1, .u 8, .ro, .int 0, .any, false, false, false, .counter⟩,
  ⟨2, 3, 1, .u 8, .ro, .int 0, .any, false, false, false, .counter⟩,
  ⟨2, 4, 1, .u 8, .ro, .int 0, .any, false, false, false, .counter⟩,
  ⟨2, 5, 1, .u 8, .ro, .int 0, .any, false, false, false, .counter⟩,
  ⟨2, 6, 1, .u 8, .ro, .int 0, .any, false, false, false, .counter⟩,
  ⟨2, 7, 1, .u 8, .ro, .int 0, .any, false, false, false, .counter⟩,
  ⟨3, 1, 1, .u 1, .rw, .int 0, .any, false, false, false, .peak⟩,
  ⟨3, 2, 1, .u 4, .rw, .int 0, .any, false, false, false, .peak⟩,
  ⟨3, 3, 1, .bool, .rw, .int 0, .any, false, false, false, .flag⟩,
  ⟨3, 4, 1, .u 1, .ro, .int 0, .any, false, false, false, .count⟩]

/-- A pool's block (R111). -/
def rowsPool : List Row := [
  ⟨0, 1, 1, .u 2, .rw, .per, .any, true, false, false, .plain⟩,
  ⟨0, 2, 1, .u 4, .rw, .per, .any, true, false, false, .plain⟩,
  ⟨0, 3, 1, .bool, .rw, .int 1, .any, true, false, false, .plain⟩,
  ⟨1, 1, 1, .u 4, .ro, .int 0, .any, false, false, false, .plain⟩,
  ⟨1, 2, 1, .u 4, .rw, .int 0, .any, false, false, false, .peak⟩,
  ⟨1, 3, 1, .u 4, .ro, .int 0, .any, false, false, false, .plain⟩,
  ⟨1, 4, 1, .u 8, .ro, .int 0, .any, false, false, false, .counter⟩,
  ⟨1, 5, 1, .u 4, .ro, .int 0, .any, false, false, false, .counter⟩]

/-- A USB4 port's block (R201). Part 1. -/
def rowsUsb4Part0 : List Row := [
  ⟨0, 1, 1, .u 1, .ro, .int 0, .any, false, false, false, .plain⟩,
  ⟨0, 2, 1, .u 1, .ro, .int 0, .any, false, false, false, .plain⟩,
  ⟨0, 3, 1, .u 4, .ro, .int 0, .any, false, false, false, .plain⟩,
  ⟨0, 4, 1, .u 4, .ro, .int 0, .any, false, false, false, .plain⟩,
  ⟨0, 5, 1, .u 1, .rwi, .int 4, .range 2 4, true, false, false, .plain⟩,
  ⟨0, 6, 1, .u 1, .rwi, .per, .mask 0x03, true, false, false, .plain⟩,
  ⟨0, 7, 1, .bool, .rwi, .per, .any, true, false, false, .plain⟩,
  ⟨0, 8, 1, .u 1, .rw, .int 0x7, .mask 0x07, true, false, false, .plain⟩,
  ⟨0, 9, 1, .u 2, .rwi, .per, .range 0 1023, true, false, false, .plain⟩,
  ⟨0, 10, 1, .u 2, .rwi, .per, .range 0 64, true, false, false, .plain⟩,
  ⟨0, 11, 1, .u 1, .rwi, .int 0, .range 0 15, true, false, false, .plain⟩,
  ⟨0, 12, 1, .u 2, .const, .int 1024, .any, false, false, false, .plain⟩,
  ⟨0, 13, 1, .u 2, .ro, .int 0, .any, false, false, false, .plain⟩,
  ⟨1, 1, 1, .bool, .rw, .int 0, .any, false, false, false, .flag⟩,
  ⟨1, 2, 1, .u 1, .ro, .int 0, .any, false, false, false, .count⟩,
  ⟨1, 3, 1, .bool, .rw, .int 0, .any, false, false, false, .flag⟩,
  ⟨1, 4, 1, .u 1, .ro, .int 0, .any, false, false, false, .count⟩,
  ⟨1, 5, 1, .bool, .rw, .int 0, .any, false, false, false, .flag⟩,
  ⟨1, 6, 1, .u 1, .ro, .int 0, .any, false, false, false, .count⟩,
  ⟨1, 7, 1, .u 4, .ro, .int 0, .any, false, false, false, .counter⟩,
  ⟨1, 8, 1, .u 4, .ro, .int 0, .any, false, false, false, .counter⟩,
  ⟨1, 9, 1, .u 8, .ro, .int 0, .any, false, false, false, .counter⟩,
  ⟨1, 10, 1, .u 8, .ro, .int 0, .any, false, false, false, .counter⟩,
  ⟨1, 11, 1, .u 8, .ro, .int 0, .any, false, false, false, .counter⟩,
  ⟨1, 12, 1, .u 8, .ro, .int 0, .any, false, false, false, .counter⟩,
  ⟨3, 1, 1, .u 2, .const, .int 64, .any, false, false, false, .plain⟩,
  ⟨4, 1, 1, .u 2, .rw, .int 0, .any, false, false, true, .plain⟩,
  ⟨4, 2, 1, .u 1, .ro, .int 0, .any, false, false, false, .plain⟩,
  ⟨4, 3, 1, .u 1, .ro, .int 0, .any, false, false, false, .plain⟩,
  ⟨4, 4, 1, .u 2, .ro, .int 0, .any, false, false, false, .plain⟩,
  ⟨4, 5, 1, .u 1, .ro, .int 0, .any, false, false, false, .plain⟩,
  ⟨4, 6, 1, .u 2, .ro, .int 0, .any, false, false, false, .plain⟩,
  ⟨4, 7, 1, .u 1, .ro, .int 0, .any, false, false, false, .plain⟩,
  ⟨4, 8, 1, .u 1, .ro, .int 0, .any, false, false, false, .plain⟩,
  ⟨4, 9, 1, .bool, .ro, .int 0, .any, false, false, false, .plain⟩,
  ⟨4, 10, 1, .u 2, .ro, .int 0xFFFF, .any, false, false, false, .plain⟩,
  ⟨4, 11, 1, .u 2, .ro, .int 0xFFFF, .any, false, false, false, .plain⟩,
  ⟨4, 12, 1, .u 2, .ro, .int 0, .any, false, false, false, .plain⟩,
  ⟨4, 13, 1, .u 2, .ro, .int 0, .any, false, false, false, .plain⟩,
  ⟨4, 14, 1, .u 2, .ro, .int 0, .any, false, false, false, .plain⟩]

/-- A USB4 port's block (R201). Part 2. -/
def rowsUsb4Part1 : List Row := [
  ⟨4, 15, 1, .u 2, .ro, .int 0, .any, false, false, false, .plain⟩,
  ⟨4, 16, 1, .u 2, .ro, .int 0, .any, false, false, false, .plain⟩,
  ⟨4, 17, 1, .u 8, .ro, .int 0, .any, false, false, false, .counter⟩,
  ⟨4, 18, 1, .u 8, .ro, .int 0, .any, false, false, false, .counter⟩]

/-- A USB4 port's block (R201). -/
def rowsUsb4 : List Row := rowsUsb4Part0 ++ rowsUsb4Part1

/-- A MAC's block (R235, R236). -/
def rowsMac : List Row := [
  ⟨0, 1, 1, .u 1, .rwi, .per, .any, true, false, false, .plain⟩,
  ⟨0, 2, 1, .u 1, .rwi, .per, .enum [0, 1, 2], true, false, false, .plain⟩,
  ⟨0, 3, 1, .u 2, .rw, .int 1536, .range 64 9600, true, false, false, .plain⟩,
  ⟨0, 4, 1, .bool, .rw, .int 0, .any, true, false, false, .plain⟩,
  ⟨0, 5, 1, .u 2, .rw, .int 0, .range 0 2000, true, false, false, .plain⟩,
  ⟨0, 6, 1, .u 2, .rw, .int 0, .range 0 2000, true, false, false, .plain⟩,
  ⟨0, 7, 1, .u 4, .ro, .int 0, .any, false, false, false, .plain⟩,
  ⟨0, 8, 1, .octets 6, .const, .hw, .any, false, false, false, .plain⟩,
  ⟨1, 1, 1, .bool, .rw, .int 0, .any, false, false, false, .flag⟩,
  ⟨1, 2, 1, .u 1, .ro, .int 0, .any, false, false, false, .count⟩,
  ⟨1, 3, 1, .bool, .rw, .int 0, .any, false, false, false, .flag⟩,
  ⟨1, 4, 1, .u 1, .ro, .int 0, .any, false, false, false, .count⟩,
  ⟨2, 1, 4, .u 8, .ro, .int 0, .any, false, false, false, .counter⟩,
  ⟨2, 5, 4, .u 8, .ro, .int 0, .any, false, false, false, .counter⟩,
  ⟨3, 1, 1, .u 1, .rw, .int 0, .enum [0, 1, 2], true, false, false, .plain⟩,
  ⟨3, 2, 1, .u 1, .rwi, .int 1, .enum [0, 1], true, false, false, .plain⟩,
  ⟨3, 3, 1, .bool, .rw, .int 1, .any, true, false, false, .plain⟩,
  ⟨3, 4, 1, .octets 8, .rw, .per, .any, true, false, false, .plain⟩,
  ⟨3, 5, 1, .u 1, .rw, .int 0, .range 0 3, false, false, false, .plain⟩,
  ⟨3, 6, 1, .u 4, .rw, .int 0, .any, true, false, false, .plain⟩,
  ⟨3, 7, 1, .u 8, .rw, .int 0xC0000000, .any, true, false, false, .plain⟩,
  ⟨4, 1, 1, .u 2, .const, .int 8, .any, false, false, false, .plain⟩,
  ⟨5, 1, 1, .u 2, .rw, .int 0, .any, false, false, true, .plain⟩,
  ⟨5, 2, 1, .bool, .rw, .int 0, .any, false, true, false, .plain⟩,
  ⟨5, 3, 1, .u 1, .rw, .int 0, .range 0 63, false, true, false, .plain⟩,
  ⟨5, 4, 1, .u 4, .rw, .int 0, .any, false, true, false, .plain⟩,
  ⟨5, 5, 1, .octets 12, .rw, .zeros, .any, false, true, false, .plain⟩,
  ⟨5, 6, 1, .octets 8, .rw, .zeros, .any, false, true, false, .plain⟩,
  ⟨5, 7, 1, .u 8, .rw, .int 1, .any, false, true, false, .plain⟩,
  ⟨5, 8, 1, .u 8, .ro, .int 0, .any, false, false, false, .counter⟩,
  ⟨5, 254, 1, .u 1, .wo, .hw, .enum [1, 2], false, false, false, .plain⟩,
  ⟨5, 255, 1, .bool, .ro, .int 0, .any, false, false, false, .plain⟩,
  ⟨6, 1, 6, .u 8, .ro, .int 0, .any, false, false, false, .counter⟩]

/-- An NV port's block (R249). -/
def rowsNv : List Row := [
  ⟨0, 1, 1, .u 1, .rwi, .int 5, .range 1 5, true, false, false, .plain⟩,
  ⟨0, 2, 1, .u 1, .rwi, .int 4, .enum [1, 2, 4], true, false, false, .plain⟩,
  ⟨0, 3, 1, .u 1, .ro, .int 0, .any, false, false, false, .plain⟩,
  ⟨0, 4, 1, .u 1, .ro, .int 0, .any, false, false, false, .plain⟩,
  ⟨0, 5, 1, .u 2, .rwi, .per, .range 0 1023, true, false, false, .plain⟩,
  ⟨0, 6, 1, .u 2, .rwi, .per, .range 0 1023, true, false, false, .plain⟩,
  ⟨0, 7, 1, .u 1, .rwi, .int 0, .range 0 15, true, false, false, .plain⟩,
  ⟨1, 1, 1, .bool, .rw, .int 0, .any, false, false, false, .flag⟩,
  ⟨1, 2, 1, .u 1, .ro, .int 0, .any, false, false, false, .count⟩,
  ⟨1, 3, 1, .bool, .rw, .int 0, .any, false, false, false, .flag⟩,
  ⟨1, 4, 1, .u 1, .ro, .int 0, .any, false, false, false, .count⟩,
  ⟨1, 5, 1, .u 8, .ro, .int 0, .any, false, false, false, .counter⟩,
  ⟨1, 6, 1, .u 8, .ro, .int 0, .any, false, false, false, .counter⟩]

/-- A head's block (R299, R300). -/
def rowsHead : List Row := [
  ⟨0, 1, 1, .bool, .rw, .int 0, .any, true, false, false, .plain⟩,
  ⟨0, 2, 1, .u 1, .rw, .int 0, .range 0 31, true, false, false, .plain⟩,
  ⟨0, 3, 1, .u 1, .rw, .int 0, .enum [0, 1, 2], true, false, false, .plain⟩,
  ⟨0, 4, 1, .u 1, .rw, .int 8, .enum [6, 8, 10, 12], true, false, false, .plain⟩,
  ⟨0, 5, 1, .u 1, .rw, .int 1, .enum [0, 1], true, false, false, .plain⟩,
  ⟨0, 6, 1, .octets 6, .rw, .zeros, .per, true, false, false, .plain⟩,
  ⟨0, 7, 1, .bool, .rw, .int 1, .any, true, false, false, .plain⟩,
  ⟨0, 8, 1, .u 2, .rw, .int 0, .range 0 8191, true, false, false, .plain⟩,
  ⟨0, 9, 1, .u 1, .wo, .hw, .enum [1], false, false, false, .plain⟩,
  ⟨0, 10, 1, .u 2, .ro, .int 0, .any, false, false, false, .plain⟩,
  ⟨0, 11, 1, .u 4, .ro, .int 0, .any, false, false, false, .counter⟩,
  ⟨1, 1, 1, .bool, .rw, .int 0, .any, false, false, false, .flag⟩,
  ⟨1, 2, 1, .u 1, .ro, .int 0, .any, false, false, false, .count⟩,
  ⟨1, 3, 1, .bool, .rw, .int 0, .any, false, false, false, .flag⟩,
  ⟨1, 4, 1, .u 1, .ro, .int 0, .any, false, false, false, .count⟩,
  ⟨1, 5, 1, .bool, .rw, .int 0, .any, false, false, false, .flag⟩,
  ⟨1, 6, 1, .u 1, .ro, .int 0, .any, false, false, false, .count⟩,
  ⟨1, 7, 1, .bool, .rw, .int 0, .any, false, false, false, .flag⟩,
  ⟨1, 8, 1, .u 1, .ro, .int 0, .any, false, false, false, .count⟩,
  ⟨1, 9, 1, .bool, .rw, .int 0, .any, false, false, false, .flag⟩,
  ⟨1, 10, 1, .u 1, .ro, .int 0, .any, false, false, false, .count⟩,
  ⟨2, 1, 1, .u 8, .ro, .int 0, .any, false, false, false, .counter⟩,
  ⟨2, 2, 1, .u 4, .ro, .int 0, .any, false, false, false, .counter⟩,
  ⟨2, 3, 1, .u 4, .ro, .int 0, .any, false, false, false, .counter⟩,
  ⟨2, 4, 1, .u 8, .ro, .int 0, .any, false, false, false, .counter⟩,
  ⟨3, 1, 1, .u 1, .ro, .int 0, .any, false, false, false, .plain⟩,
  ⟨3, 2, 1, .u 1, .ro, .int 0, .any, false, false, false, .plain⟩,
  ⟨3, 3, 1, .u 2, .ro, .int 0, .any, false, false, false, .plain⟩,
  ⟨3, 4, 1, .u 4, .ro, .int 0, .any, false, false, false, .plain⟩,
  ⟨3, 5, 1, .u 8, .ro, .int 0, .any, false, false, false, .plain⟩,
  ⟨3, 6, 1, .u 4, .ro, .int 0, .any, false, false, false, .plain⟩,
  ⟨4, 1, 1, .u 2, .const, .int 3075, .any, false, false, false, .plain⟩,
  ⟨5, 1, 1, .u 2, .rw, .int 0, .any, false, false, true, .plain⟩,
  ⟨5, 2, 1, .u 2, .rw, .per, .range 0 4096, true, false, false, .plain⟩]

/-- A layer's block (R301). -/
def rowsLayer : List Row := [
  ⟨0, 1, 1, .bool, .rw, .int 0, .any, false, false, false, .plain⟩,
  ⟨0, 2, 1, .u 1, .rw, .int 0, .any, false, false, false, .plain⟩,
  ⟨0, 3, 1, .u 2, .rw, .int 0, .range 0 8191, false, false, false, .plain⟩,
  ⟨0, 4, 1, .u 2, .rw, .int 0, .range 0 8176, false, false, false, .plain⟩,
  ⟨0, 5, 1, .u 2, .rw, .int 16, .range 1 7680, false, false, false, .plain⟩,
  ⟨0, 6, 1, .u 2, .rw, .int 16, .range 1 4320, false, false, false, .plain⟩,
  ⟨0, 7, 1, .u 2, .rw, .int 0, .range 0 7679, false, false, false, .plain⟩,
  ⟨0, 8, 1, .u 2, .rw, .int 0, .range 0 4319, false, false, false, .plain⟩,
  ⟨0, 9, 1, .u 2, .rw, .int 4096, .range 0 4096, false, false, false, .plain⟩,
  ⟨0, 10, 1, .u 1, .rw, .int 0, .enum [0, 1], false, false, false, .plain⟩,
  ⟨0, 11, 1, .u 1, .rw, .int 0, .range 0 4, false, false, false, .plain⟩,
  ⟨1, 1, 1, .octets 30, .rw, .per, .per, false, false, false, .plain⟩,
  ⟨2, 1, 1, .u 1, .ro, .int 0, .any, false, false, false, .plain⟩,
  ⟨2, 2, 1, .u 2, .ro, .int 0, .any, false, false, false, .plain⟩,
  ⟨2, 3, 1, .u 4, .ro, .int 0, .any, false, false, false, .counter⟩,
  ⟨2, 4, 1, .u 8, .ro, .int 0, .any, false, false, false, .counter⟩]

/-- An output's block (R314). -/
def rowsOutp : List Row := [
  ⟨0, 1, 1, .bool, .rw, .int 1, .any, true, false, false, .plain⟩,
  ⟨0, 2, 1, .u 4, .rwi, .per, .per, true, false, false, .plain⟩,
  ⟨0, 3, 1, .u 1, .rwi, .int 4, .enum [1, 2, 4], true, false, false, .plain⟩,
  ⟨0, 4, 1, .bool, .rwi, .per, .any, true, false, false, .plain⟩,
  ⟨0, 5, 1, .u 4, .ro, .int 0, .any, false, false, false, .plain⟩,
  ⟨0, 6, 1, .u 1, .ro, .int 0, .any, false, false, false, .plain⟩,
  ⟨0, 7, 1, .u 1, .ro, .int 0, .any, false, false, false, .plain⟩,
  ⟨0, 8, 1, .bool, .ro, .int 0, .any, false, false, false, .plain⟩,
  ⟨1, 1, 1, .bool, .rw, .int 0, .any, false, false, false, .flag⟩,
  ⟨1, 2, 1, .u 1, .ro, .int 0, .any, false, false, false, .count⟩,
  ⟨1, 3, 1, .bool, .rw, .int 0, .any, false, false, false, .flag⟩,
  ⟨1, 4, 1, .u 1, .ro, .int 0, .any, false, false, false, .count⟩,
  ⟨1, 5, 1, .bool, .rw, .int 0, .any, false, false, false, .flag⟩,
  ⟨1, 6, 1, .u 1, .ro, .int 0, .any, false, false, false, .count⟩,
  ⟨2, 1, 1, .u 4, .ro, .int 0, .any, false, false, false, .counter⟩,
  ⟨2, 2, 1, .u 4, .ro, .int 0, .any, false, false, false, .counter⟩,
  ⟨2, 3, 1, .u 4, .ro, .int 0, .any, false, false, false, .counter⟩]

/-- A PD port's block (R355). -/
def rowsPd : List Row := [
  ⟨0, 1, 1, .bool, .rw, .int 1, .any, true, false, false, .plain⟩,
  ⟨0, 2, 1, .u 1, .ro, .int 0, .any, false, false, false, .plain⟩,
  ⟨0, 3, 1, .u 1, .ro, .int 0, .any, false, false, false, .plain⟩,
  ⟨0, 4, 1, .u 1, .ro, .int 0, .any, false, false, false, .plain⟩,
  ⟨0, 5, 1, .bool, .ro, .int 0, .any, false, false, false, .plain⟩,
  ⟨0, 6, 1, .u 2, .ro, .int 0, .any, false, false, false, .plain⟩,
  ⟨0, 7, 1, .u 2, .ro, .int 0, .any, false, false, false, .plain⟩,
  ⟨0, 8, 1, .u 2, .ro, .int 3000, .any, false, false, false, .plain⟩,
  ⟨0, 9, 1, .u 1, .rw, .int 0xF, .mask 0x0F, true, false, false, .plain⟩,
  ⟨0, 10, 1, .u 1, .rwi, .per, .range 8 119, true, false, false, .plain⟩,
  ⟨0, 11, 1, .bool, .ro, .int 0, .any, false, false, false, .plain⟩,
  ⟨1, 1, 1, .u 4, .rw, .int 0, .range 0 240000, true, false, false, .plain⟩,
  ⟨1, 2, 1, .u 4, .rw, .per, .range 0 240000, true, false, false, .plain⟩,
  ⟨1, 3, 1, .u 1, .rw, .int 0, .range 0 7, true, false, false, .plain⟩,
  ⟨1, 4, 1, .u 4, .ro, .int 0, .any, false, false, false, .plain⟩,
  ⟨1, 5, 1, .u 4, .ro, .int 0, .any, false, false, false, .plain⟩,
  ⟨2, 1, 1, .bool, .rw, .int 0, .any, false, false, false, .flag⟩,
  ⟨2, 2, 1, .u 1, .ro, .int 0, .any, false, false, false, .count⟩,
  ⟨2, 3, 1, .bool, .rw, .int 0, .any, false, false, false, .flag⟩,
  ⟨2, 4, 1, .u 1, .ro, .int 0, .any, false, false, false, .count⟩,
  ⟨3, 1, 1, .u 4, .ro, .int 0, .any, false, false, false, .counter⟩,
  ⟨3, 2, 1, .u 4, .ro, .int 0, .any, false, false, false, .counter⟩,
  ⟨3, 3, 1, .u 4, .ro, .int 0, .any, false, false, false, .counter⟩,
  ⟨3, 4, 1, .u 4, .ro, .int 0, .any, false, false, false, .counter⟩,
  ⟨3, 5, 1, .u 4, .ro, .int 0, .any, false, false, false, .counter⟩,
  ⟨3, 6, 1, .u 4, .ro, .int 0, .any, false, false, false, .counter⟩,
  ⟨0x3F, 1, 1, .u 4, .rw, .int 0, .range 0 1000000, true, false, false, .plain⟩,
  ⟨0x3F, 2, 1, .u 4, .rw, .int 80000, .range 0 1000000, true, false, false, .plain⟩,
  ⟨0x3F, 3, 1, .u 4, .ro, .int 0, .any, false, false, false, .plain⟩,
  ⟨0x3F, 4, 1, .u 4, .ro, .int 0, .any, false, false, false, .plain⟩,
  ⟨0x3F, 5, 1, .bool, .ro, .hw, .any, false, false, false, .plain⟩,
  ⟨0x3F, 6, 1, .u 8, .rw, .int 0x7001F000000000, .any, true, false, false, .plain⟩,
  ⟨0x3F, 7, 1, .u 8, .rw, .int 0, .any, true, false, false, .plain⟩,
  ⟨0x3F, 8, 1, .u 4, .rw, .int 0xE0FF80, .any, true, false, false, .plain⟩,
  ⟨0x3F, 9, 1, .bool, .rw, .int 0, .any, false, false, false, .flag⟩,
  ⟨0x3F, 10, 1, .u 1, .ro, .int 0, .any, false, false, false, .count⟩,
  ⟨0x3F, 11, 1, .bool, .rw, .int 0, .any, false, false, false, .flag⟩,
  ⟨0x3F, 12, 1, .u 1, .ro, .int 0, .any, false, false, false, .count⟩,
  ⟨0x3F, 13, 1, .u 4, .ro, .int 0, .any, false, false, false, .counter⟩,
  ⟨0x3F, 14, 1, .u 4, .ro, .int 0, .any, false, false, false, .counter⟩]

/-- A lane's block (R371). -/
def rowsLane : List Row := [
  ⟨0, 1, 1, .u 1, .const, .hw, .any, false, false, false, .plain⟩,
  ⟨0, 2, 1, .bool, .rw, .int 1, .any, true, false, false, .plain⟩,
  ⟨0, 3, 1, .u 1, .ro, .int 0, .any, false, false, false, .plain⟩,
  ⟨0, 4, 1, .u 4, .ro, .int 0, .any, false, false, false, .plain⟩,
  ⟨0, 5, 1, .u 1, .ro, .int 0, .any, false, false, false, .plain⟩,
  ⟨0, 6, 1, .u 1, .ro, .int 0, .any, false, false, false, .plain⟩,
  ⟨0, 7, 1, .bool, .ro, .int 0, .any, false, false, false, .plain⟩,
  ⟨0, 8, 1, .u 1, .rw, .int 0x3, .mask 0x03, true, false, false, .plain⟩,
  ⟨0, 9, 1, .u 1, .rw, .int 0x3, .mask 0x03, true, false, false, .plain⟩,
  ⟨1, 1, 1, .u 1, .rw, .per, .enum [0, 1], true, false, false, .plain⟩,
  ⟨1, 2, 1, .octets 4, .rw, .per, .per, true, false, false, .plain⟩,
  ⟨1, 3, 1, .octets 4, .ro, .per, .any, false, false, false, .plain⟩,
  ⟨1, 4, 1, .u 2, .rw, .int 800, .range 400 1000, true, false, false, .plain⟩,
  ⟨1, 5, 1, .bool, .rw, .int 0, .any, true, false, false, .plain⟩,
  ⟨2, 1, 1, .bool, .rw, .int 1, .any, false, false, false, .plain⟩,
  ⟨2, 2, 1, .u 1, .rw, .int 0, .enum [0, 1], true, false, false, .plain⟩,
  ⟨2, 3, 1, .u 1, .rw, .int 16, .range 0 31, true, false, false, .plain⟩,
  ⟨2, 4, 1, .octets 12, .ro, .zeros, .any, false, false, false, .plain⟩,
  ⟨2, 5, 1, .bool, .rw, .int 0, .any, true, false, false, .plain⟩,
  ⟨3, 1, 1, .u 4, .rw, .int 16777216, .range 1048576 1073741824, true, false, false, .plain⟩,
  ⟨3, 2, 1, .u 2, .ro, .int 0, .any, false, false, false, .plain⟩,
  ⟨3, 3, 1, .u 2, .ro, .int 0, .any, false, false, false, .plain⟩,
  ⟨3, 4, 1, .u 4, .ro, .int 0, .any, false, false, false, .counter⟩,
  ⟨4, 1, 1, .u 1, .rwi, .int 0, .enum [0, 1, 2, 3], false, false, false, .plain⟩,
  ⟨4, 2, 1, .u 1, .rwi, .int 0, .range 0 7, false, false, false, .plain⟩,
  ⟨4, 3, 1, .u 1, .rwi, .int 0, .range 0 7, false, false, false, .plain⟩,
  ⟨4, 4, 1, .u 1, .wo, .hw, .enum [1], false, false, false, .plain⟩,
  ⟨4, 5, 1, .bool, .ro, .int 0, .any, false, false, false, .plain⟩,
  ⟨4, 6, 1, .u 8, .ro, .int 0, .any, false, false, false, .counter⟩,
  ⟨4, 7, 1, .u 8, .ro, .int 0, .any, false, false, false, .counter⟩,
  ⟨4, 8, 1, .u 4, .rwi, .per, .per, true, false, false, .plain⟩,
  ⟨5, 1, 1, .bool, .rw, .int 0, .any, false, false, false, .flag⟩,
  ⟨5, 2, 1, .u 1, .ro, .int 0, .any, false, false, false, .count⟩,
  ⟨5, 3, 1, .u 4, .ro, .int 0, .any, false, false, false, .counter⟩,
  ⟨5, 4, 1, .u 4, .ro, .int 0, .any, false, false, false, .counter⟩,
  ⟨5, 5, 1, .u 4, .ro, .int 0, .any, false, false, false, .counter⟩,
  ⟨5, 6, 1, .u 4, .ro, .int 0, .any, false, false, false, .counter⟩]

/-- A domain's block (R395). -/
def rowsDom : List Row := [
  ⟨0, 1, 1, .u 1, .ro, .hw, .any, false, false, false, .plain⟩,
  ⟨0, 2, 1, .u 1, .rw, .per, .range 1 3, true, false, false, .plain⟩,
  ⟨0, 3, 1, .u 4, .rw, .per, .zeroOr 10 60000000, true, false, false, .plain⟩,
  ⟨0, 4, 1, .u 4, .rw, .int 1000, .range 0 3600000, true, false, false, .plain⟩,
  ⟨0, 5, 1, .u 1, .rw, .int 0x1, .mask 0x03, true, false, false, .plain⟩,
  ⟨0, 6, 1, .u 4, .rw, .int 0, .zeroOr 100 3600000000, true, false, false, .plain⟩,
  ⟨0, 7, 1, .u 1, .wo, .hw, .enum [1, 2], false, false, false, .plain⟩,
  ⟨1, 1, 1, .u 4, .ro, .int 0, .any, false, false, false, .counter⟩,
  ⟨1, 2, 1, .u 4, .ro, .int 0, .any, false, false, false, .counter⟩,
  ⟨1, 3, 1, .u 4, .ro, .int 0, .any, false, false, false, .counter⟩,
  ⟨1, 4, 1, .u 4, .ro, .int 0, .any, false, false, false, .counter⟩,
  ⟨1, 5, 1, .u 4, .rw, .int 0, .any, false, false, false, .peak⟩,
  ⟨1, 6, 1, .u 1, .ro, .int 0, .any, false, false, false, .plain⟩,
  ⟨2, 1, 1, .bool, .rw, .int 0, .any, false, false, false, .flag⟩,
  ⟨2, 2, 1, .u 1, .ro, .int 0, .any, false, false, false, .count⟩,
  ⟨2, 3, 1, .u 4, .ro, .int 0, .any, false, false, false, .counter⟩,
  ⟨7, 1, 1, .u 1, .ro, .int 0xF, .any, false, false, false, .plain⟩,
  ⟨7, 2, 1, .u 1, .rw, .int 0, .mask 0x0F, true, false, false, .plain⟩,
  ⟨7, 3, 1, .u 1, .rw, .int 0x20, .range 0x08 0x77, true, false, false, .plain⟩,
  ⟨7, 4, 1, .u 1, .rw, .int 0x21, .range 0x08 0x77, true, false, false, .plain⟩,
  ⟨7, 5, 1, .u 1, .rw, .int 0x22, .range 0x08 0x77, true, false, false, .plain⟩,
  ⟨7, 6, 1, .u 1, .rw, .int 0x23, .range 0x08 0x77, true, false, false, .plain⟩,
  ⟨7, 7, 1, .bool, .rw, .int 0, .any, false, false, false, .flag⟩,
  ⟨7, 8, 1, .u 1, .ro, .int 0, .any, false, false, false, .count⟩,
  ⟨7, 9, 1, .u 4, .ro, .int 0, .any, false, false, false, .counter⟩]

/-- A Guard's block (R453, R454). -/
def rowsGuard : List Row := [
  ⟨0, 1, 1, .u 2, .const, .hw, .any, false, false, false, .plain⟩,
  ⟨0, 2, 1, .u 4, .ro, .int 1, .any, false, false, false, .plain⟩,
  ⟨0, 3, 1, .u 4, .ro, .int 1, .any, false, false, false, .plain⟩,
  ⟨0, 4, 1, .u 1, .wo, .hw, .enum [1, 2], false, false, false, .plain⟩,
  ⟨0, 5, 1, .u 1, .ro, .int 1, .any, false, false, false, .plain⟩,
  ⟨1, 1, 1, .bool, .rw, .int 0, .any, false, false, false, .flag⟩,
  ⟨1, 2, 1, .u 1, .ro, .int 0, .any, false, false, false, .count⟩,
  ⟨1, 3, 1, .bool, .rw, .int 0, .any, false, false, false, .flag⟩,
  ⟨1, 4, 1, .u 1, .ro, .int 0, .any, false, false, false, .count⟩,
  ⟨2, 1, 1, .u 8, .ro, .int 0, .any, false, false, false, .counter⟩,
  ⟨2, 2, 1, .u 8, .ro, .int 0, .any, false, false, false, .counter⟩,
  ⟨2, 3, 1, .u 4, .ro, .int 0, .any, false, false, false, .counter⟩,
  ⟨3, 1, 1, .u 2, .const, .int 32, .any, false, false, false, .plain⟩,
  ⟨4, 1, 1, .u 2, .rw, .int 0, .any, false, false, true, .plain⟩,
  ⟨4, 2, 1, .bool, .rw, .per, .any, true, false, false, .plain⟩,
  ⟨4, 3, 1, .u 4, .rw, .int 0, .any, true, false, false, .plain⟩,
  ⟨4, 4, 1, .u 4, .rw, .per, .any, true, false, false, .plain⟩,
  ⟨4, 5, 1, .u 1, .rw, .per, .any, true, false, false, .plain⟩,
  ⟨4, 6, 1, .u 1, .rw, .per, .any, true, false, false, .plain⟩,
  ⟨4, 7, 1, .bool, .ro, .per, .any, false, false, false, .plain⟩,
  ⟨4, 8, 1, .u 4, .ro, .per, .any, false, false, false, .plain⟩,
  ⟨4, 9, 1, .u 4, .ro, .per, .any, false, false, false, .plain⟩,
  ⟨4, 10, 1, .u 1, .ro, .per, .any, false, false, false, .plain⟩,
  ⟨4, 11, 1, .u 1, .ro, .per, .any, false, false, false, .plain⟩,
  ⟨4, 12, 1, .u 8, .ro, .int 0, .any, false, false, false, .counter⟩,
  ⟨0x3D, 1, 1, .u 2, .const, .int 64, .any, false, false, false, .plain⟩,
  ⟨0x3E, 1, 1, .u 2, .rw, .int 0, .any, false, false, true, .plain⟩,
  ⟨0x3E, 2, 1, .u 4, .ro, .int 0, .any, false, false, false, .plain⟩,
  ⟨0x3E, 3, 1, .u 2, .ro, .int 0, .any, false, false, false, .plain⟩,
  ⟨0x3E, 4, 1, .u 1, .ro, .int 0, .any, false, false, false, .plain⟩,
  ⟨0x3E, 5, 1, .u 1, .ro, .int 0, .any, false, false, false, .plain⟩,
  ⟨0x3E, 6, 1, .u 4, .ro, .int 0, .any, false, false, false, .plain⟩,
  ⟨0x3E, 7, 1, .u 2, .ro, .int 0, .any, false, false, false, .plain⟩,
  ⟨0x3E, 8, 1, .u 1, .ro, .int 0, .any, false, false, false, .plain⟩,
  ⟨0x3E, 9, 1, .u 1, .ro, .int 0, .any, false, false, false, .plain⟩,
  ⟨0x3E, 10, 1, .u 4, .ro, .int 0, .any, false, false, false, .plain⟩,
  ⟨0x3E, 11, 1, .u 8, .ro, .int 0, .any, false, false, false, .plain⟩,
  ⟨0x3F, 1, 1, .bool, .rw, .int 0, .any, true, false, false, .plain⟩,
  ⟨0x3F, 2, 1, .u 4, .ro, .int 0, .any, false, false, false, .counter⟩,
  ⟨0x3F, 3, 1, .u 4, .ro, .int 0, .any, false, false, false, .counter⟩]

/-- The global rows of a page (index divided by 256). -/
def globRows (page : Nat) : List Row :=
  match page with
  | 0x10 => rowsPage10
  | 0x11 => rowsPage11
  | 0x12 => rowsPage12
  | 0x13 => rowsPage13
  | 0x14 => rowsPage14
  | 0x28 => rowsPage28
  | 0x30 => rowsPage30
  | 0x34 => rowsPage34
  | 0x38 => rowsPage38
  | 0x40 => rowsPage40
  | 0x54 => rowsPage54
  | 0x5A => rowsPage5A
  | 0x64 => rowsPage64
  | 0x68 => rowsPage68
  | 0x70 => rowsPage70
  | 0x7C => rowsPage7C
  | 0x84 => rowsPage84
  | 0x90 => rowsPage90
  | 0x98 => rowsPage98
  | 0xA0 => rowsPageA0
  | _ => []

end Sys2Proof.Machine
end

