-- ==== Sys2Proof/Machine/State.lean ====
section
/-! DEFINITION. The state of the hub as plain data: the register file (the object dictionary's live values), the state
of every engine, the Hearth's content, the time, the queue of waiting commands, and what the hub has sent. Each
structure's docstring names the rule that gives the hub that state. -/

namespace Sys2Proof.Machine

/-- A sparse table: pairs of a key and a value, keys strictly rising. A key that is not listed has the table's default. -/
abbrev SMap (α : Type) := List (Nat × α)

/-- R1, Table 0.1: the three parts. Which one a hub is, its fuses say, once (R484). (DESIGN CHOICE, log 7) -/
inductive Part where
  | bw7740 | bw7730 | bw7720
deriving DecidableEq, Repr, Inhabited

/-- R45: the value of one sub-index: a number, or a byte string. -/
inductive Val where
  | int (v : Int)
  | bytes (b : List Byte)
deriving DecidableEq, Repr, Inhabited

/-- R67: an abort, class and detail code. -/
structure Abort where
  cls : Nat
  det : Nat
deriving DecidableEq, Repr, Inhabited

/-- What a dictionary access is answered with: bytes of a read, an accepted write, or an abort. -/
inductive Answer where
  | data (b : List Byte)
  | done
  | abort (a : Abort)
deriving DecidableEq, Repr, Inhabited

/-- R56: one staged field: its key, the window position that was selected when it was staged, and its value. -/
structure StagedField where
  ctx : Ctx
  window : Nat
  key : Nat
  pos : Nat
  val : Val
deriving DecidableEq, Repr, Inhabited

/-- R47: a write to an object of a unit that is quarantined or mapped out, held until the unit returns. -/
structure HeldWrite where
  unit : Nat
  key : Nat
  pos : Nat
  val : Val
deriving DecidableEq, Repr, Inhabited

/-- R52: a stored-dictionary record in a flash slot: its sequence number, whether its check verifies, its persistent
values, and the mapped-out set that it includes (R464). -/
structure StoreRecord where
  seq : Nat := 0
  ok : Bool := false
  vals : SMap Val := []
  mapout : List Nat := []
deriving DecidableEq, Repr, Inhabited

/-- R52, R53: the two flash records, and the record that an operation under way writes (`snapshot`). -/
structure Store where
  slotA : StoreRecord := {}
  slotB : StoreRecord := {}
  snapshot : Option StoreRecord := none
deriving DecidableEq, Repr, Inhabited

/-- R76-R81: how far a JDP transfer has come. -/
inductive XferKind where
  /-- a segmented write: next segment number, total length, bytes so far -/
  | segWrite (next total : Nat) (got : List Byte)
  /-- a block write: segment expected next in the block, block size, total length, bytes so far in order -/
  | blockWrite (next size total : Nat) (got : List Byte)
  /-- a block or bulk read: the stream, bytes acknowledged, block size, resends of the present block -/
  | blockRead (bulk : Bool) (stream : List Byte) (acked size resends : Nat)
  /-- a request that has been accepted and waits: for a domain to wake (R48), or for its apply time (R413) -/
  | waiting
deriving DecidableEq, Repr, Inhabited

/-- R73: an outstanding transfer: who, the node address the hub was addressed by, and the object. -/
structure Xfer where
  id : TransferId
  asNode : Nat
  idx : Nat
  sub : Nat
  kind : XferKind
deriving DecidableEq, Repr, Inhabited

/-- How an access is answered: by the model's command that made it, as a JDP transfer (with the block size of a block
read), or through the BAR 0 window. -/
inductive Reply where
  | cmd (src : Src)
  | jdp (id : TransferId) (asNode idx sub : Nat) (block : Option Nat)
  | bar0 (idx sub : Nat)
  /-- R332: nothing: the answer is discarded -/
  | dropped
deriving DecidableEq, Repr, Inhabited

/-- R57, R332: what a carrier context held when an access of it began to wait: its positions and selectors and, where the context has been
reset since (`gone`), its staged fields, for a reset does not touch what was accepted before it. -/
structure KeptCtx where
  sel : SMap Val
  staged : List StagedField := []
  gone : Bool := false
deriving DecidableEq, Repr, Inhabited

/-- R42, R48: an access that waits at the isolation stage of a domain (`write` is none for a read), and how it is answered. -/
structure Waiting where
  domain : Nat
  src : Src
  idx : Nat
  sub : Nat
  write : Option (List Byte)
  reply : Reply
  /-- R81: a window bulk read: first position, entry count -/
  bulk : Option (Nat × Nat) := none
  /-- R476: an image as FW_IMAGE's own command carries it -/
  image : Option Image := none
  kept : Option KeptCtx := none
deriving DecidableEq, Repr, Inhabited

/-- R84: an emergency frame: code, season after the event, unit number. -/
structure Emergency where
  code : Nat
  season : Nat
  unit : Nat
  time : Nat
deriving DecidableEq, Repr, Inhabited

/-- The JDP service (R70-R87): transfers, accesses that wait for a wake, emergency queues of each carrier with whether the
inhibit time runs, the heartbeat count, and the watch on the manager's heartbeats (R83). -/
structure Jdp where
  node : Nat := 0
  xfers : List Xfer := []
  waiting : List Waiting := []
  emergencies : SMap (List Emergency) := []
  inhibited : List Nat := []
  heartbeatCount : Nat := 0
  managerSeen : Bool := true
  /-- R86, R90: CAN_NOMINAL_RATE and CAN_DATA_RATE as they were at the last reset of the supervisor core, by which the controller runs -/
  canRates : Nat × Nat := (1, 0)
  /-- the dictionary is reachable (R467, step 4) -/
  reachable : Bool := false
deriving DecidableEq, Repr, Inhabited

/-- R65: the registers of the BAR 0 window. -/
structure Bar0 where
  wideHigh : Nat := 0
  /-- R64: what was last written to WIDE_HIGH -/
  wideWritten : Nat := 0
  abortCode : Nat := 0
  abortAddress : Nat := 0
  abortCount : Nat := 0
deriving DecidableEq, Repr, Inhabited

/-- R88: the registers and rings of BAR 2. The host-to-hub ring is `h2d`, the hub-to-host ring `d2h`. (DESIGN CHOICE, log 40) -/
structure Mailbox where
  control : Nat := 0
  h2dProducer : Nat := 0
  h2dConsumer : Nat := 0
  d2hProducer : Nat := 0
  d2hConsumer : Nat := 0
  status : Nat := 0
  h2d : SMap Byte := []
  d2h : SMap Byte := []
deriving DecidableEq, Repr, Inhabited

/-- R93, R119: a cell that has been written: its number in the frame, its slot (group and row) and its sequence number. -/
structure Cell where
  idx : Nat
  group : Nat
  row : Nat
  seq : Nat
deriving DecidableEq, Repr, Inhabited

/-- R120, R162: where a reference stands: waiting for the frame's last cell, in its leaf queue, taken, or released. -/
inductive RefState where
  | unlinked | queued | taken | released
deriving DecidableEq, Repr, Inhabited

/-- R129: one reference of a frame: its egress port (the lower member of a bonded pair), its leaf queue 8u + c (R156), with
8192 added for the reference that a mirror flag adds (R141), so that each is on its own; the launch time of a gated port
(R172), and how many of its cells have been delivered. -/
structure Ref where
  port : Nat
  queue : Nat
  st : RefState := .unlinked
  launch : Option Nat := none
  /-- R173: the network time at which its last cell reached the egress -/
  readAt : Option Nat := none
  delivered : Nat := 0
  releasedAt : Nat := 0
  /-- R131: its port went down before the link -/
  lost : Bool := false
  /-- R94: what its reads found of the frame's bytes, by cell, those delivered so far -/
  got : List Byte := []
deriving DecidableEq, Repr, Inhabited

/-- A frame in the Grate (R114): what was delivered (with its colour), its ingress port and first ingress port (R137), the
sequence number of its first cell (R119), its pool and class, the cells written, the reservations it holds (R510), its
references, whether it has reached a destination and been dropped for one (R130), whether the protected mark applies
(R141), and whether it is a multicast frame (R129). A frame that a double-bit error marks leaves at once (R97). -/
structure GFrame where
  id : Nat
  frame : Frame
  inPort : Nat
  firstPort : Nat
  /-- R119: the pair it is numbered on, and the number of its first cell -/
  pair : Nat := 0
  firstSeq : Nat := 0
  cells : Nat
  pool : Nat
  cls : Nat
  written : List Cell := []
  reserved : SMap Nat := []
  refs : List Ref := []
  reached : Bool := false
  dropped : Bool := false
  protect : Bool := false
  multi : Bool := false
deriving DecidableEq, Repr, Inhabited

/-- R120, R121: one cell of a resequencing window, and whether it has been read. -/
structure WinCell where
  frame : Nat
  queue : Nat
  idx : Nat
  group : Nat
  row : Nat
  seq : Nat
  read : Bool := false
  /-- R94: what the read found -/
  data : List Byte := []
deriving DecidableEq, Repr, Inhabited

/-- R162: a taken frame that has not been released: frame and leaf queue. -/
structure Taken where
  frame : Nat
  queue : Nat
deriving DecidableEq, Repr, Inhabited

/-- R97: a correction that waits for its port's next idle slot. -/
structure WriteBack where
  portB : Bool
  group : Nat
  bank : Nat
  row : Nat
  /-- the word that is written back, where an error of three or more bits was corrected wrongly -/
  data : Option (List Byte) := none
deriving DecidableEq, Repr, Inhabited

/-- R91-R107: the Hearth's engine state. `free` counts each group's free list (default: every row); `chunks` gives each
chunk in use its surface; `relief` lists relief rows taken (partner group, row) and `reliefWait` those that wait for a
cell to be freed (R107); `borrowing` the pools that hold cells above their quota by borrowing (R103). -/
structure Hearth where
  groupState : SMap Nat := []
  free : SMap Nat := []
  chunks : SMap Nat := []
  relief : List (Nat × Nat) := []
  reliefWait : List (Nat × Nat) := []
  borrowing : List Nat := []
  /-- R103: Bellows reports a voltage raise in progress -/
  raising : Bool := false
  writeBacks : List WriteBack := []
deriving DecidableEq, Repr, Inhabited

/-- R113: a frame that an attached unit holds while the Grate withholds its acknowledgement: its first ingress port, whether
it comes from a transmit ring, whether it is a mirrored copy, of a PROTECTED frame from the twin the Flow Table position that
classifies it (R415), and the frame. -/
structure AtPort where
  first : Nat
  nic : Bool
  copy : Bool
  frame : Frame
  pos : Option Nat := none
deriving DecidableEq, Repr, Inhabited

/-- R112-R131: the Grate's engine state: frames, each port's frames with unwritten cells in arrival order (the stager
shows their first cells), sequence numbers by pair (ingress * 32 + egress), leaf queues, taken frames, resequencing
windows, the step number modulo 32, the input and output last granted a fill window in each slice's round robin, the
ports whose attached unit reports link loss, and the ports that are flushing. -/
structure Grate where
  frames : List GFrame := []
  nextId : Nat := 0
  ingress : SMap (List Nat) := []
  seq : SMap Nat := []
  queues : SMap (List Nat) := []
  taken : SMap (List Taken) := []
  win : SMap (List WinCell) := []
  t : Nat := 0
  lastFillW : Nat := 31
  lastFillR : Nat := 31
  linkLost : List Nat := []
  flushing : List Nat := []
  reentry : List GFrame := []
  /-- R113: frames whose acknowledgement a full stager withholds, by port, oldest first -/
  atPort : SMap (List AtPort) := []
  /-- ports whose attached unit accepts no cell for now (R113, R221) -/
  stalled : List Nat := []
  /-- ports that ride-through took down (R348) -/
  shed : List Nat := []
  /-- R42, R113: frames that wait before their attached unit takes them, at the isolation stage of a domain or because the unit withholds
  acceptance: egress port, leaf queue and frame -/
  asleep : List (Nat × Nat × GFrame) := []
  /-- R352: ride-through is over: a shed port returns on its next wake trigger -/
  shedEnds : Bool := false
deriving DecidableEq, Repr, Inhabited

/-- R145, R159: a token bucket, in units of 1/8,000,000 byte, so that the remainder that the hub carries is exact. -/
structure Bucket where
  tok : Int := 0
  last : Nat := 0
deriving DecidableEq, Repr, Inhabited

/-- Two buckets of one node: T1 and T2 of a policer (R145), committed and excess of a Damper node (R159). -/
structure Buckets where
  a : Bucket := {}
  b : Bucket := {}
deriving DecidableEq, Repr, Inhabited

/-- R164: deficit round robin of one node in both rounds. -/
structure Dwrr where
  ptrC : Option Nat := none
  ptrE : Option Nat := none
  defC : SMap Int := []
  defE : SMap Int := []
deriving DecidableEq, Repr, Inhabited

/-- R171: a gate control list: base time, cycle time, lead and the entries (mask, duration). -/
structure GateList where
  enable : Bool := false
  base : Nat := 0
  cycle : Nat := 0
  lead : Nat := 0
  entries : List (Nat × Nat) := []
deriving DecidableEq, Repr, Inhabited

/-- R156-R175: Damper's engine state: buckets of subscribers, services and ports, deficits (service v at v, level l of
port p at 1000 + 8p + l), operational gate lists, pending swaps with their change times, and the entry in force. -/
structure Damper where
  subs : SMap Buckets := []
  svcs : SMap Buckets := []
  ports : SMap Bucket := []
  dwrr : SMap Dwrr := []
  oper : SMap GateList := []
  pending : SMap (List (Nat × GateList)) := []
  entry : SMap Nat := []
  /-- R179: PT_LINE_RATE of the ports whose attached unit's link is up -/
  lineRate : SMap Nat := []
  /-- R173: gate lists that swaps replaced, each with the time until which it was in operation, oldest first, while a launch time that
  an earlier list gave is outstanding -/
  past : SMap (List (Nat × GateList)) := []
deriving DecidableEq, Repr, Inhabited

/-- R385, R395: a power domain: its state (1 On, 2 Ember, 3 Off, 4 entering, 5 waking), the state it is leaving while it enters or wakes, a
sleep request that has not been granted yet (R42), whether ride-through forces it (R387), the cause of the wake
under way; of an entry the state it leads to, the time at which it is complete, and a wake trigger that came meanwhile (R42); and the spare
rows of its retained arrays (R392). -/
structure Domain where
  st : Nat := 3
  leaving : Nat := 3
  asked : Bool := false
  forced : Bool := false
  cause : Nat := 0
  /-- R387: a bank group was forced Off: its wake handles a retention loss -/
  lose : Bool := false
  goal : Nat := 2
  until_ : Nat := 0
  wake : Option WakeCause := none
  spare : List (Nat × List Byte) := []
deriving DecidableEq, Repr, Inhabited

/-- R415: the merge record of a stream: the highest sequence accepted and those of the last 1,024 that were seen. -/
structure MergeRec where
  high : Nat
  seen : List Nat
deriving DecidableEq, Repr, Inhabited

/-- R357-R371: a serial lane: transmitter and receiver state (0 Off, 1 Sleep, 2 Idle, 3 Active, 4 reacquiring), lock, the
FFE in force (magnitudes of pre2, pre1, main, post1), DFE taps and CTLE code, their history (R369), rate and modulation,
and exit triggers that wait for an entry request (R365). -/
structure Lane where
  tx : Nat := 0
  rx : Nat := 0
  locked : Bool := false
  ffe : List Nat := [0, 0, 63, 0]
  taps : List Int := [0, 0, 0, 0, 0, 0, 0, 0, 0, 0, 0, 0]
  code : Nat := 16
  hist : List (Nat × List Int × Nat) := []
  rate : Nat := 0
  modulation : Nat := 0
  exitTx : Bool := false
  exitRx : Bool := false
  /-- R183, R358: the pair that runs the other way: 0 none, 1 the transmit pair receives, 2 the receive pair transmits; and the DFE taps
  and the CTLE code of a transmit pair that receives -/
  rev : Nat := 0
  taps2 : List Int := [0, 0, 0, 0, 0, 0, 0, 0, 0, 0, 0, 0]
  code2 : Nat := 16
  /-- R369: the taps and the code of that receiver over the last 64 µs, as `hist` is for the other -/
  hist2 : List (Nat × List Int × Nat) := []
  /-- R359, R360: the coefficients that link training asked for, towards which the transmitter moves while TX_FFE_MODE is 0 -/
  goal : List Nat := [0, 0, 63, 0]
  /-- R359: the swing in mV that link training set -/
  swing : Nat := 800
  /-- R369: a loss of lock has been declared and lock has not returned -/
  lost : Bool := false
  /-- R369: lock was lost in Idle or Sleep, where no loss is declared: the exit reacquires as from Off -/
  stale : Bool := false
  /-- R368: PRBS_BITS, PRBS_ERRORS, and the part of a bit that the last nanosecond left, in millionths -/
  prbsBits : Nat := 0
  prbsErrs : Nat := 0
  prbsRem : Nat := 0
deriving DecidableEq, Repr, Inhabited

/-- R336-R354: a PD port: whether a partner is attached and the PD revision it speaks, a contract that has been accepted and has not
reached PS_RDY (voltage in mV, current in mA), the ports whose cuts its request waits for and whether it is being cut itself (R342), a
hard reset or a stage fault until vSafe0V (R346), the cable and the EPR mode (R337), the times of its stage faults (R354), a new PB_MIN
that does not fit yet (R340), the level of its PD_EN pin, and the voltage in mV that its stage is still to reach before that goes high
(R353). -/
structure PdPort where
  attached : Bool := false
  revision : PdRevision := .r32
  next : Option (Nat × Nat) := none
  cutsPending : List Nat := []
  cutting : Bool := false
  falling : Bool := false
  eprCable : Bool := false
  eprMode : Bool := false
  faults : List Nat := []
  minNext : Option Nat := none
  en : Bool := false
  rising : Option Nat := none
deriving DecidableEq, Repr, Inhabited

/-- R347-R352: where the hub stands with its supply: fed, fast role swap signalled (step 2), the host's VBUS switched
in (step 3), ride-through, ride-through over while UP is still Sink, or on hold-up energy. -/
inductive Supply where
  | fed | signalled | switched | riding | returning | holdUp
deriving DecidableEq, Repr, Inhabited

/-- R336-R356: the PD cores: ports, ADAPTER_OK as the hub has accepted it (low for 5 µs, high for 100 ms) and when it was last accepted
as low, the host's fast role swap current, the level of PD_SNK_EN0, the supply, and READ_IOUT readings above 2,900 mA in a row (R350). -/
structure Pd where
  ports : SMap PdPort := []
  adapterOk : Bool := true
  lowAt : Nat := 0
  frsCurrent : Nat := 0
  snkEn : Bool := false
  supply : Supply := .fed
  drawn : Nat := 0
deriving DecidableEq, Repr, Inhabited
/-- R447: a violation record that waits for the supervisor. -/
structure Violation where
  guard : Nat
  master : Nat
  write : Bool
  addr : Nat
  length : Nat
  region : Nat
  reason : Nat
  epoch : Nat
  time : Nat
deriving DecidableEq, Repr, Inhabited

/-- R449: a port B request that a Guard has judged and that waits for a domain's wake: its Guard and the epoch it was
judged under. -/
structure InFlight where
  guard : Nat
  epoch : Nat
  req : PortBRequest
deriving DecidableEq, Repr, Inhabited

/-- What becomes of a request at the Guard of its master (R446, R451). -/
inductive Passage where
  | allowed | suppressed | error
deriving DecidableEq, Repr, Inhabited

/-- R449: a request that a Guard has judged and that is not carried out yet: its Guard, the epoch it was judged under, and the verdict. -/
structure Judged where
  guard : Nat
  epoch : Nat
  req : PortBRequest
  pass : Passage
deriving DecidableEq, Repr, Inhabited

/-- R447, R449: violation records that wait for the supervisor, oldest first, and requests in flight. The model's own, empty between
commands: whether a work is only gone through for the requests that it will make, those requests, and the verdicts under which a work that
waited is done. -/
structure Guards where
  records : List Violation := []
  inFlight : List InFlight := []
  dry : Bool := false
  asked : List PortBRequest := []
  judged : List Judged := []
deriving DecidableEq, Repr, Inhabited
/-- R372-R382: Bellows: the AVSBus request that waits for its answer (target in mV, how often it was sent), the last target
requested, the time from which lowering is allowed again, a fault in
force (R377), whether a trusted reading has come since VDD_CORE came on (R509), when the raise began, the cells that the first stage has
written since the last step (R373), and what R378's triggers look at: OCCUPANCY_CELLS over the last microsecond (time and value), whether it
has risen by BW_FLARE_RISE since the last flare or step, whether it has been seen at or above BW_HIGH_MARK, and a logic pace that has fallen
below 750. -/
structure Bellows where
  request : Option (Nat × Nat) := none
  last : Nat := 850
  flareUntil : Nat := 0
  fault : Bool := false
  read : Bool := false
  raiseStart : Nat := 0
  written : Nat := 0
  seen : List (Nat × Nat) := []
  rose : Bool := false
  high : Bool := false
  slow : Bool := false
deriving DecidableEq, Repr, Inhabited
/-- R459, R461: a row that holds for a unit: its position, the unit, and the condition, season and latch that the row had
when it fired. -/
structure HealthHold where
  row : Nat
  unit : Nat
  code : Nat
  season : Nat
  latch : Bool
deriving DecidableEq, Repr, Inhabited

/-- R459-R464: the supervisor's health state: the reports of conditions (code, unit, time), oldest first, and the rows that hold. -/
structure Health where
  reports : List (Nat × Nat × Nat) := []
  /-- R459, R480: how many of them came before the last reset -/
  kept : Nat := 0
  holds : List HealthHold := []
  /-- R47, R49, R71: the health events that name an object: HL_SEQ of their log entry, index and sub-index -/
  named : List (Nat × Nat × Nat) := []
deriving DecidableEq, Repr, Inhabited
/-- R188, R195, R203: an enabled path: what the path entry names, its state (1 active, 2 no wildcard, 3 no subscriber), the
wildcard and subscriber it took (0xFFFF none), the credits the partner holds, and the partner's grant at the egress. -/
structure Path where
  spec : PathSpec
  state : Nat
  wild : Nat := 0xFFFF
  sub : Nat := 0xFFFF
  partner : Nat := 0
  grant : Nat := 0
deriving DecidableEq, Repr, Inhabited

/-- R185-R200: the USB4 ports: paths (port * 64 + position), the credit wait list of each port with the frames that its
egress holds back when the list is full (R196), the allocations granted to the paths of tunnels in bandwidth allocation mode
(R197), and router configuration space as it was last written, by part and register (R186). -/
structure Usb4 where
  paths : SMap Path := []
  waiting : SMap (List (Nat × GFrame)) := []
  held : SMap (List (Nat × GFrame)) := []
  dpAlloc : SMap Nat := []
  cfg : SMap Nat := []
deriving DecidableEq, Repr, Inhabited

/-- R207: the allotment controller's measures. -/
structure Allot where
  /-- SB_ENQUEUED_BYTES of each subscriber at the start of the present period -/
  enqueued : SMap Nat := []
  /-- the time at which the last periodic pass began the present period (the model's own, DEDUCED, log 29) -/
  periodAt : Nat := 0
  /-- the time of an immediate pass since then, by port (the model's own, DEDUCED, log 29) -/
  portAt : SMap Nat := []
deriving DecidableEq, Repr, Inhabited

/-- R413, R417: a mirrored write or a descriptor that waits for its apply time: its sequence number, the time once a COMMIT
has named it, the item (on the standby, and of a write on the active), and on the active who wrote, how the write is
answered, and the fields its COMMIT applies. -/
structure PendingApply where
  descriptor : Bool
  seq : Nat
  time : Option Nat := none
  item : Option MirrorItem := none
  src : Option Src := none
  reply : Option Reply := none
  fields : List StagedField := []
deriving DecidableEq, Repr, Inhabited

/-- Table 22.3: the types of Tyvel frames. -/
inductive TyvelType where
  | train | attest | mgmt | mirror | mirrorAck | protect | tileRecords | commit | phase | time | state | equinox | rekey
deriving DecidableEq, Repr, Inhabited

/-- R401, R402: a frame that waits to be sent on the Tyvel link, or one that is sent: its type, CHANNEL_SEQ, its numbers, and what else it carries. -/
structure TyvelMsg where
  type : TyvelType
  seq : Nat := 0
  args : List Nat := []
  items : List MirrorItem := []
  frame : Option Frame := none
deriving DecidableEq, Repr, Inhabited

/-- Table 22.2: a frame that the receiver took off the byte stream: the 16 bytes of its header, its payload as it came, and its tag. -/
structure TyvelRaw where
  header : List Byte
  payload : List Byte
  tag : List Byte := []
deriving DecidableEq, Repr, Inhabited

/-- R400: what a lane brought for a stripe: the stripe's number, the lane, and FRAME_START with the payload, none of an erasure. -/
structure StripePart where
  stripe : Nat
  lane : Nat
  body : Option (Nat × List Byte)
deriving DecidableEq, Repr, Inhabited

/-- R397-R425: the twin controller: the token and the alive output, whether the hub has demoted itself, and whether the other hub was last seen
to drive TWIN_TOKEN; the Tyvel link's lanes and those held out; of the receiver the stripe number that each lane brings next, what they
brought for stripes that are not complete, the next stripe, the bytes of the stream not yet taken as frames, whether it waits for a
FRAME_START, and the frames taken; of the transmitter the frames that wait, the bytes of the frame under way, the part of a stripe's
time that has passed, in hundredths of a ns, and the next stripe number; the session, frame counters, when keys changed and the COUNTER then,
and the COUNTER values at which a direction takes its new key; mirror sequences, items not acknowledged, items that wait for their apply time,
COMMITs that came before their items; when Pairing started; what the twin last reported; descriptors of which a copy from the
twin is held; a planned Equinox; the last protected sequence of each stream that this hub, and the old active, sent. -/
structure Twin where
  token : Bool := false
  alive : Bool := false
  demoted : Bool := false
  lineLow : Bool := false
  lanes : List Nat := []
  miswired : List Nat := []
  linkUp : Bool := false
  rxAt : SMap Nat := []
  parts : List StripePart := []
  rxNext : Option Nat := none
  stream : List Byte := []
  resync : Bool := false
  frames : List TyvelRaw := []
  txq : List TyvelMsg := []
  txBytes : List Byte := []
  txRem : Nat := 0
  txStripe : Nat := 0
  session : Bool := false
  refused : Bool := false
  txCounter : Nat := 0
  rxCounter : Option Nat := none
  lastKey : Nat := 0
  keyCounter : Nat := 0
  rekeyTx : Option Nat := none
  rekeyRx : Option Nat := none
  txSeq : Nat := 0
  rxSeq : Nat := 0
  unacked : List (Nat × MirrorItem) := []
  applies : List PendingApply := []
  early : List (Nat × Nat) := []
  since : Nat := 0
  peer : Option TwinReport := none
  copies : List Nat := []
  equinoxAt : Option Nat := none
  sent : SMap Nat := []
  floor : SMap Nat := []
  /-- R412: the records of the valid surfaces are still to be copied at the start of Catch-up -/
  copying : Bool := false
  /-- R412: they have been copied in this Catch-up -/
  copied : Bool := false
  /-- R449: the requests of the copy that waits, as G11 has judged them -/
  passes : List Judged := []
deriving DecidableEq, Repr, Inhabited

/-- R426: a key slot: algorithm (0 empty), attributes in the layout of KS_ATTRIBUTES, use limit, uses charged or forfeited
(R428), the use ceiling in force (R434), the key's bytes, and its generation. -/
structure KeySlot where
  alg : Nat := 0
  attrs : Nat := 0
  limit : Nat := 0
  used : Nat := 0
  ceiling : Nat := 0
  key : List Byte := []
  gen : Nat := 0
deriving DecidableEq, Repr, Inhabited

/-- R433: a key record in the boot flash: its sequence number, the epoch its record key was derived under, whether its
tag verifies, and its content. -/
structure KeyRecord where
  seq : Nat
  epoch : Nat
  ok : Bool
  slot : KeySlot
deriving DecidableEq, Repr, Inhabited

/-- R430: a key operation that has been granted, with what it will do when it completes: the slot it installs (an empty one for Erase), whether a
record is written (of Erase an empty one, of Make persistent the slot's), its output, or the abort with which it fails. -/
structure KeyOp where
  ctx : Ctx
  op : Nat := 0
  slot : Nat
  install : Option KeySlot := none
  record : Bool := false
  output : List Byte := []
  fails : Option Abort := none
deriving DecidableEq, Repr, Inhabited

/-- R427, R435: an SPDM session: the slots of its traffic keys, of requests and of responses, its number, how many messages it has taken and sent, and
whether it came by the DOE mailbox of F0. -/
structure SpdmSession where
  slots : List Nat
  id : Nat := 0
  taken : Nat := 0
  sent : Nat := 0
  doe : Bool := false
deriving DecidableEq, Repr, Inhabited

/-- R426-R436: the key store: slots, records (2 * slot + location A or B), operations under way, the SPDM session
of each carrier (R427), whether an entropy fault still blocks generation, the DRBG's key, value and number of generate requests (R431), and
the certificate chains of slots 1 and 2 (R435). -/
structure Keys where
  slots : SMap KeySlot := []
  records : SMap KeyRecord := []
  busy : List KeyOp := []
  sessions : SMap SpdmSession := []
  entropyBad : Bool := false
  drbgK : List Byte := []
  drbgV : List Byte := []
  drbgUses : Nat := 0
  certs : SMap (List Byte) := []
deriving DecidableEq, Repr, Inhabited

/-- R220-R236: a MAC's link and security state: the secure associations that have a key (8 * MAC + position), and
whether PAUSE holds a MAC's transmit (in `Grate.stalled`). The speed a USXGMII link negotiated is its LINK_SPEED. -/
structure Macs where
  keyed : SMap Nat := []
deriving DecidableEq, Repr, Inhabited

/-- R508: one ring of a queue pair of F1. -/
structure Ring where
  baseLo : Nat := 0
  baseHi : Nat := 0
  size : Nat := 0
  tail : Nat := 0
  head : Nat := 0
  control : Nat := 0
deriving DecidableEq, Repr, Inhabited

/-- R508, R511: F1's rings by queue pair, and the descriptors as the host and F1 wrote them (queue * 4096 + index). (DESIGN CHOICE, log 40) -/
structure Nic where
  rx : SMap Ring := []
  tx : SMap Ring := []
  rxDesc : SMap NicDesc := []
  txDesc : SMap NicDesc := []
deriving DecidableEq, Repr, Inhabited

/-- R227-R229: the time unit: qualified sources by TIME_SOURCE's code, the source in use (0 none), the offset that a slew
has still to make up with the ppm remainder that it carries from one nanosecond to the next, the rate last learned from a
source in parts per billion above the reference's nominal frequency, and the part of a nanosecond that rate and slew have
gained, in units of 1e-9 ns. -/
structure TimeUnit where
  qualified : List Nat := []
  inUse : Nat := 0
  slew : Int := 0
  rem : Nat := 0
  rate : Int := 0
  frac : Int := 0
  /-- R225: what the hub announces as grandmaster: GPTP_MACS, GPTP_DOMAIN and GPTP_PRIORITY1; empty when it is none -/
  announced : List Nat := []
  /-- R225: the last Announce message received at each MAC -/
  announces : SMap Announce := []
  /-- R227: the MAC at which the followed grandmaster's Sync comes -/
  syncMac : Option Nat := none
  /-- R227: those of F0 and F1 that hold a PTM context -/
  ptm : List Nat := []
deriving DecidableEq, Repr, Inhabited

/-- R239-R250: the PCIe switch: configuration space where it was written (space * 2^16 + register), functions held in
reset, the words written in MSI-X tables ((function * 64 + vector) * 4 + word) and the pending vectors, for each link port and credit
type what the partner holds and granted (port * 8 + type), TLPs that wait for credit at a link egress, TLPs that an egress holds back,
the non-posted requests forwarded to a drive and not completed, the link ports whose link is up, and of F0's DOE mailbox (R435) the words
written, the words to read and its error bit. -/
structure Pcie where
  /-- R491: the reference clocks NVREF0 and NVREF1 that run, and since when -/
  nvRef : SMap Nat := []
  cfg : SMap Nat := []
  inReset : List Nat := [0, 1, 2, 3]
  msix : SMap Nat := []
  pba : List Nat := []
  partner : SMap Nat := []
  outLimit : SMap Nat := []
  sent : SMap Nat := []
  waiting : SMap (List GFrame) := []
  back : SMap (List GFrame) := []
  nonPosted : SMap (List Headers) := []
  linkUp : List Nat := []
  doeIn : List Nat := []
  doeOut : List Nat := []
  doeError : Bool := false
deriving DecidableEq, Repr, Inhabited

/-- R262-R264: what the coder keeps of a tile: its state (0 stored, 1 pending, 2 re-send needed, 3 never written), the
E_CODE and length of the record it holds, and the overflow block that holds it. -/
structure TileInfo where
  st : Nat := 3
  e : Nat := 0
  bytes : Nat := 8
  ov : Option Nat := none
  /-- R272: its content is lost, and no record has been written since: heads show value 0 -/
  lost : Bool := false
deriving DecidableEq, Repr, Inhabited

/-- R264: who made a record: the hub's own coder, a pre-coded tile, or the twin. -/
inductive RecordMaker where
  | coder | precoded | twin
deriving DecidableEq, Repr, Inhabited

/-- R267: what a tile lane that waits for a row to be released will write: samples to code, a pre-coded record with its pitch, the tile
of an entry of the retry store, or the constant of R272. -/
inductive LaneWork where
  | raw (samples : List Nat)
  | precoded (pitch : Nat) (bytes : List Byte)
  | retry
  | lost
  /-- R260: the constant record of a new surface -/
  | fresh
  /-- R417: a record that was held back until the apply time: its E_CODE, its bytes, its overflow block, and whose it is -/
  | staged (ec : Nat) (bytes : List Byte) (ov : Option Nat) (maker : RecordMaker)
  /-- R412: a record of the active, for a standby -/
  | twin (bytes : List Byte)
deriving DecidableEq, Repr, Inhabited

/-- R262: what the source of a pending tile is: samples, a pre-coded record, or a record of the twin. Of a record the entry has the header. -/
inductive RetrySource where
  | samples
  | record (head : List Byte) (length : Nat)
  | twin (head : List Byte) (length : Nat)
deriving DecidableEq, Repr, Inhabited

/-- R262: an entry of the retry store: a pending tile, its place among the 64 of the store's chunks, and what lies there. -/
structure Retry where
  surface : Nat
  plane : Nat
  tile : Nat
  at_ : Nat
  source : RetrySource
deriving DecidableEq, Repr, Inhabited

/-- R267, R42: a tile lane that waits for a row, for its own domain, or for a bank group to wake; whether it has counted as a wait of the
interlock, and the requests that its Guard has judged (R449). -/
structure LaneWait where
  surface : Nat
  plane : Nat
  tile : Nat
  work : LaneWork
  lane : Nat := 0
  held : Bool := false
  passes : List Judged := []
deriving DecidableEq, Repr, Inhabited

/-- R269, R270: the descriptor that F2 works on: its ring index, the descriptor, and the tiles that are not done. (DESIGN CHOICE, log 40) -/
structure Ingest where
  at_ : Nat
  desc : IngDesc
  left : List (Nat × Nat)
  deferred : Nat := 0
  refused : Nat := 0
deriving DecidableEq, Repr, Inhabited

/-- R417: a record staged for a descriptor of a twin pair, with its E_CODE and the overflow block that it takes. Its header is held,
and with it what it would write under the header that a head may still read (R268). (DEDUCED, log 32) -/
structure HeldRecord where
  desc : Nat
  surface : Nat
  plane : Nat
  tile : Nat
  ec : Nat
  bytes : List Byte
  ov : Option Nat
  maker : RecordMaker := .twin
deriving DecidableEq, Repr, Inhabited

/-- R251-R275: the coder and F2: tiles (surface * 2^20 + plane * 2^18 + index), the retry store and whether it holds its
chunks, surfaces whose free is deferred, waiting lanes, and F2's registers, ring and descriptor under way. -/
structure Coder where
  tiles : SMap TileInfo := []
  retry : List Retry := []
  retryHeld : Bool := false
  deferredFree : List Nat := []
  waits : List LaneWait := []
  control : Nat := 0
  producer : Nat := 0
  consumer : Nat := 0
  ring : SMap IngDesc := []
  current : Option Ingest := none
  held : List HeldRecord := []
  /-- R24: the lane at work, as a unit -/
  lane : Nat := 0
deriving DecidableEq, Repr, Inhabited

/-- R285: a tile row as a head fetched it: the layer, the row, whether it belongs to the next frame, the surface, the values
of the layer's objects at the fetch point, whether it is shown (R286), and the decoded samples: planes, rows, columns. -/
structure FetchedRow where
  layer : Nat
  k : Nat
  next : Bool
  surface : Nat
  srcX : Nat
  srcY : Nat
  width : Nat
  height : Nat
  dstX : Nat
  dstY : Nat
  alpha : Nat
  alphaMode : Nat
  matrix : List Int
  model : Nat
  depth : Nat
  chroma : Nat
  planes : List (List (List Nat))
  /-- R267: the tile rows (surface, plane, tile row) that the head holds for it -/
  held : List (Nat × Nat × Nat) := []
  /-- R42: its reads wait for a bank group to wake -/
  pending : Bool := false
  /-- R449: the requests of those reads that the Guard has judged -/
  passes : List Judged := []
  /-- R284: the depth of chroma samples that were fetched with the row before, where it is another -/
  chromaDepth : Option Nat := none
deriving DecidableEq, Repr, Inhabited

/-- R283: the values of a head's own objects that hold for a line, as they were at its start: background, LUT bypass, depth,
dither, and the LUT entries that differ from their defaults (by key). -/
structure HeadRegs where
  background : List Byte := [0, 0, 0, 0, 0, 0]
  bypass : Bool := false
  depth : Nat := 8
  dither : Nat := 0
  lut : SMap Val := []
deriving DecidableEq, Repr, Inhabited

/-- R280-R298: a head's raster: whether it runs, the line now and the network time at which it started, the lines by which the front porch has been extended, the
sync mode in force, whether a trigger is latched, the fetched rows of this frame and the next with the tile rows that they
hold, the layers switched off by underrun, the surfaces that rows of this frame and of the next were fetched from (R297), the
object values of the line, and whether this frame, and the next, has shown a config error (R286). -/
structure Head where
  running : Bool := false
  line : Nat := 0
  lineAt : Nat := 0
  ext : Nat := 0
  mode : Nat := 0
  latched : Bool := false
  rows : List FetchedRow := []
  off : List Nat := []
  sources : List (Nat × Bool) := []
  regs : HeadRegs := {}
  configError : Bool := false
  configErrorNext : Bool := false
deriving DecidableEq, Repr, Inhabited

/-- R304-R315: the outputs: what each sink reported, outputs whose link is training, the time slots of each placed slot and
the payload it was placed with, slots that a fit dropped, slots that are starved, the passthrough streams that the host
sends (adapter * 4 + stream) with their attributes, timeouts of the AUX transaction under way, the times at which slots starved, and
the outputs whose relink is under way (R312). -/
structure Outputs where
  caps : SMap SinkCaps := []
  training : List Nat := []
  slots : SMap (List Nat) := []
  payload : SMap Nat := []
  dropped : List Nat := []
  starved : List Nat := []
  streams : SMap StreamAttrs := []
  auxTries : SMap Nat := []
  starvedAt : SMap Nat := []
  relinking : List Nat := []
deriving DecidableEq, Repr, Inhabited

/-- R316-R332: the USB hubs: USB2_STATE and USB3_STATE before their suspension, the buffers of each TT, the transactions whose
complete-splits are answered with ERR (port, device, endpoint, microframe), emptied transactions that a TT still finishes on its port,
with the time until then (R322), the telemetry alternate and its cursor, the functions for which the host enabled remote wake
(0 the USB 2.0 hub, 1 the USB 3.2 hub, 2 the device on port 8), the ports whose wake was only noted, those whose suspend change bit is
set, those that were suspended when the host's last resume was granted, the addresses of the functions, the device's state (0 disabled,
1 default, 2 addressed, 3 configured) and whether its port is suspended, and PDUs that wait for it (R330). -/
structure Usb where
  before2 : Nat := 0
  before3 : Nat := 0
  tt : SMap (List Split) := []
  lost : List (Nat × Nat × Nat × Nat) := []
  finishing : List (Nat × Nat × Split) := []
  alternate : Nat := 0
  cursor : Nat := 0
  wakeOn : List Nat := []
  noted : List Nat := []
  noted3 : List Nat := []
  suspendChange : List Nat := []
  collide : List Nat := []
  resumedAt : Nat := 0
  addresses : SMap Nat := []
  dev : Nat := 0
  devSuspended : Bool := false
  parked : List (Peer × Pdu) := []
deriving DecidableEq, Repr, Inhabited

/-- R469-R477: images in the flash by slot (2 * (KIND - 1) + slot; absent = empty), the slot of each kind that the set record
names, a trial that FW_ACTIVATE left pending, the one-shot permission of R475, the slots in use, the slot and image that is being
programmed, a hub reset that waits for a flash operation (R481), and whether the hub has power (R467). -/
structure Firmware where
  images : SMap Image := []
  known : List Nat := [0, 0, 0, 0]
  trial : Bool := false
  permit : Bool := false
  running : List Nat := []
  writing : Option (Nat × Image) := none
  resetWait : Bool := false
  powered : Bool := true
deriving DecidableEq, Repr, Inhabited
/-- R231, R234: how MACsec protected a frame: the association number, the PN, the SCI in the SecTAG when MS_INCLUDE_SCI asks
for it, and the nonce of GCM. -/
structure Secured where
  an : Nat
  pn : Nat
  sci : Option (List Byte)
  nonce : List Byte
deriving DecidableEq, Repr, Inhabited

/-- R87, R84 and the pins: what the hub has sent or driven, in the order it sent it. (DESIGN CHOICE, log 39, 40) -/
inductive Out where
  /-- a JDP PDU on a carrier -/
  | pdu (dst : Peer) (p : Pdu)
  /-- the answer to a dictionary access that no carrier frames (BAR 0 and the model's own commands) -/
  | answer (src : Src) (a : Answer)
  /-- R66: the completion data of a BAR 0 or BAR 2 read -/
  | completion (v : Nat)
  /-- R23: the error completion of a read of a function that is isolated -/
  | errorCompletion
  /-- R87: an ARP reply on a MAC for an IPv4 address -/
  | arp (mac ip mac48 dst : Nat)
  /-- a message-signalled interrupt of a function: function and vector -/
  | msix (fn vector : Nat)
  /-- R41: INT_N for a flag's event route -/
  | intN (key : Nat)
  /-- a frame or packet that left at a Grate port, with whether MACsec protected it -/
  | egress (port : Nat) (f : Frame) (secured : Option Secured)
  /-- R222, R416: a PTP event message was time-stamped, at ingress or egress of a MAC -/
  | timestamp (mac : Nat) (tx : Bool) (t : Nat)
  /-- a message to a link partner: what kind, and its numbers -/
  | link (unit : Nat) (what : String) (args : List Nat)
  /-- R444: the completion of a port B request: 0 normal, 1 write collision, 2 poisoned, 3 error -/
  | portB (master status : Nat) (data : List Byte)
  /-- a completion written to host memory or a ring by a function's DMA -/
  | dma (fn : Nat) (what : String) (args : List Nat) (bytes : List Byte)
  /-- a request on AVSBus or PMBus -/
  | rail (what : String) (args : List Nat)
  /-- a PD message on a port, at the revision of its partner (R336) -/
  | pd (port : Nat) (revision : PdRevision) (what : String) (args : List Nat)
  /-- a level of a PD pin, a signal on CC, or a PMBus transfer with the power stage of a port (R353) -/
  | stage (port : Nat) (what : String) (args : List Nat)
  /-- R401: a Tyvel frame begins: what it says, and its bytes -/
  | tyvel (x : TyvelMsg) (bytes : List Byte)
  /-- R399: a stripe that carries bytes of frames: its number, and the symbols of L38 to L41 -/
  | stripe (number : Nat) (lanes : List (List Nat))
  /-- a USB transfer towards the host or a device -/
  | usb (what : String) (args : List Nat) (bytes : List Byte)
  /-- a display output: AUX, training, a stream's line or packet -/
  | display (output : Nat) (what : String) (args : List Nat)
  /-- a flash operation -/
  | flash (what : String) (args : List Nat)
deriving DecidableEq, Repr, Inhabited

/-- R388, R385: what a pin shows to a unit whose domain is not On: it acts on it once it is. -/
inductive PinEvent where
  | hotPlug (output : Nat) (caps : SinkCaps)
  | hotUnplug (output : Nat)
  | hpdIrq (output : Nat) (vector : IrqVector)
  | connect (port speed : Nat)
  | disconnect (port : Nat)
  | busReset
  | hotReset
  | hostResume
  | remoteWake (port : Nat)
  | u3Exit (port : Nat) (fromHost : Bool)
  | attach (partner : PdPartner)
deriving DecidableEq, Repr, Inhabited

/-- What a command leaves for the rest of the hub to do before the next command: the hub's own reactions, carried out
in the order in which they arose (R459, R212, R31 and the chapters that own them). -/
inductive Todo where
  /-- R459: a unit's fault report to the supervisor: condition code and unit number -/
  | report (code unit : Nat)
  /-- R48, R388: a wake trigger for a domain -/
  | wake (domain : Nat) (cause : WakeCause)
  /-- a frame was delivered to the unit attached to a Grate port, from a leaf queue -/
  | delivered (port queue : Nat) (f : GFrame)
  /-- R113: a port's stager may have room again -/
  | stagerRoom (port : Nat)
  /-- R227: a time source no longer meets its test -/
  | sourceGone (source : TimeSrc)
  /-- R113: the unit attached to a Grate port accepts frames again -/
  | accepts (port : Nat)
  /-- R107, R393, R507: tiles with bytes in a group's pieces lost their content (R272) -/
  | groupLost (group : Nat)
  /-- R240, R511: a function writes host memory: address, length and bytes -/
  | hostWrite (fn addr n : Nat) (bytes : List Byte)
  | hostRead (fn addr n : Nat)
  /-- R248: a non-posted request was discarded at admission because the port it is routed to is down -/
  | npDropped (port : Nat) (x : Headers)
  /-- R511: GP13 is up again -/
  | nicResume
  /-- R22, R122: a unit's fault -/
  | fault (unit : Nat)
  /-- R21, R438: the keys are gone, or the key store is out of service -/
  | keysLost
  /-- R440: the traffic key of a carrier's session was erased -/
  | sessionLost (ctx : Nat)
  /-- R415: a copy of a tagged protected frame goes to the twin, with the exact position that classified it -/
  | protectCopy (pos : Nat) (f : Frame)
  /-- R184, R240: the PCIe tunnel on UP is lost or reset -/
  | tunnelLost
  /-- R435: a PDU of a session's application data is taken, and one of the hub's is sent -/
  | sessionPdu (ctx : Ctx) (bytes : List Byte)
  | sealPdu (ctx : Ctx) (p : Pdu)
  /-- R389: a unit starts again after its domain was Off -/
  | fromOff (unit : Nat)
  /-- R267: tile lanes that no head holds up any more resume -/
  | lanesResume
  /-- R417: the records that were held for a twin's descriptors are written -/
  | releaseHeld
  /-- R313: the outputs that carry streams of an adapter are fitted anew -/
  | fit (adapter : Nat)
  /-- R388: an attach reported by a port's PD core, or another pin event of a domain -/
  | pinWake (domain : Nat)
  /-- R295: an underrun is reported to Bellows -/
  | flare (cause : FlareCause)
  /-- R48: accesses that wait at a domain's isolation stage complete -/
  | awake (domain : Nat)
  /-- R393: the supervisor core restarts -/
  | restart
  /-- R393: the unit of a lost P-die array restarts as from Off -/
  | restartUnit (unit : Nat)
  /-- R349, R352: the hub restarts from power-on -/
  | powerOn
  /-- R461: what an unlatched row waits for has come: condition code and unit -/
  | cleared (code unit : Nat)
  /-- R417: this hub holds a copy of a descriptor's records -/
  | described (n : Nat)
  /-- R412: an item that the active mirrors -/
  | mirrored (item : MirrorItem)
  /-- R241: an unmasked error of a configuration space: 0 correctable, 1 not fatal, 2 fatal -/
  | aerError (space : Nat) (severity : Nat)
deriving DecidableEq, Repr, Inhabited

/-- The hub: every register, engine, queue, mode and pin, and what the command under way has sent and asked for. -/
structure Hub where
  /-- R1, R484: which part the fuses make it -/
  part : Part := .bw7740
  /-- R468: the straps as latched -/
  straps : Straps := { twinSide := 0, nodeId := 0, bootMode := 0 }
  /-- ns since power-on, and at the last supervisor restart (R83) -/
  now : Nat := 0
  bootedAt : Nat := 0
  /-- R226: network time in ns -/
  net : Nat := 0
  /-- R36: network time as the C-die sees it -/
  cNet : Nat := 0
  /-- the model's own: how many free values have been taken (DESIGN CHOICE, log 8) -/
  fresh : Nat := 0
  /-- the object dictionary's live values (R43), by key `pos * 2^24 + index * 256 + sub`; absent = the default -/
  dict : SMap Val := []
  /-- R57: positions and selectors of each carrier context -/
  sel : SMap Val := []
  /-- R56, R57: staged fields -/
  staged : List StagedField := []
  /-- R47: held writes, oldest first -/
  held : List HeldWrite := []
  /-- R84, R41: the flags whose JDP event route, and whose INT_N route, is enabled (DESIGN CHOICE, log 11) -/
  routes : List Nat := []
  intRoutes : List Nat := []
  store : Store := {}
  jdp : Jdp := {}
  bar0 : Bar0 := {}
  mbx : Mailbox := {}
  /-- R29: quarantined units (DIR_STATE 4) -/
  quarantined : List Nat := []
  /-- R464: mapped-out units (DIR_STATE 5) -/
  mapped : List Nat := []
  hearth : Hearth := {}
  grate : Grate := {}
  /-- R145: T1 and T2 of the policers in use -/
  policers : SMap Buckets := []
  damper : Damper := {}
  /-- R385: the power domains (default Off) -/
  domains : SMap Domain := []
  /-- R388: what the pins have shown to the units of domains that are not On, oldest first, each with its domain -/
  pins : List (Nat × PinEvent) := []
  /-- R391: rails requested on again and not yet good, with how often they were requested -/
  railReq : SMap Nat := []
  /-- R415: merge records by stream -/
  merge : SMap MergeRec := []
  usb4 : Usb4 := {}
  allot : Allot := {}
  keys : Keys := {}
  /-- R437: the conditions of Table 23.4 that hold now -/
  tampers : List TamperInput := []
  macs : Macs := {}
  nic : Nic := {}
  time : TimeUnit := {}
  pcie : Pcie := {}
  /-- the outcome of the flash write that a key operation under way makes (R433); true between commands -/
  recordOk : Bool := true
  coder : Coder := {}
  heads : SMap Head := []
  outputs : Outputs := {}
  usb : Usb := {}
  lanes : SMap Lane := []
  pd : Pd := {}
  guards : Guards := {}
  bellows : Bellows := {}
  health : Health := {}
  twin : Twin := {}
  fw : Firmware := {}
  /-- what the hub has sent, newest first -/
  out : List Out := []
  /-- reactions that the command under way has asked for, oldest first; empty between commands -/
  todo : List Todo := []
  /-- bytes that the command under way writes into the Hearth, oldest first; empty between commands -/
  stores : List (Nat × Byte) := []
  /-- R389: bank groups that the command under way zeroes, ahead of those writes; empty between commands -/
  zeroed : List Nat := []
deriving DecidableEq, Repr, Inhabited

/-- The machine: the hub, the Hearth's content (R91) as pairs of a byte address and a byte, addresses strictly rising and
no byte 0 listed, since an address that is not listed reads 0 (R389), and the commands that wait, first in, first out. (DESIGN CHOICE, log 2, 48) -/
structure State where
  hub : Hub
  mem : List Host.Cell
  pending : List Instr
deriving DecidableEq, Repr, Inhabited

/-- Why the machine stops with a fault: it never does. Where the spec stops a unit, the hub goes on with that unit's
flag set, its objects answering and the abort or the discard counted, all of which is a next state. The one constructor
stands for an address that no dictionary, window or memory of the hub has and no rule answers for; nothing raises it
(safe). (DESIGN CHOICE, log 4) -/
inductive Fault where
  | noSuchAddress
deriving DecidableEq, Repr, Inhabited

/-- Why the model gives a command no next state. `notModelled` is raised by no meaning: it is the dispatcher's arm of a
command without a meaning (safe). No other refusal exists: a command whose operand names something the hardware has no wires
for, such as Grate port 40, reaches nothing of the hub and changes nothing. (DESIGN CHOICE, log 4) -/
inductive Refusal where
  | notModelled (mnemonic : String)
deriving DecidableEq, Repr, Inhabited

/-- R467, R479: the machine right after the power-on reset is released: Spring, PW57 and PW63 On and every other domain Off,
every object at its default, no link up, nothing in the Hearth (it reads 0 after any wake from Off, R389), an empty flash,
no command waiting. (DESIGN CHOICE, log 5, 7; DEDUCED, log 6, 26) -/
def State.reset : State where
  hub := {
    domains := [(57, { st := 1 }), (63, { st := 1 })]
    grate := { linkLost := [1, 2, 3, 4, 5, 7, 8, 9, 10, 11, 12, 14, 15, 21, 22, 23, 24, 25] } }
  mem := []
  pending := []

end Sys2Proof.Machine
end

