-- ==== Sys2Proof/Config.lean ====
section
/-! DEFINITION. What an implementation fixes and the manual does not state, and the free values: opaque constants
without a body, so that no proof can see what they are. Each has a row of the assumption log. -/

namespace Sys2Proof

/-- A free number, by the number of the draw (`Hub.fresh`). (DESIGN CHOICE, log 8) -/
opaque Config.freeNat : Nat → Nat

/-- R60: which universally administered address each of the seven MAC addresses in OTP is, among those that none before it
is (`Tab.otpMacs`): 0-5 of MAC0-MAC5, 6 of the JDP service. (DESIGN CHOICE, log 9) -/
opaque Config.otpMac : Nat → Nat

/-- R35: where between 4 and 8 ns the lag of the C-die's view of network time lies. (DESIGN CHOICE, log 9) -/
opaque Config.cdieLag : Nat

/-- R353: the exponent that a stage's VOUT_MODE gives its linear16 voltages, 2 to the power −(n modulo 17). (DESIGN CHOICE, log 9) -/
opaque Config.voutExp : Nat → Nat

/-- R352, R356: whether the pin ADAPTER_OK is high at a time (in ns) after a low level was accepted and before 100 ms of a high one are
over. (DESIGN CHOICE, log 35) -/
opaque Config.adapterHigh : Nat → Bool

/-- R60: SERIAL_NUMBER, opaque to software, as a number of 16 bytes. (DESIGN CHOICE, log 9) -/
opaque Config.serial : Nat

/-- R60: STEPPING, from fuses. (DESIGN CHOICE, log 9) -/
opaque Config.stepping : Nat

/-- R60: KINDLING_VERSION, the version of the ROM. (DESIGN CHOICE, log 9) -/
opaque Config.kindlingVersion : Nat

/-- R413, R430-R436: cryptographic functions, uninterpreted: of an operation's number and its inputs as bytes, a
number. (DESIGN CHOICE, log 10) -/
opaque Config.crypto : Nat → List Byte → Nat

/-- R431: AES-256 key wrap with padding and its inverse (none: the check fails), uninterpreted: key, then text. (DESIGN CHOICE, log 10) -/
opaque Config.kwp : List Byte → List Byte → List Byte
/-- DESIGN CHOICE, log 10. -/
opaque Config.kwpInv : List Byte → List Byte → Option (List Byte)

/-- R433, R435: the OTP device secret. (DESIGN CHOICE, log 9) -/
opaque Config.deviceSecret : List Byte

/-- R435: the certificate chain of slot 0, written at manufacture. (DESIGN CHOICE, log 9) -/
opaque Config.certificate : List Byte

/-- R405: AES-256-GCM, uninterpreted: of key and nonce the bytes of the key stream by number, and of key, nonce, authenticated data and
ciphertext the tag as a number. (DESIGN CHOICE, log 10) -/
opaque Config.gcmStream : List Byte → List Byte → Nat → Byte
/-- DESIGN CHOICE, log 10. -/
opaque Config.gcmTag : List Byte → List Byte → List Byte → List Byte → Nat

/-- R435: the hub's SPDM response to a message; the manual leaves its bytes to SPDM 1.3 and the session's secrets: a free
value, of the number of the draw and the message. (DESIGN CHOICE, log 10) -/
opaque Config.spdm : Nat → List Byte → List Byte

/-- R179: PT_LINE_RATE in kbit/s of a Grate port whose attached unit has no link of its own; the manual gives none. (DESIGN CHOICE, log 9) -/
opaque Config.internalRate : Nat → Nat

/-- R225, IEEE 802.1AS: what follows PRIORITY1 in the hub's own priority vector (clock quality, PRIORITY2, identity); the manual gives
none of it. (DESIGN CHOICE, log 9) -/
opaque Config.clockVector : List Nat

/-- R239: the device ID of a port of the PCIe switch, by its configuration space; the manual gives none. (DESIGN CHOICE, log 9) -/
opaque Config.switchDevice : Nat → Nat

/-- R368: the errors that a checker finds in a nanosecond, by lane and time; nothing states them. (DESIGN CHOICE, log 8) -/
opaque Config.prbsErrors : Nat → Nat → Nat

/-- R97: the ECC errors (group, bank, row, bits) that the reads of one draw meet where no command brings them; nothing states
them. (DESIGN CHOICE, log 8) -/
opaque Config.eccMet : Nat → List (Nat × Nat × Nat × Nat)

/-- R240: a byte of F3's BAR 0, whose layout the manual does not give, by its offset and the draw. (DESIGN CHOICE, log 8) -/
opaque Config.telemetry : Nat → Nat → Byte

/-- R107: a byte of a surface whose piece has no place in the Hearth, by its address and the draw. (DESIGN CHOICE, log 8) -/
opaque Config.freeByte : Nat → Byte

end Sys2Proof
end

