-- ==== Sys2Proof/Machine/Tables.lean ====
section
/-! DEFINITION. The manual's tables of defaults that differ by instance or by position. -/

namespace Sys2Proof.Machine

/-- Skip those of an ascending list: the `x`-th number, from 0, that is not in it. -/
def Tab.skip (l : List Nat) (x : Nat) : Nat := l.foldl (fun x p => if p ≤ x then x + 1 else x) x

/-- Put a number into an ascending list. -/
def Tab.insert : List Nat → Nat → List Nat
  | [], x => [x]
  | a :: r, x => if x ≤ a then x :: a :: r else a :: Tab.insert r x

/-- R60: the first `n` addresses in OTP, in order, each one that none before it is: any seven distinct ones can stand there. -/
def Tab.otpMacs : Nat → List Nat
  | 0 => []
  | n + 1 =>
    let l := Tab.otpMacs n
    l ++ [Tab.skip (l.foldl Tab.insert []) (Config.otpMac n % (2 ^ 46 - n))]

/-- IEEE 802: the `x`-th of the 2^46 universally administered addresses of a station: its first byte's two low bits are 0. -/
def Tab.universal (x : Nat) : Nat := x / 2 ^ 40 * 2 ^ 42 + x % 2 ^ 40

/-- R60, R235: the six bytes of a MAC address from OTP. -/
def Tab.macAddress (m : Nat) : List Byte := beBytes 6 (Tab.universal ((Tab.otpMacs (m + 1)).getD m 0))

/-- R301: the identity matrix with offsets 0: coefficients have 12 fraction bits (R291). -/
def Tab.identityMatrix : List Byte :=
  [4096, 0, 0, 0, 4096, 0, 0, 0, 4096, 0, 0, 0, 0, 0, 0].flatMap (leBytes 2)

/-- Table 19.1: the rates of a lane in kbit/s, ascending. -/
def Tab.laneRates (l : Nat) : List Nat :=
  if l < 8 then [1620000, 2700000, 5000000, 5400000, 8100000, 10000000, 13500000, 20000000, 40000000]
  else if l < 16 then [1620000, 2700000, 5400000, 8100000, 10000000, 13500000, 20000000]
  else if l < 20 then [1620000, 2160000, 2430000, 2700000, 3240000, 4320000, 5400000, 6750000, 8100000]
  else if l < 24 then [5000000, 10000000]
  else if l < 26 then [10312500, 25781250]
  else if l < 30 then [10312500]
  else if l < 38 then [2500000, 5000000, 8000000, 16000000, 32000000]
  else [53125000]

/-- R371: the default of LN_TEST_RATE. -/
def Tab.laneTopRate (l : Nat) : Nat := (Tab.laneRates l).getLastD 0

/-- R359: lanes whose default TX_FFE_MODE is 1. -/
def Tab.ffeFixed (l : Nat) : Bool := decide (24 ≤ l) && decide (l ≤ 29)

/-- R359, R371: the default of TX_FFE. (DESIGN CHOICE, log 5) -/
def Tab.ffeDefault (l : Nat) : List Byte :=
  if l == 24 || l == 25 then [0, BitVec.ofInt 8 (-4), 51, BitVec.ofInt 8 (-8)]
  else if 26 ≤ l ∧ l ≤ 29 then [0, 0, 55, BitVec.ofInt 8 (-8)]
  else [0, 0, 63, 0]

/-- Table 21.1: default DM_DEEPEST: 1 On, 2 Ember, 3 Off. -/
def Tab.domDeepest (d : Nat) : Nat :=
  if d < 36 then 2
  else if d < 40 then 3
  else if d == 40 then 2
  else if d < 53 then 3
  else if d < 56 then 2
  else if d == 56 then 3
  else match d with
    | 57 => 1 | 58 => 2 | 59 => 1 | 60 => 2 | 61 => 3 | 62 => 2 | _ => 1

/-- Table 21.1: the deepest state a domain permits. -/
def Tab.domLimit (d : Nat) : Nat :=
  if d < 57 then 3 else match d with
    | 57 => 2 | 58 => 2 | 59 => 2 | 60 => 2 | 61 => 3 | 62 => 3 | _ => 1

/-- Table 21.1: default DM_IDLE_TIME in µs; 0, stay On, where the table has none. -/
def Tab.domIdle (d : Nat) : Nat :=
  if d < 32 then 100
  else if d < 36 then 20
  else if d < 50 then 1000
  else if d < 61 then 10000
  else if d < 63 then 1000
  else 0

/-- Tables 25.2 and 25.3: the default rows of the health state table: code, threshold, window in ms, action, season,
latch. A row whose condition names no number of times fires at its first report, in a window of 0. -/
def Tab.healthRows : List (List Nat) := [
  [0x1101, 4, 86400000, 1, 2, 1], [0x1102, 1000, 3600000, 1, 2, 1], [0x1103, 3, 86400000, 1, 2, 1],
  [0x1104, 2, 10000, 0, 2, 0], [0x1201, 2, 3600000, 1, 2, 1], [0x1301, 5, 10000, 1, 2, 1],
  [0x1401, 1, 0, 1, 2, 1], [0x1501, 1, 0, 0, 2, 0], [0x1502, 1, 0, 0, 2, 0], [0x1503, 1, 0, 1, 2, 1],
  [0x1601, 1, 0, 0, 2, 0], [0x1602, 1, 0, 0, 2, 0], [0x1701, 1, 0, 1, 2, 1], [0x1702, 1, 0, 1, 2, 1],
  [0x1703, 1, 0, 2, 2, 1], [0x1801, 1, 0, 0, 2, 1], [0x1802, 1, 0, 0, 2, 0],
  [0x2101, 1, 0, 0, 3, 1], [0x2102, 1, 0, 0, 3, 1], [0x2201, 1, 0, 0, 3, 1], [0x2701, 1, 0, 0, 3, 1],
  [0x2801, 3, 60000, 0, 3, 1], [0x2802, 1, 0, 0, 3, 1], [0x2803, 2, 60000, 0, 3, 1]]

/-- R465: the default of a field of health row `pos`, sub-index 2 to 8. -/
def Tab.healthRow (pos s : Nat) : Int :=
  match Tab.healthRows[pos]? with
  | some r => if s == 2 then 1 else ((r[s - 3]?).getD 0 : Nat)
  | none => if s == 4 || s == 7 then 1 else 0

/-- Table 8.3: the default of PROFILE_SELECT of a port: A in [3:0], B in [7:4], C in [11:8]. -/
def Tab.profileSelect (n : Nat) : Nat :=
  if 7 ≤ n ∧ n ≤ 12 then 0x430
  else if 1 ≤ n ∧ n ≤ 5 then 0x006
  else if 13 ≤ n ∧ n ≤ 15 then 0x798
  else if n == 28 then 0x430
  else 0x00A

/-- Table 15.2: the predefined formats: model, depth, chroma, source. -/
def Tab.formats : List (List Nat) := [
  [1, 8, 0, 0], [1, 10, 0, 0], [2, 8, 0, 0], [2, 10, 0, 0], [0, 8, 0, 0], [0, 10, 0, 0],
  [3, 8, 0, 0], [3, 10, 0, 0], [3, 12, 0, 0], [3, 8, 1, 0], [3, 10, 1, 0], [3, 12, 1, 0],
  [3, 8, 2, 0], [3, 10, 2, 0], [3, 12, 2, 0], [3, 8, 0, 1], [3, 10, 0, 1], [3, 12, 0, 1],
  [3, 8, 1, 1], [3, 10, 1, 1], [3, 12, 1, 1], [3, 8, 2, 1], [3, 10, 2, 1], [3, 12, 2, 1]]

/-- R302: the default of a field of format `pos`, sub-index 2 to 6. -/
def Tab.formatDefault (pos s : Nat) : Nat :=
  match Tab.formats[pos]? with
  | some r => if s == 2 then 1 else (r[s - 3]?).getD 0
  | none => if s == 4 then 8 else 0

/-- Table 17.3: the default carve-outs: owner, base, units. -/
def Tab.carve (pos : Nat) : List Nat :=
  if pos == 0 then [0x01, 0, 1]
  else if pos == 1 then [0x02, 1, 16]
  else if pos == 2 then [0x03, 17, 16]
  else if pos == 3 then [0x04, 33, 1]
  else if pos == 4 then [0x05, 34, 24]
  else if pos ≤ 11 then [0x11 + (pos - 5), 58 + 2 * (pos - 5), 2]
  else if pos ≤ 18 then [0x21 + (pos - 12), 72 + 4 * (pos - 12), 4]
  else [0, 0, 0]

def Tab.carveDefault (pos s : Nat) : Nat := ((Tab.carve pos)[s - 2]?).getD 0

/-- Table 20.1: VDD_CORE in mV by band (row) and pace level, position 8 * band + level. -/
def Tab.curve : List (List Nat) := [
  [550, 550, 570, 600, 640, 670, 705, 740], [550, 550, 575, 605, 650, 680, 715, 750],
  [550, 560, 585, 615, 660, 690, 725, 760], [550, 570, 595, 625, 670, 700, 735, 770],
  [550, 580, 605, 635, 680, 710, 745, 780], [550, 590, 615, 645, 690, 720, 755, 790],
  [550, 600, 625, 655, 700, 730, 765, 800], [550, 610, 635, 665, 710, 740, 775, 810]]

def Tab.curveDefault (pos : Nat) : Nat := ((Tab.curve[pos / 8]?).getD [])[pos % 8]?.getD 550

end Sys2Proof.Machine
end

