-- ==== Sys2Proof/Machine/Ops.lean ====
section
/-! DEFINITION. Named operations over the state: sparse tables, the Hearth's content, units and their numbers, the
dictionary's live values with their defaults, flags, event counts, counters and peaks. -/

namespace Sys2Proof.Machine

/-! Sparse tables -/

/-- The value listed at a key. -/
def mget? {α : Type} : SMap α → Nat → Option α
  | [], _ => none
  | (k', v) :: r, k => if k' == k then some v else mget? r k

/-- The value at a key, or the table's default. -/
def mget {α : Type} (m : SMap α) (d : α) (k : Nat) : α := (mget? m k).getD d

/-- Set a key, keeping the keys strictly rising. -/
def mset {α : Type} : SMap α → Nat → α → SMap α
  | [], k, v => [(k, v)]
  | (k', v') :: r, k, v =>
    if k < k' then (k, v) :: (k', v') :: r
    else if k' < k then (k', v') :: mset r k v
    else (k, v) :: r

/-- Change the value at a key that is listed. -/
def mupd {α : Type} (m : SMap α) (k : Nat) (f : α → α) : SMap α := m.map (fun x => if x.1 == k then (k, f x.2) else x)

/-- Unlist a key. -/
def merase {α : Type} : SMap α → Nat → SMap α
  | [], _ => []
  | (k', v') :: r, k => if k' == k then merase r k else (k', v') :: merase r k

/-- Keys strictly rising. -/
def sorted {α : Type} : SMap α → Bool
  | [] => true
  | [_] => true
  | a :: b :: r => decide (a.1 < b.1) && sorted (b :: r)

/-- An element of a list, or a default. -/
def nth {α : Type} (l : List α) (i : Nat) (d : α) : α := (l[i]?).getD d

/-- Change one element of a list. -/
def updAt {α : Type} (l : List α) (i : Nat) (f : α → α) : List α := l.modify i f

/-- The sum of a function over a list. -/
def sumOf {α : Type} (f : α → Nat) (l : List α) : Nat := l.foldl (fun a x => a + f x) 0

/-- The largest value of a function over a list, 0 for an empty one. -/
def maxOf {α : Type} (f : α → Nat) (l : List α) : Nat := l.foldl (fun a x => max a (f x)) 0

/-- Add to the end of a list unless it is there. -/
def insertNew {α : Type} [BEq α] (l : List α) (x : α) : List α := if l.contains x then l else l ++ [x]

/-! The Hearth's content -/

/-- R91, R108: rows of a bank on each part. -/
def Part.rows : Part → Nat
  | .bw7740 => 16384
  | .bw7730 => 12288
  | .bw7720 => 6144

/-- R92: the number of byte addresses. -/
def Part.hearthBytes (p : Part) : Nat := 32 * 256 * p.rows

/-- The byte at an address; an address that is not listed reads 0 (R389). (DEDUCED, log 6) -/
def memByte (m : List Host.Cell) (a : Nat) : Byte := (mget? m a).getD 0

/-- Write one byte. A 0 is never listed, so that equal contents are equal lists. -/
def memPut (m : List Host.Cell) (a : Nat) (b : Byte) : List Host.Cell :=
  if b = 0 then merase m a else mset m a b

/-- R91, R92: a write to an address above the part's rows is discarded; any other puts its byte. -/
def memStore (p : Part) (m : List Host.Cell) (a : Nat) (b : Byte) : List Host.Cell :=
  if a < p.hearthBytes then memPut m a b else m

/-- The bytes that a command writes, in order. -/
def memStores (p : Part) (m : List Host.Cell) (l : List (Nat × Byte)) : List Host.Cell :=
  l.foldl (fun m w => memStore p m w.1 w.2) m

/-- The canonical form of the Hearth's content on a part: addresses strictly rising, no 0 listed, every address within the
part's rows (R92). (DEDUCED, log 6) -/
def Memory.wf (p : Part) (m : List Host.Cell) : Bool :=
  sorted m && m.all (fun c => c.2 != 0 && decide (c.1 < p.hearthBytes))

/-- The `n` bytes from an address upwards. -/
def memBytes (m : List Host.Cell) (a n : Nat) : List Byte := (List.range n).map (fun i => memByte m (a + i))

/-- R91: the byte address of a word. -/
def wordAddr (group bank row : Nat) : Nat := row * 0x2000 + group * 0x100 + bank * 0x20

/-- Order a write of bytes from an address upwards. -/
def storeBytes (h : Hub) (a : Nat) (bs : List Byte) : Hub :=
  { h with stores := h.stores ++ ((List.range bs.length).zip bs).map (fun x => (a + x.1, x.2)) }

/-! Units (R25, R26, R27) -/

/-- R25: a unit number from its fields; dies C and P are 0 and 1. -/
def unitNo (die region cluster unit : Nat) : Nat := die * 0x8000 + region * 0x1000 + cluster * 0x100 + unit

/-- Table 2.3: the units of C-die region `r` in ascending order. -/
def cUnits (r : Nat) : List Nat :=
  (List.range 32).map (fun i => unitNo 0 r (i / 8) (i % 8))
  ++ (List.range 7).map (fun i => unitNo 0 r 4 i)
  ++ (if r < 4 then (List.range 4).map (fun i => unitNo 0 r 5 i) else [unitNo 0 r 5 0])
  ++ (if r == 0 then (List.range 8).map (fun i => unitNo 0 r 6 i)
      else if r == 7 then (List.range 4).map (fun i => unitNo 0 r 6 i) else [])

/-- Table 2.4: the P-die clusters: region, cluster, number of units. -/
def pClusters : List (Nat × Nat × Nat) := [
  (0, 0, 3), (0, 1, 3), (0, 2, 3), (0, 3, 3), (1, 0, 5), (1, 1, 5), (1, 2, 5),
  (2, 0, 2), (2, 1, 2), (2, 2, 2), (2, 3, 2), (2, 4, 2), (2, 5, 2), (2, 6, 1),
  (3, 0, 4), (3, 1, 5), (3, 2, 5), (3, 3, 7), (4, 0, 5), (4, 1, 1),
  (5, 0, 1), (5, 1, 2), (5, 2, 4), (5, 3, 4), (5, 4, 7)]

/-- R28: the 429 units in ascending order of unit number. -/
def allUnits : List Nat :=
  (List.range 8).flatMap cUnits
  ++ pClusters.flatMap (fun c => (List.range c.2.2).map (fun i => unitNo 1 c.1 c.2.1 i))

/-- R28: the directory position of a unit, if there is such a unit. -/
def unitPos (u : Nat) : Option Nat := allUnits.findIdx? (· == u)

/-- Die, region, cluster and unit of a unit number. -/
def uDie (u : Nat) : Nat := u / 0x8000
def uRegion (u : Nat) : Nat := u / 0x1000 % 8
def uCluster (u : Nat) : Nat := u / 0x100 % 16
def uUnit (u : Nat) : Nat := u % 0x100

/-- R112: the unit of Grate port n, R26: of a bank, an engine, a head, a Guard. -/
def gpUnit (n : Nat) : Nat := unitNo 0 (n / 4) 4 (n % 4)
def bankUnit (b : Nat) : Nat := unitNo 0 (b / 32) (b / 8 % 4) (b % 8)
def engineUnit (e : Nat) : Nat := unitNo 0 (e / 4) 5 (e % 4)
def headUnit (hd : Nat) : Nat := unitNo 0 (hd + 4) 5 0
def guardUnit (g : Nat) : Nat := unitNo 0 (g / 2) 4 (4 + g % 2)
def tileLaneUnit (i : Nat) : Nat := unitNo 0 0 6 i
/-- DEDUCED, log 36. -/
def paceUnit (r : Nat) : Nat := unitNo 0 r 4 6
/-- R27: the units of the P-die. -/
def usb4Unit (k : Nat) : Nat := unitNo 1 0 k 0
def outputUnit (o : Nat) : Nat := unitNo 1 1 o 0
def macUnit (m : Nat) : Nat := unitNo 1 2 m 0
def timeUnit : Nat := unitNo 1 2 6 0
def fnUnit (f : Nat) : Nat := unitNo 1 3 0 f
def nvUnit (k : Nat) : Nat := unitNo 1 3 (1 + k) 0
/-- R246, R250: the USB4 or PCIe port of a link port of the switch. -/
def crUnit (p : Nat) : Nat := if p == 0 then usb4Unit 0 else if p ≤ 2 then nvUnit (p - 1) else usb4Unit (p - 2)
def usb3HubUnit : Nat := unitNo 1 3 3 0
def usb2HubUnit : Nat := unitNo 1 3 3 1
def epmUnit : Nat := unitNo 1 3 3 6
def tyvelUnit : Nat := unitNo 1 4 0 0
def cryptoUnit : Nat := unitNo 1 4 1 0
def supervisorUnit : Nat := unitNo 1 5 0 0
def securityUnit : Nat := unitNo 1 5 1 0
def keyStoreUnit : Nat := unitNo 1 5 1 1
def pdUnit (p : Nat) : Nat := unitNo 1 5 2 p
def tamperUnit : Nat := unitNo 1 5 4 0
def canUnit : Nat := unitNo 1 5 4 1
def emberUnit : Nat := unitNo 1 5 4 6
/-- R27: the unit of lane Lℓ. -/
def laneUnit (l : Nat) : Nat :=
  if l < 8 then unitNo 1 0 (l / 2) (1 + l % 2)
  else if l < 20 then unitNo 1 1 ((l - 8) / 4) (1 + l % 4)
  else if l < 24 then unitNo 1 3 3 (2 + (l - 20))
  else if l < 30 then unitNo 1 2 (l - 24) 1
  else if l < 38 then unitNo 1 3 (1 + (l - 30) / 4) (1 + (l - 30) % 4)
  else unitNo 1 4 0 (1 + (l - 38))

/-- Table 27.1: the units fused off on the BW-7730. -/
def absent7730 : List Nat := [0xC000, 0xC001, 0xC002, 0xC003, 0xC004, 0x6400, 0x6401, 0x5405]

/-- Table 27.1: the units fused off on the BW-7720. (DESIGN CHOICE, log 7) -/
def absent7720 : List Nat := absent7730 ++ (List.range 8).map (fun i => 0x0600 + i)
  ++ [0x4400, 0x4500, 0x5500, 0x6500, 0x7500, 0x4401, 0x4402, 0x4403, 0x5400,
      0x0405, 0x4404, 0x5404, 0x6404, 0x7404, 0x8300, 0x8301, 0x8302, 0x1401, 0xD203, 0xD405, 0xB002]

/-- R484: whether a unit is present on a part. (DESIGN CHOICE, log 7) -/
def Part.has (p : Part) (u : Nat) : Bool :=
  match p with
  | .bw7740 => true
  | .bw7730 => !absent7730.contains u
  | .bw7720 => !absent7720.contains u

/-- Tables 2.3 and 2.4: the power domain of a unit. -/
def domainOfUnit (u : Nat) : Nat :=
  let r := uRegion u
  let c := uCluster u
  if uDie u == 0 then
    if c < 4 then 4 * r + c
    else if c == 4 then 41 + r
    else if c == 5 then 32 + r
    else if r == 0 then 40 else 49
  else match r with
    | 0 => if c == 0 then 50 else 51
    | 1 => 52
    | 2 => if c == 6 then 59 else 53
    | 3 => if c == 3 then 55 else 54
    | 4 => if c == 0 then 56 else 62
    | _ => match c with
      | 0 => 57
      | 1 => 58
      | 2 => 60
      | 3 => 61
      | _ => 63

/-- R113, R112: the lower member of a port's bonded pair, or the port. -/
def bondBase (n : Nat) : Nat := if n == 2 then 1 else if n == 25 then 24 else n

/-- The members of the port that `n` stands for. -/
def bondMembers (n : Nat) : List Nat :=
  if bondBase n == 1 then [1, 2] else if bondBase n == 24 then [24, 25] else [n]

/-- R13, R112: reserved Grate ports. -/
def reservedPort (n : Nat) : Bool := n ≥ 29

/-! Object rows (R43, R58) -/

/-- The families of blocks of Table 4.5. -/
inductive Fam where
  | glob | gp | pool | usb4 | mac | nv | head | layer | outp | pd | lane | dom | guard
deriving DecidableEq, Repr, Inhabited

/-- Where an index lies: its family, the instance (layer: head * 4 + layer), and the offset in the block. -/
structure Loc where
  fam : Fam
  inst : Nat
  off : Nat
deriving DecidableEq, Repr, Inhabited

/-- Table 4.5: where an index lies. -/
def locate (i : Nat) : Loc :=
  if 0x2000 ≤ i ∧ i < 0x2800 then ⟨.gp, (i - 0x2000) / 0x40, (i - 0x2000) % 0x40⟩
  else if 0x3100 ≤ i ∧ i < 0x3200 then ⟨.pool, (i - 0x3100) / 0x10, (i - 0x3100) % 0x10⟩
  else if 0x5000 ≤ i ∧ i < 0x5400 then ⟨.usb4, (i - 0x5000) / 0x100, (i - 0x5000) % 0x100⟩
  else if 0x5800 ≤ i ∧ i < 0x58C0 then ⟨.mac, (i - 0x5800) / 0x20, (i - 0x5800) % 0x20⟩
  else if 0x5A10 ≤ i ∧ i < 0x5A14 then ⟨.nv, (i - 0x5A10) / 2, (i - 0x5A10) % 2⟩
  else if 0x6000 ≤ i ∧ i < 0x6400 then
    let h := (i - 0x6000) / 0x100
    let o := (i - 0x6000) % 0x100
    if o < 0x80 then ⟨.head, h, o⟩ else ⟨.layer, h * 4 + (o - 0x80) / 0x20, (o - 0x80) % 0x20⟩
  else if 0x6400 ≤ i ∧ i < 0x6430 then ⟨.outp, (i - 0x6400) / 0x10, (i - 0x6400) % 0x10⟩
  else if 0x7400 ≤ i ∧ i < 0x7500 then ⟨.pd, (i - 0x7400) / 0x40, (i - 0x7400) % 0x40⟩
  else if 0x7800 ≤ i ∧ i < 0x7AA0 then ⟨.lane, (i - 0x7800) / 0x10, (i - 0x7800) % 0x10⟩
  else if 0x8000 ≤ i ∧ i < 0x8200 then ⟨.dom, (i - 0x8000) / 8, (i - 0x8000) % 8⟩
  else if 0x9400 ≤ i ∧ i < 0x9800 then ⟨.guard, (i - 0x9400) / 0x40, (i - 0x9400) % 0x40⟩
  else ⟨.glob, 0, i⟩

/-- The rows that may hold an object of a location. -/
def rowsOf (l : Loc) : List Row :=
  match l.fam with
  | .glob => globRows (l.off / 0x100)
  | .gp => rowsGp
  | .pool => rowsPool
  | .usb4 => rowsUsb4
  | .mac => rowsMac
  | .nv => rowsNv
  | .head => rowsHead
  | .layer => rowsLayer
  | .outp => rowsOutp
  | .pd => rowsPd
  | .lane => rowsLane
  | .dom => rowsDom
  | .guard => rowsGuard

/-- The rows of one index. -/
def indexRows (i : Nat) : List Row :=
  let l := locate i
  (rowsOf l).filter (fun r => r.off == l.off)

/-- R43: the highest sub-index that an index implements; 0 when no chapter defines the index. -/
def topSub (i : Nat) : Nat := maxOf (fun r => r.sub + r.cnt - 1) (indexRows i)

/-- The row of an object. -/
def rowAt (i s : Nat) : Option Row := (indexRows i).find? (fun r => decide (r.sub ≤ s) && decide (s < r.sub + r.cnt))

/-- Index, sub-index and window position of a key. -/
def keyIdx (k : Nat) : Nat := k / 0x100 % 0x10000
def keySub (k : Nat) : Nat := k % 0x100
def keyPos (k : Nat) : Nat := k / 0x1000000

/-- R132, R355, R395, R453: some objects of a block are one object seen through every instance's block: a bonded pair's
port state and enable, and the objects at the top of the PD, domain and Guard blocks. The key they are held under. Whether a bonded
pair's counters, flags and peaks are one set too the manual leaves open: the model keeps one, seen through both blocks.
(DESIGN CHOICE, log 51) -/
def canonKey (k : Nat) : Nat :=
  let i := keyIdx k
  let l := locate i
  let sib (j : Nat) := k - i * 0x100 + j * 0x100
  match l.fam with
  | .gp => if l.off < 4 then sib (0x2000 + 0x40 * bondBase l.inst + l.off) else k
  | .pd => if l.off == 0x3F then sib (0x7400 + 0x3F) else k
  | .dom => if l.off == 7 then sib (0x8000 + 7) else k
  | .guard => if l.off ≥ 0x3D then sib (0x9400 + l.off) else k
  | _ => k

/-! Defaults (R49, R59) -/

/-- Default values that the part or the instance decides, as the object tables state them. (DESIGN CHOICE, log 5) -/
def perDefault (p : Part) (k : Nat) : Val :=
  let i := keyIdx k
  let s := keySub k
  let pos := keyPos k
  let l := locate i
  let b := fun (c : Bool) => Val.int (if c then 1 else 0)
  match l.fam with
  | .gp => .int 1
  | .pool =>
    if l.inst == 0 then
      if s == 1 then .int 4096 else .int (if p == .bw7720 then 0 else 8192)
    else .int 0
  | .usb4 =>
    if s == 6 then .int (if l.inst == 0 then 3 else 0)
    else if s == 7 then b (l.inst != 0)
    else if s == 9 then .int (nth [896, 960, 976, 992] l.inst 0)
    else .int (if l.inst == 0 then 64 else 16)
  | .mac =>
    if l.off == 0 then
      if s == 1 then .int (if l.inst < 2 then 1 else 3) else .int (if l.inst < 2 then 2 else 0)
    else .bytes (Tab.macAddress l.inst ++ [0, 1])
  | .nv => .int ((if s == 5 then 880 else 882) + l.inst)
  | .head =>
    if s == 6 then .bytes (List.replicate 6 0) else .int (4 * (pos % 1025))
  | .layer => .bytes Tab.identityMatrix
  | .outp => if s == 2 then .int (if l.inst == 2 then 8100000 else 20000000) else b (l.inst != 2)
  | .pd => if l.off == 0 then .int (0x40 + l.inst) else .int (if l.inst == 0 then 240000 else 100000)
  | .lane =>
    if l.off == 4 then .int (Tab.laneTopRate l.inst)
    else if s == 1 then b (Tab.ffeFixed l.inst) else .bytes (Tab.ffeDefault l.inst)
  | .dom => if s == 2 then .int (Tab.domDeepest l.inst) else .int (Tab.domIdle l.inst)
  | .guard =>
    if s == 2 || s == 7 then b (pos == 0)
    else if s == 4 || s == 9 then .int (if pos == 0 then p.hearthBytes / 64 - 1 else 0)
    else if s == 3 || s == 8 then .int 0
    else .int (if pos == 0 then 0xFF else 0)
  | .glob =>
    match i with
    | 0x1000 => .int (p.rows * 8)
    | 0x1202 => .int (Tab.healthRow pos s)
    | 0x3402 => .int (Tab.profileSelect (s - 1))
    | 0x3405 => .bytes (if s == 3 then [0xFF, 0, 0xFF, 0] ++ List.replicate 44 0xFF else [])
    | 0x3407 => .int 0
    | 0x340A => .int 0xFFFF
    | 0x3806 => .int (if 7 ≤ pos ∧ pos ≤ 12 then 20 else 0)
    | 0x4002 => .bytes (List.replicate 16 0)
    | 0x5402 =>
      if s == 2 then b ([1, 3, 4, 5, 21, 22, 23].contains pos && p.has (gpUnit pos))
      else .int (if 21 ≤ pos ∧ pos ≤ 23 then 1000 else 950)
    | 0x6807 => .int (Tab.formatDefault pos s)
    | 0x7005 => .int (Tab.carveDefault pos s)
    | 0x7C04 => .int (Tab.curveDefault pos)
    | _ => .int 0

/-- The value an object has until something sets it. A default that the hub takes from hardware, where the manual gives no
number, is 0 here; `readObj` works out those that follow from the hub's other state. (DESIGN CHOICE, log 5) -/
def defaultVal (p : Part) (k : Nat) : Val :=
  match rowAt (keyIdx k) (keySub k) with
  | none => .int 0
  | some r =>
    match r.dflt with
    | .int v => .int v
    | .per => perDefault p k
    | .zeros =>
      match r.ty with
      | .octets n => .bytes (List.replicate n 0)
      | _ => .bytes []
    | .hw =>
      match r.ty with
      | .octets n => .bytes (List.replicate n 0)
      | .str _ => .bytes []
      | .domain _ => .bytes []
      | _ => .int 0

/-! The dictionary's live values -/

/-- The live value of an object. -/
def getV (h : Hub) (k : Nat) : Val :=
  match mget? h.dict (canonKey k) with
  | some v => v
  | none => defaultVal h.part (canonKey k)

/-- A value as a number: a byte string counts as 0. -/
def Val.toInt : Val → Int
  | .int v => v
  | .bytes _ => 0

/-- A value as bytes: a number counts as none. -/
def Val.toBytes : Val → List Byte
  | .int _ => []
  | .bytes b => b

def getI (h : Hub) (k : Nat) : Int := (getV h k).toInt
def getN (h : Hub) (k : Nat) : Nat := (getI h k).toNat
def getB (h : Hub) (k : Nat) : Bool := getN h k != 0
def getBytes (h : Hub) (k : Nat) : List Byte := (getV h k).toBytes

/-- Set the live value of an object. -/
def setV (h : Hub) (k : Nat) (v : Val) : Hub := { h with dict := mset h.dict (canonKey k) v }
def setN (h : Hub) (k v : Nat) : Hub := setV h k (.int v)
def setI (h : Hub) (k : Nat) (v : Int) : Hub := setV h k (.int v)
def setB (h : Hub) (k : Nat) (v : Bool) : Hub := setN h k (if v then 1 else 0)
def setBytes (h : Hub) (k : Nat) (v : List Byte) : Hub := setV h k (.bytes v)

/-- Run an operation for each element of a list, in order. -/
def forEach {α : Type} (l : List α) (h : Hub) (f : Hub → α → Hub) : Hub := l.foldl f h

/-- What happens only if a condition holds. -/
def whenH (c : Bool) (h : Hub) (f : Hub → Hub) : Hub := if c then f h else h

/-- Send something. (DESIGN CHOICE, log 39) -/
def send (h : Hub) (o : Out) : Hub := { h with out := o :: h.out }

/-- Ask for a reaction. -/
def later (h : Hub) (t : Todo) : Hub := { h with todo := h.todo ++ [t] }

/-- Report a condition of a unit to the supervisor core (R459). -/
def report (h : Hub) (code unit : Nat) : Hub := later h (.report code unit)

/-- Take the next free value's number. (DESIGN CHOICE, log 8) -/
def tick (h : Hub) : Hub := { h with fresh := h.fresh + 1 }

/-- Take the next `n` free values' numbers. (DESIGN CHOICE, log 8) -/
def ticks (h : Hub) (n : Nat) : Hub := { h with fresh := h.fresh + n }

/-! Domains as every engine asks about them -/

/-- The state of a domain. -/
def domain (h : Hub) (d : Nat) : Domain := mget h.domains {} d

def setDomain (h : Hub) (d : Nat) (x : Domain) : Hub := { h with domains := mset h.domains d x }

/-- R385: a domain is On. -/
def domOn (h : Hub) (d : Nat) : Bool := (domain h d).st == 1

/-! Network time (R36) -/

/-- R35, R36: how the C-die sees network time `n`: in steps of 2 ns, 4 to 8 ns behind it; which lag between the two the silicon has is
opaque. (DESIGN CHOICE, log 9) -/
def cdieView (n : Nat) : Nat := (n - (4 + Config.cdieLag % 4)) / 2 * 2

/-- R36, R228: network time moves; the C-die's view follows and never runs backwards. -/
def setNet (h : Hub) (n : Nat) : Hub := { h with net := n, cNet := max h.cNet (cdieView n) }

/-! PD messages (R336) -/

def pdPort (h : Hub) (p : Nat) : PdPort := mget h.pd.ports {} p

/-- R336: a PD message, at the revision of the port's partner. -/
def pdSend (h : Hub) (p : Nat) (what : String) (args : List Nat) : Hub := send h (.pd p (pdPort h p).revision what args)

end Sys2Proof.Machine
end

