-- ==== Sys2Proof/Machine/Operands.lean ====
section
/-! DEFINITION. The operand forms of a dictionary access: how bytes become a value and back (Table 4.1), the length,
type and range checks with their aborts (R67), and the slot of a BAR 0 access (R63, R64). -/

namespace Sys2Proof.Machine

/-! Aborts of Table 4.8 -/

def Abort.noIndex : Abort := ⟨0x01, 0x01⟩
def Abort.noSub : Abort := ⟨0x01, 0x02⟩
def Abort.reservedIndex : Abort := ⟨0x01, 0x03⟩
def Abort.absent : Abort := ⟨0x02, 0x01⟩
def Abort.absentFn : Abort := ⟨0x02, 0x02⟩
def Abort.readOnly : Abort := ⟨0x03, 0x01⟩
def Abort.writeOnly : Abort := ⟨0x03, 0x02⟩
def Abort.carrier : Abort := ⟨0x03, 0x03⟩
def Abort.above : Abort := ⟨0x04, 0x01⟩
def Abort.below : Abort := ⟨0x04, 0x02⟩
def Abort.reservedBit : Abort := ⟨0x04, 0x03⟩
def Abort.notDefined : Abort := ⟨0x04, 0x04⟩
def Abort.position : Abort := ⟨0x04, 0x05⟩
def Abort.active : Abort := ⟨0x05, 0x01⟩
def Abort.quarantined : Abort := ⟨0x05, 0x02⟩
def Abort.faultSet : Abort := ⟨0x05, 0x03⟩
def Abort.tooLong : Abort := ⟨0x06, 0x01⟩
def Abort.tooShort : Abort := ⟨0x06, 0x02⟩
def Abort.partialBar0 : Abort := ⟨0x06, 0x03⟩
def Abort.domainMax : Abort := ⟨0x06, 0x04⟩
def Abort.disturbed : Abort := ⟨0x07, 0x03⟩
def Abort.storeBusy : Abort := ⟨0x08, 0x01⟩
def Abort.pending : Abort := ⟨0x08, 0x02⟩
def Abort.nextEpoch : Abort := ⟨0x08, 0x03⟩
def Abort.tampered : Abort := ⟨0x09, 0x01⟩
def Abort.session : Abort := ⟨0x09, 0x02⟩
def Abort.slotForbids : Abort := ⟨0x09, 0x03⟩
def Abort.notOn : Abort := ⟨0x0A, 0x01⟩
def Abort.wakeTime : Abort := ⟨0x0A, 0x02⟩
def Abort.transferTime : Abort := ⟨0x0A, 0x03⟩
def Abort.tooMany : Abort := ⟨0x0B, 0x02⟩
/-- A refusal of a COMMIT with its chapter's detail. -/
def Abort.table (d : Nat) : Abort := ⟨0x07, d⟩
def Abort.value (d : Nat) : Abort := ⟨0x04, d⟩
def Abort.state (d : Nat) : Abort := ⟨0x05, d⟩

/-- The carrier context's number, in the order of R57. -/
def ctxNo : Ctx → Nat
  | .can => 0 | .udp => 1 | .usb => 2 | .bar0 => 3 | .bar2 => 4 | .tyvel => 5 | .supervisor => 6

/-! Selectors (R57) -/

/-- R57: the value that a carrier context holds for a position or a selector. -/
def selV (h : Hub) (c : Ctx) (k : Nat) : Val :=
  match mget? h.sel (ctxNo c * 2 ^ 48 + canonKey k) with
  | some v => v
  | none => defaultVal h.part k

def selN (h : Hub) (c : Ctx) (k : Nat) : Nat := (selV h c k).toInt.toNat
def selBytes (h : Hub) (c : Ctx) (k : Nat) : List Byte := (selV h c k).toBytes
/-- A held position or selector belongs to a context. -/
def ofCtx (c : Ctx) (k : Nat) : Bool := decide (ctxNo c * 2 ^ 48 ≤ k) && decide (k < ctxNo c * 2 ^ 48 + 2 ^ 48)

def setSel (h : Hub) (c : Ctx) (k : Nat) (v : Val) : Hub := { h with sel := mset h.sel (ctxNo c * 2 ^ 48 + canonKey k) v }

/-- The carrier contexts in the order of R57. -/
def allCtx : List Ctx := [.can, .udp, .usb, .bar0, .bar2, .tyvel, .supervisor]

/-! UTF-8 (R45) -/

/-- RFC 3629: `need` continuation bytes are due, the next of them between `lo` and `hi`. -/
def utf8From (need lo hi : Nat) : List Byte → Bool
  | [] => need == 0
  | b :: r =>
    let x := b.toNat
    if need == 0 then
      if x < 0x80 then utf8From 0 0 0 r
      else if x < 0xC2 then false
      else if x < 0xE0 then utf8From 1 0x80 0xBF r
      else if x == 0xE0 then utf8From 2 0xA0 0xBF r
      else if x == 0xED then utf8From 2 0x80 0x9F r
      else if x < 0xF0 then utf8From 2 0x80 0xBF r
      else if x == 0xF0 then utf8From 3 0x90 0xBF r
      else if x < 0xF4 then utf8From 3 0x80 0xBF r
      else if x == 0xF4 then utf8From 3 0x80 0x8F r
      else false
    else if lo ≤ x ∧ x ≤ hi then utf8From (need - 1) 0x80 0xBF r
    else false

/-- Whether a byte string is well-formed UTF-8. -/
def utf8Ok (bs : List Byte) : Bool := utf8From 0 0 0 bs

/-! Values and bytes -/

/-- Table 4.1: the size of a type in bytes, at most. -/
def Ty.size : Ty → Nat
  | .bool => 1
  | .u n => n
  | .i n => n
  | .octets n => n
  | .str n => n
  | .domain n => n

/-- Table 4.1: the length check of a write (class 0x06). -/
def lengthCheck (t : Ty) (n : Nat) : Option Abort :=
  match t with
  | .str m => if n > m then some .tooLong else none
  | .domain m => if n > m then some .domainMax else none
  | t => if n > t.size then some .tooLong else if n < t.size then some .tooShort else none

/-- The value that bytes of the right length stand for. -/
def toVal (t : Ty) (bs : List Byte) : Val :=
  match t with
  | .bool => .int (leNat bs)
  | .u _ => .int (leNat bs)
  | .i n => .int (BitVec.ofNat (8 * n) (leNat bs)).toInt
  | _ => .bytes bs

/-- The bytes of a value as a read returns them; a number is cut to its type's width. -/
def ofVal (t : Ty) (v : Val) : List Byte :=
  match t with
  | .bool => leBytes 1 v.toInt.toNat
  | .u n => leBytes n v.toInt.toNat
  | .i n => leBytes n (BitVec.ofInt (8 * n) v.toInt).toNat
  | _ => v.toBytes

/-- The range check of a value (class 0x04), in the order R8 and R67 give the details. (DEDUCED, log 13) -/
def rangeCheck (r : Row) (v : Val) : Option Abort :=
  match v with
  | .bytes bs => match r.ty with
    | .str _ => if utf8Ok bs then none else some .notDefined
    | _ => none
  | .int x =>
    let within (lo hi : Int) : Option Abort := if x > hi then some .above else if x < lo then some .below else none
    if r.ty == .bool && (x < 0 || x > 1) then some .notDefined
    else if r.kind == .flag then (if x == 0 then none else some .above)
    else if r.kind == .peak then (if x == 0 then none else some .notDefined)
    else match r.rng with
      | .any => none
      | .range lo hi => within lo hi
      | .zeroOr lo hi => if x == 0 then none else within lo hi
      | .orV w lo hi => if x == w then none else within lo hi
      | .enum l => if l.contains x then none else some .notDefined
      | .mask m => if x.toNat &&& m == x.toNat then none else some .reservedBit
      | .per => none

/-! BAR 0 slots (R63, R64) -/

/-- R63: index and sub-index of the slot at an offset. -/
def slotIdx (off : Nat) : Nat := off / 1024
def slotSub (off : Nat) : Nat := off / 4 % 256

/-- R63: an access of `size` bytes at `off` lies within one slot. -/
def oneSlot (off size : Nat) : Bool := decide (1 ≤ size) && decide (off % 4 + size ≤ 4)

/-- R64: the object fits a slot or uses the wide registers. -/
def slotReach : Ty → Bool
  | .octets n => decide (n ≤ 4)
  | .str n => decide (n ≤ 4)
  | .domain _ => false
  | _ => true

/-- R64: bytes of a value in its slot, extended to the slot: zeros, or the sign of I8 and I16. -/
def slotBytes (t : Ty) (bs : List Byte) : List Byte :=
  let fill : Byte := match t with
    | .i _ => if (bs.getLastD 0).toNat ≥ 0x80 then 0xFF else 0
    | _ => 0
  (bs ++ List.replicate 4 fill).take 4

/-- R64: the value that a 4-byte slot write carries, its upper bytes checked: `wide` is WIDE_HIGH. -/
def slotWrite (t : Ty) (bs wide : List Byte) : Except Abort (List Byte) :=
  match t with
  | .octets n => if (bs.drop n).all (· == 0) then .ok (bs.take n) else .error .reservedBit
  | .str n =>
    if (bs.drop n).all (· == 0) then .ok (((bs.take n).reverse.dropWhile (· == 0)).reverse) else .error .reservedBit
  | .domain _ => .error .tooLong
  | t =>
    if t.size == 8 then .ok (bs ++ wide)
    else
      let v := bs.take t.size
      if slotBytes t v == bs then .ok v else .error .reservedBit

end Sys2Proof.Machine
end

