-- ==== Sys2Proof/Machine/PcieSpace.lean ====
section
/-! DEFINITION. Configuration space of the PCIe switch: its functions and ports (R239-R242), their capabilities (AER, DPC, MSI-X,
ASPM), and message-signalled interrupts. -/

namespace Sys2Proof.Machine

def setPcie (h : Hub) (f : Pcie → Pcie) : Hub := { h with pcie := f h.pcie }

/-- A register of configuration space: its number, its reset value, the bits that a write sets, and those that a 1 clears. -/
structure CfgReg where
  reg : Nat
  reset : Nat := 0
  rw : Nat := 0
  w1c : Nat := 0
deriving DecidableEq, Repr, Inhabited

/-! Registers (R240, R241)

The spaces: 0 to 3 are F0 to F3, 4 is the upstream switch port, 5 to 9 are devices 1 to 5 on the internal bus (Table 13.1). The
manual gives the vendor ID, the functions' device IDs, class codes and BARs, the 64 vectors, the payload limit, AER, DPC and ASPM L1;
where PCI Express leaves a register's place or its other reset values to the part, the model chooses. (PRESUMED, log 54) -/

/-- R240: the command register holds Memory Space Enable in bit 1 and Bus Master Enable in bit 2. -/
def cfgCommand : CfgReg := ⟨0x04, 0x00100000, 0x0546, 0xF9000000⟩

/-- Advanced error reporting (R241); `next` is the capability after it. -/
def cfgAer (next : Nat) : List CfgReg :=
  [⟨0x100, 0x00020001 + next * 2 ^ 20, 0, 0⟩, ⟨0x104, 0, 0, 0x07FFF030⟩, ⟨0x108, 0, 0x07FFF030, 0⟩, ⟨0x10C, 0x00462030, 0x07FFF030, 0⟩,
   ⟨0x110, 0, 0, 0x0000F1C1⟩, ⟨0x114, 0x2000, 0x0000F1C1, 0⟩, ⟨0x118, 0xA0, 0x140, 0⟩]

/-- R240, Table 13.2: the size of a BAR of a function in bytes; 0 where it has none. -/
def barSize (fn bar : Nat) : Nat :=
  if bar == 4 then 0x4000
  else if bar == 0 then nth [0x4000000, 0x100000, 0x10000, 0x100000] fn 0
  else if bar == 2 && fn == 0 then 0x20000 else 0

/-- R240: a 64-bit, non-prefetchable BAR. -/
def cfgBar (fn bar : Nat) : List CfgReg :=
  let n := barSize fn bar
  if n == 0 then [] else [⟨0x10 + 4 * bar, 4, 2 ^ 32 - n, 0⟩, ⟨0x14 + 4 * bar, 0, 2 ^ 32 - 1, 0⟩]

/-- R240, R241, R435: a function; F0 has a DOE mailbox. -/
def cfgFunction (fn : Nat) : List CfgReg :=
  [⟨0x00, nth [0x7740, 0x7741, 0x7742, 0x7743] fn 0 * 2 ^ 16 + 0x4257, 0, 0⟩, cfgCommand,
   ⟨0x08, nth [0x088000, 0x020000, 0x048000, 0x118000] fn 0 * 2 ^ 8, 0, 0⟩, ⟨0x0C, 0x00800000, 0xFF, 0⟩]
  ++ cfgBar fn 0 ++ cfgBar fn 2 ++ cfgBar fn 4
  ++ [⟨0x34, 0x40, 0, 0⟩, ⟨0x3C, 0, 0xFF, 0⟩, ⟨0x40, 0x0002B010, 0, 0⟩, ⟨0x44, 0x10008002, 0, 0⟩, ⟨0x48, 0x2810, 0x7FFF, 0x000F0000⟩,
      ⟨0x4C, 0x00000845, 0, 0⟩, ⟨0x50, 0x00450000, 0x01FB, 0⟩, ⟨0xB0, 0x003F0011, 0xC0000000, 0⟩, ⟨0xB4, 0x00000004, 0, 0⟩,
      ⟨0xB8, 0x00002004, 0, 0⟩] ++ cfgAer (if fn == 0 then 0x160 else 0)
  ++ (if fn == 0 then [⟨0x160, 0x0001002E, 0, 0⟩] else [])

/-- R239, R241: a port of the switch: the upstream port, or a downstream port with a slot; NV0 and NV1 have DPC. Its device ID the
manual does not give: a free value. -/
def cfgPort (s : Nat) : List CfgReg :=
  let down := 5 ≤ s
  let nv := s == 5 || s == 6
  [⟨0x00, Config.switchDevice s % 2 ^ 16 * 2 ^ 16 + 0x4257, 0, 0⟩, cfgCommand, ⟨0x08, 0x06040000, 0, 0⟩, ⟨0x0C, 0x00010000, 0xFF, 0⟩,
   ⟨0x18, 0, 0x00FFFFFF, 0⟩, ⟨0x1C, 0, 0, 0xF9000000⟩, ⟨0x20, 0, 0xFFF0FFF0, 0⟩, ⟨0x24, 0x00010001, 0xFFF0FFF0, 0⟩,
   ⟨0x28, 0, 2 ^ 32 - 1, 0⟩, ⟨0x2C, 0, 2 ^ 32 - 1, 0⟩, ⟨0x34, 0x40, 0, 0⟩, ⟨0x3C, 0, 0x005F00FF, 0⟩,
   ⟨0x40, (if down then 0x01620010 else 0x00520010), 0, 0⟩, ⟨0x44, 0x8002, 0, 0⟩, ⟨0x48, 0, 0x7FFF, 0x000F0000⟩,
   ⟨0x4C, (if down then 0x00180845 else 0x00000845), 0, 0⟩, ⟨0x50, 0, 0x01FB, 0⟩]
  ++ (if down then [⟨0x54, 0x60, 0, 0⟩, ⟨0x58, 0, 0x1FFF, 0x011F0000⟩] else [])
  ++ cfgAer (if nv then 0x150 else 0)
  ++ (if nv then [⟨0x150, 0x0001001D, 0, 0⟩, ⟨0x154, 0, 0x00FF0000, 0⟩, ⟨0x158, 0, 0, 0x00000009⟩] else [])

def cfgSpace (s : Nat) : List CfgReg := if s < 4 then cfgFunction s else cfgPort s

/-- The register at a number. -/
def cfgRow (s reg : Nat) : CfgReg := ((cfgSpace s).find? (fun x => x.reg == reg / 4 * 4)).getD ⟨reg / 4 * 4, 0, 0, 0⟩

/-- What a register holds. -/
def cfgGet (h : Hub) (s reg : Nat) : Nat := mget h.pcie.cfg (cfgRow s reg).reset (s * 0x10000 + reg / 4 * 4)

def cfgPut (h : Hub) (s reg v : Nat) : Hub := setPcie h (fun p => { p with cfg := mset p.cfg (s * 0x10000 + reg / 4 * 4) v })

/-- What a write leaves of a register. -/
def cfgWritten (x : CfgReg) (was v : Nat) : Nat :=
  let kept := was - (was &&& x.rw)
  let now := kept + (v &&& x.rw)
  now - (now &&& (v &&& x.w1c))

/-! TLPs -/

/-- A TLP by its header. -/
def isTlp (x : Headers) : Bool := x.kind == .pcieAddr || x.kind == .pcieId || x.kind == .pcieMsg

/-- PCI Express: 0 posted, 1 non-posted, 2 completion, by Fmt and Type. -/
def tlpClass (x : Headers) : Nat :=
  let ty := x.fmtType % 32
  if ty == 10 || ty == 11 then 2
  else if (ty == 0 && bitOf x.fmtType 6) || (16 ≤ ty && ty < 24) then 0
  else 1

/-! Errors (R241) -/

/-- PCI Express: the header of a TLP in words of 4 bytes, as AER's header log holds it. -/
def tlpWords (x : Headers) : List Nat :=
  let w0 := x.fmtType % 256 * 2 ^ 24 + x.tc % 8 * 2 ^ 20 + x.lenDw % 1024
  let w1 := x.requester % 2 ^ 16 * 2 ^ 16
    + (if tlpClass x == 2 then x.status % 8 * 2 ^ 13 + x.byteCount % 4096 else x.tag % 256 * 256 + x.byteEn % 256)
  if x.kind == .pcieAddr then
    (if bitOf x.fmtType 5 then [w0, w1, x.address / 2 ^ 32 % 2 ^ 32, x.address % 2 ^ 32] else [w0, w1, x.address % 2 ^ 32, 0])
  else [w0, w1, x.destId % 2 ^ 16 * 2 ^ 16 + (if tlpClass x == 2 then x.tag % 256 * 256 + x.address % 128 else x.address % 4096), 0]

/-- R241: an uncorrectable error is logged in a space's AER and device status; the first that is not masked leaves its number and the
header of its TLP. (PRESUMED, log 54) -/
def aerStatus (h : Hub) (s bit : Nat) (x : Option Headers) : Hub :=
  let mask := cfgGet h s 0x108
  let st := cfgGet h s 0x104
  let first := !bitOf mask bit && (List.range 32).all (fun b => !bitOf st b || bitOf mask b)
  let h := cfgPut h s 0x104 (st ||| 2 ^ bit)
  let h := cfgPut h s 0x48 (cfgGet h s 0x48 ||| 2 ^ (if bitOf (cfgGet h s 0x10C) bit then 18 else 17) ||| (if bit == 20 then 2 ^ 19 else 0))
  if first then
    let h := cfgPut h s 0x118 (cfgGet h s 0x118 / 32 * 32 + bit)
    match x with
    | some x => forEach ((List.range 4).zip (tlpWords x)) h (fun h w => cfgPut h s (0x11C + 4 * w.1) w.2)
    | none => h
  else h

/-- R241: an error of a space: it is logged, and signalled unless it is masked. -/
def aerNote (h : Hub) (s bit : Nat) (x : Option Headers) : Hub :=
  let h' := aerStatus h s bit x
  if bitOf (cfgGet h s 0x108) bit then h' else later h' (.aerError s (if bitOf (cfgGet h s 0x10C) bit then 2 else 1))

/-- R241: a correctable error of a space: it is logged, and signalled unless it is masked. (PRESUMED, log 54) -/
def aerCorrectable (h : Hub) (s bit : Nat) : Hub :=
  let h := cfgPut h s 0x110 (cfgGet h s 0x110 ||| 2 ^ bit)
  let h := cfgPut h s 0x48 (cfgGet h s 0x48 ||| 2 ^ 16)
  if bitOf (cfgGet h s 0x114) bit then h else later h (.aerError s 0)

/-- R241: an error that is not fatal and that a completion reports: PCI Express has it signalled as a correctable one, advisory (bit 13); a
fatal one as any other. (PRESUMED, log 54) -/
def aerAdvisory (h : Hub) (s bit : Nat) (x : Option Headers) : Hub :=
  if bitOf (cfgGet h s 0x10C) bit then aerNote h s bit x else aerCorrectable (aerStatus h s bit x) s 13

/-! Bus masters and interrupts (R240) -/

/-- R240: the function may master the bus: it is not in reset and its Bus Master Enable is 1. -/
def busMaster (h : Hub) (fn : Nat) : Bool := !h.pcie.inReset.contains fn && bitOf (cfgGet h fn 4) 2

/-- R240: the reset value of a word of an MSI-X table entry: a vector is masked. -/
def msixReset (w : Nat) : Nat := if w == 3 then 1 else 0

/-- R240: a word of an entry of a function's MSI-X table: address, data, mask. -/
def msixWord (h : Hub) (fn v w : Nat) : Nat := mget h.pcie.msix (msixReset w) ((fn * 64 + v) * 4 + w)

/-- R240: a function sends a vector: a write of the entry's data to its address. A masked vector becomes pending. (PRESUMED, log 54) -/
def raiseMsix (h : Hub) (fn v : Nat) : Hub :=
  let ctl := cfgGet h fn 0xB0
  if !bitOf ctl 31 || !busMaster h fn then h
  else if bitOf ctl 30 || bitOf (msixWord h fn v 3) 0 then setPcie h (fun p => { p with pba := insertNew p.pba (fn * 64 + v) })
  else later (send h (.msix fn v)) (.hostWrite fn (msixWord h fn v 0 + msixWord h fn v 1 * 2 ^ 32) 4 (leBytes 4 (msixWord h fn v 2)))

/-- R240: vectors that may go out now leave the PBA. -/
def msixFlush (h : Hub) (fn : Nat) : Hub :=
  forEach (h.pcie.pba.filter (fun x => x / 64 == fn)) h (fun h x =>
    raiseMsix (setPcie h (fun p => { p with pba := p.pba.filter (· != x) })) fn (x % 64))

end Sys2Proof.Machine
end

