-- ==== Sys2Proof/Machine/Flags.lean ====
section
/-! DEFINITION. Status flags with their event counts (R40), counters (R54), peaks, and what the hub sends on its own:
event and emergency frames (R84), heartbeats and times go out by the same PDU layout (R74, R75). -/

namespace Sys2Proof.Machine

/-- R54: raise a counter, wrapping at its type's width. -/
def addN (h : Hub) (k n : Nat) : Hub :=
  let w := match rowAt (keyIdx k) (keySub k) with
    | some r => r.ty.size
    | none => 8
  setN h k ((getN h k + n) % 2 ^ (8 * w))

/-- Raise a counter by one. -/
def bump (h : Hub) (k : Nat) : Hub := addN h k 1

/-- R54: record the largest value seen. -/
def peak (h : Hub) (k v : Nat) : Hub := if getN h k < v then setN h k v else h

/-! Seasons, units and carriers -/

def season (h : Hub) : Nat := getN h Obj.SEASON
def inWinter (h : Hub) : Bool := season h == 3

/-- R473: recovery hold. -/
def inHold (h : Hub) : Bool := getN h Obj.FW_SET_STATE == 3

/-- R29: a unit is quarantined or mapped out. -/
def outOfService (h : Hub) (u : Nat) : Bool := h.quarantined.contains u || h.mapped.contains u

/-- R484: present and in service. -/
def inService (h : Hub) (u : Nat) : Bool := h.part.has u && !outOfService h u

/-- A MAC runs: it is in service, its domain is On, it has a mode and a link. -/
def macRuns (h : Hub) (m : Nat) : Bool :=
  inService h (macUnit m) && domOn h 53 && getN h (Obj.MAC_MODE m) != 0 && getN h (Obj.LINK_SPEED m) != 0

/-- R463, R473, R86: the carriers that serve the dictionary: in Winter CAN FD alone, in recovery hold the USB vendor interface
too; the supervisor core reaches its own dictionary. (DEDUCED, log 14) -/
def carrierServed (h : Hub) (c : Ctx) : Bool :=
  if inWinter h then c == .can || c == .supervisor
  else if inHold h then c == .can || c == .usb || c == .supervisor
  else true

/-! The twin's link -/

def setTwin (h : Hub) (f : Twin → Twin) : Hub := { h with twin := f h.twin }

/-- R402: a frame waits for the transmitter of the Tyvel link. -/
def tyvel (h : Hub) (x : TyvelMsg) : Hub := whenH h.twin.linkUp h (fun h => setTwin h (fun t => { t with txq := t.txq ++ [x] }))

/-! PDUs (R74, R75, R87) -/

/-- R74: the 29-bit identifier. -/
def pduIdent (p : Pdu) : Nat :=
  p.func * 0x1000000 + p.source * 0x20000 + p.dest * 0x400 + p.seq * 0x40 + p.segment

/-- R74: the fields of an identifier; bits [31:29] are ignored. -/
def pduOf (ident : Nat) (data : List Byte) : Pdu where
  func := bitsOf ident 28 24
  source := bitsOf ident 23 17
  dest := bitsOf ident 16 10
  seq := bitsOf ident 9 6
  segment := bitsOf ident 5 0
  data := data

/-- R75: the next CAN FD data length. -/
def canLen (n : Nat) : Nat :=
  if n ≤ 8 then n else if n ≤ 12 then 12 else if n ≤ 16 then 16 else if n ≤ 20 then 20
  else if n ≤ 24 then 24 else if n ≤ 32 then 32 else if n ≤ 48 then 48 else 64

/-- R75: data padded with zeros to the next CAN FD length, on every carrier. -/
def padCan (bs : List Byte) : List Byte := bs ++ List.replicate (canLen bs.length - bs.length) 0

def padded (p : Pdu) : Pdu := { p with data := padCan p.data }

/-- R87: a PDU on every carrier but CAN FD. -/
def pduWire (p : Pdu) : List Byte :=
  leBytes 4 (pduIdent p) ++ leBytes 1 p.data.length ++ [0, 0, 0]
    ++ p.data ++ List.replicate ((4 - p.data.length % 4) % 4) 0

/-- R90: a PDU that the hub sends counts in FRAMES_TX, an abort of class 0x0A in TRANSFER_TIMEOUTS as well. -/
def countTx (h : Hub) (p : Pdu) : Hub :=
  whenH (p.func == 0x06 && p.data[3]? == some 0x0A) (bump h Obj.FRAMES_TX) (fun h => bump h Obj.TRANSFER_TIMEOUTS)

/-- A PDU of the hub's own: not part of a transfer, so sequence 0 (R74). -/
def ownPdu (h : Hub) (func dest : Nat) (data : List Byte) : Pdu where
  func := func
  source := h.jdp.node
  dest := dest
  seq := 0
  segment := 0
  data := data

/-- Table 5.2: the data of an emergency frame. -/
def Emergency.data (e : Emergency) : List Byte :=
  leBytes 2 e.code ++ leBytes 1 e.season ++ [0] ++ leBytes 2 e.unit ++ [0, 0] ++ leBytes 8 e.time

/-- R89: bytes free in a ring from producer to consumer, of which 4 stay free. -/
def ringUsed (prod cons : Nat) : Nat := (prod + 32768 - cons) % 32768

/-- Put bytes into a ring's content. -/
def ringPut (m : SMap Byte) (off : Nat) (bs : List Byte) : SMap Byte :=
  ((List.range bs.length).zip bs).foldl (fun m x => mset m (off + x.1) x.2) m

/-- R89: the hub writes a PDU into the hub-to-host ring, wrapping with a zero word; when the ring has no room the PDU is
discarded, which does not count as sent, and MBX_STATUS[1] is set. R88: with MBX_CONTROL[1], an MSI-X of F0 follows; which of
its vectors the manual does not say: the model sends vector 0. (DESIGN CHOICE, log 49) -/
def d2hPut (h : Hub) (p : Pdu) : Hub :=
  let bs := pduWire p
  let m := h.mbx
  let wrap := decide (m.d2hProducer + bs.length > 32768)
  let skip := if wrap then 32768 - m.d2hProducer else 0
  let at0 := if wrap then 0 else m.d2hProducer
  if bitOf m.control 0 == false then h
  else if ringUsed m.d2hProducer m.d2hConsumer + skip + bs.length + 4 > 32768 then
    { h with mbx := { m with status := m.status ||| 2 } }
  else
    let d := if wrap && decide (m.d2hProducer < 32768) then ringPut m.d2h m.d2hProducer [0, 0, 0, 0] else m.d2h
    let h := { countTx h p with mbx := { m with d2h := ringPut d at0 bs, d2hProducer := (at0 + bs.length) % 32768 } }
    whenH (bitOf m.control 1) h (fun h => raiseMsix h 0 0)

/-- The entry that an owner has. -/
def carveOf (h : Hub) (owner : Nat) : Option Nat := (List.range 32).find? (fun p => getN h (at_ p Obj.CV_OWNER) == owner)

/-- R323, R321: the units of an owner. -/
def unitsOf (h : Hub) (owner : Nat) : Nat :=
  match carveOf h owner with
  | some p => getN h (at_ p Obj.CV_UNITS)
  | none => 0

/-- R87: the vendor interface of the device on port 8 is configured. -/
def usbUp (h : Hub) : Bool := h.usb.dev == 3

/-- R326: the IN endpoint of the vendor interface on which a PDU goes out: interrupt IN for reports, bulk IN for responses; its owner in
Table 17.2 and its address. -/
def pduEndpoint (p : Pdu) : Nat × Nat := if 8 ≤ p.func && p.func ≤ 11 then (0x04, 0x82) else (0x03, 0x81)

/-- R329, R330: the device on port 8 is suspended: with its hub, or by itself. -/
def deviceAsleep (h : Hub) : Bool := getN h Obj.USB2_STATE == 4 || h.usb.devSuspended

/-- R329: a port's suspend change bit, and its report to the host. -/
def portResumed (h : Hub) (n : Nat) : Hub :=
  send { h with usb := { h.usb with suspendChange := insertNew h.usb.suspendChange n } } (.usb "port status change" [n] [])

/-- A PDU leaves on the vendor interface. -/
def usbOut (h : Hub) (dst : Peer) (p : Pdu) : Hub := send (countTx h p) (.pdu dst p)

/-- R84: the next emergency that waits for the vendor interface goes out, unless the inhibit time runs. -/
def usbEmergency (h : Hub) : Hub :=
  let c := ctxNo .usb
  match mget h.jdp.emergencies [] c with
  | [] => h
  | e :: r =>
    if h.jdp.inhibited.contains c then h
    else usbOut { h with jdp := { h.jdp with emergencies := mset h.jdp.emergencies c r, inhibited := insertNew h.jdp.inhibited c } }
      { ctx := .usb } (padded (ownPdu h 0x09 0x7F e.data))

/-- R329: a wake is granted at the moment of a host resume that was granted first. -/
def collides (h : Hub) (n : Nat) : Bool := h.usb.resumedAt == h.now && h.usb.collide.contains n

/-- R329: such a wake counts as a collision, once. -/
def collided (h : Hub) (n : Nat) : Hub :=
  whenH (collides h n) h (fun h =>
    bump { h with usb := { h.usb with collide := h.usb.collide.filter (· != n) } } Obj.WAKE_COLLISIONS)

/-- R329, R330: the device on port 8 goes on; the PDUs that waited for it go out. A port that was suspended by itself is resumed, and
a wake's status change reaches the host (`report`). -/
def deviceResumed (h : Hub) (report : Bool) : Hub :=
  let ps := h.usb.parked
  let was := h.usb.devSuspended
  let h := { h with usb := { h.usb with devSuspended := false, parked := [] } }
  let h := if was then portResumed h 8 else if report then send h (.usb "port status change" [8] []) else h
  usbEmergency (forEach ps h (fun h x => usbOut h x.1 x.2))

/-- R330: a packet waits for the device on port 8 while it is suspended with remote wake enabled. Granted before a host resume, the wake
resumes the hub upstream if the host enabled that on the hub, and is noted otherwise; granted after one, it is a collision, resumes the
device's own port if that is still suspended, and is reported (R329). -/
def deviceWake (h : Hub) : Hub :=
  if !h.usb.wakeOn.contains 2 then h
  else if getN h Obj.USB2_STATE == 4 then
    if h.usb.wakeOn.contains 0 then
      deviceResumed (send (bump (setN h Obj.USB2_STATE h.usb.before2) Obj.REMOTE_WAKES) (.usb "resume upstream" [8] [])) true
    else { h with usb := { h.usb with noted := insertNew h.usb.noted 8 } }
  else if h.usb.devSuspended || collides h 8 then deviceResumed (collided h 8) true
  else h

/-- R324, R326, R330: a PDU on the vendor interface: STALL where the endpoint has no carve-out, and a wait while the device is
suspended. Without the endpoint memory (R23) nothing can be held for the host. -/
def usbPdu (h : Hub) (dst : Peer) (p : Pdu) : Hub :=
  let e := pduEndpoint p
  if !usbUp h || outOfService h epmUnit then h
  else if unitsOf h e.1 == 0 then send h (.usb "stall" [e.2] [])
  else if deviceAsleep h then deviceWake { h with usb := { h.usb with parked := h.usb.parked ++ [(dst, p)] } }
  else usbOut (deviceWake h) dst p

/-- R75, R87, R402: send a PDU on its carrier and count it; one for the twin is a management message, laid out as on every other
carrier. R86: in Winter CAN FD alone remains. -/
def sendPdu (h : Hub) (dst : Peer) (p : Pdu) : Hub :=
  let p := padded p
  if !carrierServed h dst.ctx then h
  else if dst.session then later h (.sealPdu dst.ctx p)
  else match dst.ctx with
    | .bar2 => d2hPut h p
    | .tyvel => if h.twin.linkUp then tyvel (countTx h p) { type := .mgmt, args := (pduWire p).map (·.toNat) } else h
    | .usb => usbPdu h dst p
    | .can => if inService h canUnit then send (countTx h p) (.pdu dst p) else h
    | _ => send (countTx h p) (.pdu dst p)

/-- R87: the MACs of UDP_MACS that run, as a mask; the manual does not say on which of them a report goes. (DEDUCED, log 16) -/
def udpMacs (h : Hub) : Nat := sumOf (fun m => if bitOf (getN h Obj.UDP_MACS) m && macRuns h m then 2 ^ m else 0) (List.range 6)

/-- R71, R84, R86, R87: the carriers on which reports go out: CAN FD with a node number, UDP when enabled with a report
address and a MAC that runs, the USB vendor interface when it is configured, the mailbox when it is enabled, the Tyvel link with a
session; in Winter CAN FD alone. (DEDUCED, log 16) -/
def reportPeers (h : Hub) : List Peer :=
  let can : List Peer := if getN h Obj.NODE_ID_ACTIVE != 0 && inService h canUnit then [{ ctx := .can }] else []
  let udp : List Peer := if getB h Obj.UDP_ENABLE && getN h Obj.UDP_REPORT_ADDRESS != 0 && udpMacs h != 0 then
      [{ ctx := .udp, ip := getN h Obj.UDP_REPORT_ADDRESS, udpPort := 47400, mac := udpMacs h }] else []
  let usb : List Peer := if usbUp h then [{ ctx := .usb }] else []
  let bar2 : List Peer := if bitOf h.mbx.control 0 then [{ ctx := .bar2 }] else []
  let twin : List Peer := if h.twin.linkUp && h.twin.session then [{ ctx := .tyvel }] else []
  (can ++ udp ++ usb ++ bar2 ++ twin).filter (fun p => carrierServed h p.ctx)

/-- R84: an event frame for a flag, to EVENT_NODE on every report carrier. (DESIGN CHOICE, log 11) -/
def eventFrame (h : Hub) (k count : Nat) : Hub :=
  let d := leBytes 2 (keyIdx k) ++ leBytes 1 (keySub k) ++ leBytes 1 count ++ leBytes 8 h.net
  forEach (reportPeers h) h (fun h p => sendPdu h p (ownPdu h 0x0A (getN h Obj.EVENT_NODE) d))

/-- R40: a hardware set of a flag: the flag reads 1, the event count beside it rises by one, and an enabled route sends
its event. (DESIGN CHOICE, log 11) -/
def setFlag (h : Hub) (k : Nat) : Hub :=
  let c := (getN h (k + 1) + 1) % 256
  let h := setN (setN h k 1) (k + 1) c
  let h := whenH (h.intRoutes.contains k) h (fun h => send h (.intN k))
  whenH (h.routes.contains k) h (fun h => eventFrame h k c)

/-- R40: a clear of a flag leaves its event count. -/
def clearFlag (h : Hub) (k : Nat) : Hub := setN h k 0

/-! Emergency frames (R84) -/

/-- R330: what the hub has for the vendor interface waits, since its device is suspended. -/
def usbWaits (h : Hub) : Bool := usbUp h && unitsOf h 0x04 != 0 && deviceAsleep h

/-- R84, R330: one emergency on one carrier: sent at once unless the inhibit time runs or the carrier's device is suspended, which it
wakes; else queued, the 17th discarded. -/
def emergencyOn (h : Hub) (e : Emergency) (p : Peer) : Hub :=
  let c := ctxNo p.ctx
  let asleep := p.ctx == .usb && usbWaits h
  if h.jdp.inhibited.contains c || asleep then
    let q := mget h.jdp.emergencies [] c
    let h := if q.length < 16 then { h with jdp := { h.jdp with emergencies := mset h.jdp.emergencies c (q ++ [e]) } }
      else bump h Obj.EMERGENCY_DROPPED
    whenH asleep h deviceWake
  else
    let h := { h with jdp := { h.jdp with inhibited := insertNew h.jdp.inhibited c } }
    sendPdu h p (ownPdu h 0x09 0x7F e.data)

/-- R84, R458: an emergency frame on each enabled carrier. -/
def emergency (h : Hub) (code unit : Nat) : Hub :=
  let e : Emergency := { code := code, season := getN h Obj.SEASON, unit := unit, time := h.net }
  forEach (reportPeers h) h (fun h p => emergencyOn h e p)

/-! Unit faults and quarantine (R22, R23, R29, R40) -/

/-- The key of a unit's fault flag in the directory. -/
def faultKey (u : Nat) : Option Nat := (unitPos u).map (fun p => at_ p Obj.DIR_FAULT)

/-- R40: set a unit's fault flag. -/
def setFault (h : Hub) (u : Nat) : Hub :=
  match faultKey u with
  | some k => setFlag h k
  | none => h

/-- The fault flag of a unit. -/
def faulted (h : Hub) (u : Nat) : Bool :=
  match faultKey u with
  | some k => getB h k
  | none => false

/-- R408, R425: TW_ROLE: the holder of the token is active, any other enabled hub is standby. -/
def twinRole (h : Hub) : Nat := if !getB h Obj.TW_ENABLE then 0 else if h.twin.token then 1 else 2

/-- R413, R416: a hub that does not hold the token, from Catch-up onwards. -/
def isStandby (h : Hub) : Bool := twinRole h == 2 && decide (2 ≤ getN h Obj.TW_STATE)

/-- R418: the standby of a pair follows the active's time. -/
def following (h : Hub) : Bool := isStandby h && decide (3 ≤ getN h Obj.TW_STATE)

/-- R398, R424: bit `b` of TW_SWITCHED on a standby: the port's mux selects the other hub. -/
def muxedAway (h : Hub) (b : Nat) : Bool := twinRole h == 2 && bitOf (getN h Obj.TW_SWITCHED) b

/-- R49, R466, R475: an entry of the health log (R466): written at position HL_TOTAL mod 256 with HL_SEQ the new total. -/
def healthLog (h : Hub) (code unit row : Nat) : Hub :=
  let n := getN h Obj.HL_TOTAL
  let p := n % 256
  let h := setN h Obj.HL_TOTAL (n + 1)
  let h := setN h (at_ p Obj.HL_SEQ) (n + 1)
  let h := setN h (at_ p Obj.HL_CODE) code
  let h := setN h (at_ p Obj.HL_UNIT) unit
  let h := setN h (at_ p Obj.HL_SEASON) (getN h Obj.SEASON)
  let h := setN h (at_ p Obj.HL_ROW) row
  setN h (at_ p Obj.HL_TIME) h.net

/-- R47, R49, R71: a health event that names an index and sub-index: an entry that is no condition of a row (R475). The manual gives it
code 0x3007 and no field of the log for the two: the unit field carries the index, and the event itself names both. (DESIGN CHOICE, log 50) -/
def healthEvent (h : Hub) (idx sub : Nat) : Hub :=
  let h := healthLog h 0x3007 idx 0xFF
  { h with health := { h.health with named := h.health.named ++ [(getN h Obj.HL_TOTAL, idx, sub)] } }

end Sys2Proof.Machine
end

