-- ==== Sys2Proof/Machine/Hearth.lean ====
section
/-! DEFINITION. The Hearth: power domains as the data path sees them (R42, R388), bank groups and their cell counts
(R105), pools and admission (R99, R510), chunks (R102), borrowing (R103) and relief rows (R107). -/

namespace Sys2Proof.Machine

/-- Table 21.1: domains that a part has. -/
def domPresent (p : Part) (d : Nat) : Bool :=
  decide (d < 64) && (match p with
  | .bw7740 => true
  | .bw7730 => d != 56
  | .bw7720 => d != 56 && !(36 ≤ d && d ≤ 40))

/-- R388: the code of a wake cause in DM_WAKE_CAUSE. -/
def causeCode : WakeCause → Nat
  | .grate => 1 | .dictionary => 2 | .pin => 3 | .timer => 4 | .request => 5 | .allotment => 6

/-- R391, Table 21.3: the released rails that supply a domain: 0 VDD_CORE, 1 VDD_MEM, 2 VDDA_LANE, 3 VDDH_LANE. -/
def railsOf (d : Nat) : List Nat := if d ≤ 31 then [0, 1] else if d ≤ 49 then [0] else if d ≤ 56 then [2, 3] else []

def railOn (h : Hub) (r : Nat) : Bool := bitOf (getN h (Obj.RAIL_STATE 0)) r

/-- R391: the PMBus address of a rail's regulator. -/
def railAddr (h : Hub) (r : Nat) : Nat := getN h (Obj.RAIL_ADDR_CORE 0 + r)

/-- R391: the Ember controller asks for a rail, VDD_CORE after VOUT_COMMAND 850 mV. -/
def railRequest (h : Hub) (r : Nat) : Hub :=
  let h := if r == 0 then send h (.rail "VOUT_COMMAND" [railAddr h 0, 850]) else h
  bump (send h (.rail "OPERATION on" [railAddr h r])) (Obj.RAIL_REQUESTS 0)

/-- R391: step 1 of a wake asks for each released rail of the domain, unless it has been asked for. (DEDUCED, log 37) -/
def needRails (h : Hub) (d : Nat) : Hub :=
  forEach (railsOf d) h (fun h r =>
    if railOn h r || (mget? h.railReq r).isSome then h
    else { railRequest h r with railReq := mset h.railReq r 1 })

/-- R42, R388: a wake trigger. A sleep request that was not granted yet is abandoned and counted; a domain in Ember or Off
starts its wake, one that is entering it does so when it has; one that ride-through forces does not (R387). -/
def wakeTrigger (h : Hub) (d : Nat) (c : WakeCause) : Hub :=
  let x := domain h d
  if x.st == 1 then
    if x.asked then bump (setDomain h d { x with asked := false }) (Obj.DM_SLEEPS_ABANDONED d) else h
  else if x.st == 5 || x.forced then h
  else if x.st == 4 then setDomain h d { x with wake := x.wake.orElse (fun _ => some c) }
  else needRails (setDomain h d { x with st := 5, leaving := x.st, cause := causeCode c }) d

/-- R388: the domains that a wake of a C-die domain wakes first: PW61, PW49 and the region logic of its region, in that order. -/
def wakesFirst (d : Nat) : List Nat :=
  let region := if d < 32 then d / 4 else if d < 40 then d - 32 else 0
  if d ≤ 40 then [61, 49, 41 + region] else if d ≤ 48 then [61, 49] else if d == 49 then [61] else []

/-- R388, R385: something shows at a pin of a unit: it acts on it while its domain is On, and otherwise once that is; the domain controller
decides whether the pin event wakes it. -/
def atPin (h : Hub) (d : Nat) (e : PinEvent) (f : Hub → Hub) : Hub :=
  let h := later h (.pinWake d)
  if domOn h d then f h else { h with pins := h.pins ++ [(d, e)] }

/-- R388: a wake of a domain, after those that it wakes first. -/
def wakeDomain (h : Hub) (d : Nat) (c : WakeCause) : Hub :=
  let h := forEach (wakesFirst d) h (fun h e => if domOn h e then h else wakeTrigger h e c)
  wakeTrigger h d c

/-! Bank groups -/

/-- R107, R507: 0 in service, 1 mapped out, 2 out while a bank is quarantined. -/
def groupState (h : Hub) (g : Nat) : Nat := mget h.hearth.groupState 0 g

/-- R99: the bank groups in service. -/
def groupsIn (h : Hub) : List Nat := (List.range 32).filter (fun g => groupState h g == 0)

/-- R105: the length of a group's free list. -/
def groupFree (h : Hub) (g : Nat) : Nat := mget h.hearth.free h.part.rows g

def setFree (h : Hub) (g n : Nat) : Hub := { h with hearth := { h.hearth with free := mset h.hearth.free g n } }

/-- R93: the groups of a chunk's half. -/
def halfGroups (k : Nat) : List Nat := (List.range 16).map (fun i => 16 * (k % 2) + i)

/-- R105: pieces of chunks and relief rows in a group. -/
def groupSurface (h : Hub) (g : Nat) : Nat :=
  (h.hearth.chunks.filter (fun c => c.1 % 2 == g / 16)).length + (h.hearth.relief.filter (fun r => r.1 == g)).length

/-- R107: the cell slots that a group offers: none while it is out of service. -/
def groupCells (h : Hub) (g : Nat) : Nat := if groupState h g == 0 then h.part.rows else 0

/-- How many of a frame's written cells lie in a group. -/
def cellsIn (f : GFrame) (g : Nat) : Nat := (f.written.filter (fun c => c.group == g)).length

/-- R510: what admitted frames hold reserved in a group. -/
def groupReserved (h : Hub) (g : Nat) : Nat := sumOf (fun f => mget f.reserved 0 g) h.grate.frames

/-- R99: the cells that a pool holds in a group, written or reserved. -/
def poolUse (h : Hub) (p g : Nat) : Nat :=
  sumOf (fun f => if f.pool == p then cellsIn f g + mget f.reserved 0 g else 0) h.grate.frames

/-- R111, R104: CELLS_IN_USE: cells of a pool in all groups in service, written and reserved, without those above its quota, each of
which is borrowed and counts in HEADROOM_BORROWED alone. -/
def poolCells (h : Hub) (p : Nat) : Nat := sumOf (fun g => min (poolUse h p g) (getN h (Obj.CELL_QUOTA p))) (groupsIn h)

/-- R111, R262: chunks of a pool: those of surfaces charged to it; owner 256 is the retry store. -/
def poolChunks (h : Hub) (p : Nat) : Nat :=
  (h.hearth.chunks.filter (fun c => (if c.2 == 256 then getN h Obj.RETRY_POOL else getN h (at_ c.2 Obj.SF_POOL)) == p)).length

/-- R105: a cell of a frame is in transit when the frame is not linked yet, or when every reference has read it. -/
def inTransit (h : Hub) (f : GFrame) (c : Cell) : Bool :=
  f.refs.any (fun r => r.st == .unlinked)
  || (!f.refs.isEmpty && f.refs.all (fun r =>
        (mget h.grate.win [] r.port).any (fun w => w.frame == f.id && w.queue == r.queue && w.idx == c.idx && w.read)
        || decide (c.idx < r.delivered)))

/-- R105: cells in transit in a group, never more than 64: of a frame whose last unread reference is removed, the cells that would pass
that number count as queued until others have returned. (DESIGN CHOICE, log 52) -/
def groupTransit (h : Hub) (g : Nat) : Nat :=
  min 64 (sumOf (fun f => (f.written.filter (fun c => c.group == g && inTransit h f c)).length) h.grate.frames)

/-- R105: the manual states that a group never has more than 64 cells in transit, and no means that sees to it: a write or a
read that would pass that number waits. (DESIGN CHOICE, log 52) -/
def transitRoom (h : Hub) (g : Nat) : Bool := decide (groupTransit h g < 64)

/-- R105: cells queued in a group: those written that are not in transit. -/
def groupQueued (h : Hub) (g : Nat) : Nat := sumOf (fun f => cellsIn f g) h.grate.frames - groupTransit h g

/-- R105, R107: what a group's surface pieces count in the identity: nothing while the group is out of service. -/
def groupPieces (h : Hub) (g : Nat) : Nat := if groupState h g == 0 then groupSurface h g else 0

/-- R105: the identity of a group; a group out of service counts 0 (R107). -/
def groupBalanced (h : Hub) (g : Nat) : Bool :=
  groupFree h g + groupQueued h g + groupTransit h g + groupPieces h g == groupCells h g

/-- R109: queued and in-transit cells of all groups in service. -/
def occupancy (h : Hub) : Nat := sumOf (fun g => groupQueued h g + groupTransit h g) (groupsIn h)

/-! Rows -/

/-- Whether a cell slot of a group is held by a cell, a piece or a relief row. -/
def rowBusy (h : Hub) (g r : Nat) : Bool :=
  h.grate.frames.any (fun f => f.written.any (fun c => c.group == g && c.row == r))
  || h.hearth.chunks.any (fun c => c.1 % 2 == g / 16 && c.1 / 2 == r)
  || h.hearth.relief.contains (g, r)

/-- Whether a cell holds a slot. -/
def cellAt (h : Hub) (g r : Nat) : Bool :=
  h.grate.frames.any (fun f => f.written.any (fun c => c.group == g && c.row == r))

/-- The manual leaves open which free slot a cell takes: a free value. (DESIGN CHOICE, log 24) -/
def pickRow (h : Hub) (g : Nat) : Nat :=
  let free := (List.range h.part.rows).filter (fun r => !rowBusy h g r)
  nth free (Config.freeNat h.fresh % free.length) 0

/-- The lowest row from `r` upwards that passes a test. -/
def firstRow (ok : Nat → Bool) : Nat → Nat → Option Nat
  | 0, _ => none
  | n + 1, r => if ok r then some r else firstRow ok n (r + 1)

/-! Relief rows (R107) -/

/-- R105, R510: a group has a free slot that no admitted frame holds reserved. -/
def slotFree (h : Hub) (g : Nat) : Bool := decide (groupReserved h g < groupFree h g)

/-- R107: relief for the piece of a group out of service at a row: the partner's row HEARTH_ROWS − 1 − r, taken off the
partner's free list, or waited for while a cell holds it. A piece of a chunk that holds it is no case of the manual's: the
model waits until that piece is freed as well, and until the partner has a free slot that no admitted frame holds reserved (R510).
A partner that is out of service gives none. (DESIGN CHOICE, log 52) -/
def needRelief (h : Hub) (g r : Nat) : Hub :=
  let p := Nat.xor g 16
  let rr := h.part.rows - 1 - r
  if groupState h p != 0 || h.hearth.relief.contains (p, rr) then h
  else if rowBusy h p rr || !slotFree h p then
    { h with hearth := { h.hearth with reliefWait := h.hearth.reliefWait ++ [(p, rr)] } }
  else
    let h := { h with hearth := { h.hearth with relief := h.hearth.relief ++ [(p, rr)] } }
    setFree h p (groupFree h p - 1)

/-! Chunks (R102) -/

/-- R103: a group has a slot that a chunk may claim: one that neither the headroom reserve nor an admitted frame (R510) holds. -/
def chunkRoom (h : Hub) (g : Nat) : Bool :=
  decide (groupReserved h g + getN h Obj.HEADROOM_CELLS + 1 ≤ groupFree h g)

/-- A chunk may be given out: its slots in the groups in service are free, none of them is of the reserve (R103), no relief row
meets it (R107), and the relief rows that it needs are not of the reserve either. -/
def chunkFree (h : Hub) (hf r : Nat) : Bool :=
  !(h.hearth.chunks.any (fun c => c.1 == 2 * r + hf))
  && (halfGroups hf).all (fun g =>
    if groupState h g == 0 then !rowBusy h g r && chunkRoom h g
    else groupState h (Nat.xor g 16) != 0 || chunkRoom h (Nat.xor g 16))

/-- R102: the chunks in use of each half. -/
def halfUse (h : Hub) (hf : Nat) : Nat := (h.hearth.chunks.filter (fun c => c.1 % 2 == hf)).length

/-- R102: give one chunk to a surface: from the half with fewer in use, ties to half 0, the lowest free row. Where that
half has no free row, the other half gives it. (DEDUCED, log 53) -/
def takeChunk (h : Hub) (surface : Nat) : Option Hub :=
  let try_ (hf : Nat) := (firstRow (chunkFree h hf) h.part.rows 0).map (fun r => 2 * r + hf)
  let a := if halfUse h 0 ≤ halfUse h 1 then 0 else 1
  match (try_ a).orElse (fun _ => try_ (1 - a)) with
  | none => none
  | some k =>
    let h := { h with hearth := { h.hearth with chunks := mset h.hearth.chunks k surface } }
    some (forEach (halfGroups k) h (fun h g =>
      if groupState h g == 0 then setFree h g (groupFree h g - 1) else needRelief h g (k / 2)))

/-- Several chunks, all or none. -/
def takeChunks (h : Hub) (surface : Nat) : Nat → Option Hub
  | 0 => some h
  | n + 1 => (takeChunk h surface).bind (fun h => takeChunks h surface n)

/-- R102: allocate a surface's chunks from its pool, refused as a whole and counted in CHUNK_REFUSED. -/
def allocChunks (h : Hub) (pool surface n : Nat) : Bool × Hub :=
  if poolChunks h pool + n > getN h (Obj.CHUNK_QUOTA pool) then (false, bump h (Obj.CHUNK_REFUSED pool))
  else match takeChunks h surface n with
    | none => (false, bump h (Obj.CHUNK_REFUSED pool))
    | some h => (true, h)

/-- R102: a freed surface returns its chunks. -/
def freeChunks (h : Hub) (surface : Nat) : Hub :=
  let mine := h.hearth.chunks.filter (fun c => c.2 == surface)
  let h := { h with hearth := { h.hearth with chunks := h.hearth.chunks.filter (fun c => c.2 != surface) } }
  forEach mine h (fun h c => forEach (halfGroups c.1) h (fun h g =>
    if groupState h g == 0 then setFree h g (groupFree h g + 1)
    else
      let p := Nat.xor g 16
      let rr := h.part.rows - 1 - c.1 / 2
      let h := { h with hearth := { h.hearth with reliefWait := h.hearth.reliefWait.filter (· != (p, rr)) } }
      if h.hearth.relief.contains (p, rr) && groupState h p == 0 then
        setFree { h with hearth := { h.hearth with relief := h.hearth.relief.filter (· != (p, rr)) } } p (groupFree h p + 1)
      else h))

/-- The chunks of a surface in ascending order. -/
def chunksOf (h : Hub) (surface : Nat) : List Nat := (h.hearth.chunks.filter (fun c => c.2 == surface)).map (·.1)

/-! Admission (R99, R510, R103) -/

/-- R99: cells a frame needs in each group. -/
def perGroup (h : Hub) (n : Nat) : Nat := ceilDiv n (groupsIn h).length

/-- R99: the two tests of one group. -/
def quotaOk (h : Hub) (p n g : Nat) : Bool := decide (poolUse h p g + perGroup h n ≤ getN h (Obj.CELL_QUOTA p))
def headroomOk (h : Hub) (n g : Nat) : Bool :=
  decide (groupReserved h g + perGroup h n + getN h Obj.HEADROOM_CELLS ≤ groupFree h g)

/-- R99: a frame of `n` cells is admitted to pool `p`. -/
def admits (h : Hub) (p n : Nat) : Bool :=
  let gs := groupsIn h
  !gs.isEmpty && gs.all (fun g => quotaOk h p n g && headroomOk h n g)

/-- R103: every group in service has the frame's cells free and not reserved, the reserve included. -/
def borrowOk (h : Hub) (n : Nat) : Bool :=
  (groupsIn h).all (fun g => decide (groupReserved h g + perGroup h n ≤ groupFree h g))

/-- R127: the cells that a group lacks for a frame to pass both tests. -/
def shortOf (h : Hub) (p n g : Nat) : Int :=
  let m : Int := perGroup h n
  max ((poolUse h p g : Int) + m - getN h (Obj.CELL_QUOTA p))
    (m + getN h Obj.HEADROOM_CELLS - ((groupFree h g : Int) - groupReserved h g))

/-- R510: the reservations that an admission takes. -/
def reservations (h : Hub) (n : Nat) : SMap Nat := (groupsIn h).map (fun g => (g, perGroup h n))

/-- R103: cells that pools hold above their quotas. -/
def borrowed (h : Hub) : Nat :=
  sumOf (fun p => sumOf (fun g => poolUse h p g - getN h (Obj.CELL_QUOTA p)) (groupsIn h)) (List.range 16)

/-- R103: a pool whose use has fallen back to its quota ends its borrowing. -/
def endBorrowing (h : Hub) : Hub :=
  { h with hearth := { h.hearth with borrowing := h.hearth.borrowing.filter (fun p =>
      (groupsIn h).any (fun g => decide (poolUse h p g > getN h (Obj.CELL_QUOTA p)))) } }

/-- R109, R111: the peaks follow the counts. -/
def notePeaks (h : Hub) (pool : Nat) : Hub :=
  peak (peak h Obj.OCCUPANCY_PEAK (occupancy h)) (Obj.CELLS_PEAK pool) (poolCells h pool)

/-- R100: a quota write is refused if afterwards the sum would not hold: the new value of one quota object. -/
def quotaSumOk (h : Hub) (k v : Nat) : Bool :=
  let h := setN h k v
  let ps := List.range 16
  decide (sumOf (fun p => getN h (Obj.CELL_QUOTA p)) ps + getN h Obj.HEADROOM_CELLS
    + ceilDiv (sumOf (fun p => getN h (Obj.CHUNK_QUOTA p)) ps) 2 ≤ h.part.rows)

end Sys2Proof.Machine
end

