-- ==== Sys2Proof/Machine/Grate.lean ====
section
/-! DEFINITION. The Grate's frames, references and ports: who holds which cells, how a reference is dropped or delivered
and counted once (R16, R129, R130), port state and port down (R131), and a bank group's leaving service (R107). -/

namespace Sys2Proof.Machine

/-! Frames and references -/

def findFrame (h : Hub) (id : Nat) : Option GFrame := h.grate.frames.find? (fun f => f.id == id)

def setGrate (h : Hub) (f : Grate → Grate) : Hub := { h with grate := f h.grate }

/-- Replace a frame's record. -/
def putFrame (h : Hub) (f : GFrame) : Hub :=
  setGrate h (fun g => { g with frames := g.frames.map (fun x => if x.id == f.id then f else x) })

/-- R156: the leaf queue that a reference goes to, its subscriber, and its class. -/
def leafOf (q : Nat) : Nat := q % 8192
def qSub (q : Nat) : Nat := leafOf q / 8
def qCls (q : Nat) : Nat := q % 8

/-- R156: the Grate port of a subscriber, the lower member of a bonded pair; a service v lies at port floor(v / 8). -/
def subPort (h : Hub) (u : Nat) : Nat := bondBase (getN h (at_ u Obj.SB_SERVICE) / 8)

/-- A leaf queue's frames, oldest first; a frame with two references in one queue stands in it twice. -/
def queueOf (h : Hub) (q : Nat) : List Nat := mget h.grate.queues [] (leafOf q)

def setQueue (h : Hub) (q : Nat) (l : List Nat) : Hub :=
  setGrate h (fun g => { g with queues := if l.isEmpty then merase g.queues (leafOf q) else mset g.queues (leafOf q) l })

/-- R129: the reference by which a frame stands at the front of a leaf queue: the first that is still queued there. -/
def queuedRef (f : GFrame) (q : Nat) : Nat :=
  ((f.refs.find? (fun r => leafOf r.queue == leafOf q && r.st == .queued)).map (·.queue)).getD q

/-- R164: the deficits of subscriber `u`, once all of its leaf queues are empty, and of its service, once all of the service's
are, are 0. -/
def clearEmpty (h : Hub) (u : Nat) : Hub :=
  let subs := h.grate.queues.map (fun q => qSub q.1)
  let v := getN h (at_ u Obj.SB_SERVICE)
  let zero (mine : Nat → Bool) (k : Nat) (h : Hub) : Hub :=
    { h with damper := { h.damper with dwrr := h.damper.dwrr.map (fun x =>
        if mine x.1 then (x.1, { x.2 with defC := merase x.2.defC k, defE := merase x.2.defE k }) else x) } }
  if subs.contains u then h
  else
    let h := zero (fun k => k < 1000) u h
    if subs.any (fun w => getN h (at_ w Obj.SB_SERVICE) == v) then h else zero (fun k => 1000 ≤ k) v h

/-- A frame as it comes from outside: without the hub's own marks. -/
def fromOutside (f : Frame) : Frame := { f with credit := none, path := none }

/-- R141, R129: the leaf queue of a reference, when it is the one of the mirror copy. -/
def mirrorQueue (q : Nat) : Bool := decide (8192 ≤ q)

/-- R113: frames that the Grate has sent and that their attached unit has not accepted yet: at an isolation stage, or held because the unit
withholds acceptance. -/
def undelivered (h : Hub) : List GFrame :=
  h.grate.asleep.map (·.2.2) ++ h.usb4.held.flatMap (fun x => x.2.map (·.2)) ++ h.pcie.back.flatMap (·.2)

/-- R42, Tables 2.3 and 2.4: the unit that is attached to a Grate port lies on the P-die. -/
def onPdie (port : Nat) : Bool := !(port == 0 || (16 ≤ port && port ≤ 20) || port == 27 || port == 28)

/-- R26, R388: the domains through which a frame reaches the Flow Table slice of its Grate port, and through which it leaves: the seam to a
unit on the P-die, and the region logic of the port. -/
def ingressDomains (port : Nat) : List Nat := (if onPdie port then [61, 49] else []) ++ [41 + bondBase port / 4]

/-- R42, Table 21.1: the domains of the units that are attached to a Grate port. Which engine of GP0 takes a frame the manual does not say:
the model wakes the four domains of the complex. (DESIGN CHOICE, log 25) -/
def unitDomains (port : Nat) : List Nat :=
  if port == 0 then [32, 33, 34, 35]
  else if port == 1 || port == 2 then [50]
  else if 3 ≤ port && port ≤ 5 then [51]
  else if port == 6 then [55]
  else if 7 ≤ port && port ≤ 12 then [53]
  else if 13 ≤ port && port ≤ 15 then [54]
  else if port == 16 then [40]
  else if 17 ≤ port && port ≤ 20 then [36 + (port - 17)]
  else if 21 ≤ port && port ≤ 23 then [52]
  else if port == 24 || port == 25 then [56]
  else if port == 26 then [62]
  else []

/-- R42, R388: the domains that a frame for the unit at a Grate port is addressed to. -/
def attachedDomains (port : Nat) : List Nat := ingressDomains port ++ unitDomains port

/-- R42: those of some domains that a part has and that are not On. -/
def asleepOf (h : Hub) (ds : List Nat) : List Nat := ds.filter (fun d => domPresent h.part d && !domOn h d)

/-- R42: a request to domains that are not On wakes them. -/
def wakeAll (h : Hub) (ds : List Nat) : Hub := forEach ds h (fun h d => wakeDomain h d .grate)

/-- R16: the unit attached to a Grate port discards a frame that the Grate brought to it, and has no counter of its own for it: the frame
counts with those of ports that are down. (DESIGN CHOICE, log 25) -/
def unitAsh (h : Hub) (port cells : Nat) : Hub := addN (bump h (Obj.ASH_PORT_DOWN (bondBase port))) (Obj.ASH_CELLS (bondBase port)) cells

/-- R144: a frame's length in bytes. -/
def frameLen (h : Hub) (id : Nat) : Nat :=
  match findFrame h id with
  | some f => f.frame.len
  | none => 0

/-- The rows that wait for a cell to be freed get their relief row when it is (R107); RELIEF_ROW_TAKE does the taking. A
frame that ends returns its cells through *in transit* to the free lists of the groups in service and releases its
reservations (R105, R510); a multicast frame that reached one destination and missed another is counted (R130): the manual
does not say whether the mirror copy of a multicast frame is such a destination, and the model counts it as one
(DESIGN CHOICE, log 51). The stager of its port may have room again (R113). -/
def endFrame (h : Hub) (f : GFrame) : Hub :=
  let h := forEach f.written h (fun h c => if groupState h c.group == 0 then setFree h c.group (groupFree h c.group + 1) else h)
  let h := setGrate h (fun g => { g with
    frames := g.frames.filter (fun x => x.id != f.id)
    ingress := g.ingress.map (fun x => (x.1, x.2.filter (· != f.id))) })
  let h := whenH (f.multi && f.reached && f.dropped) h (fun h => bump h Obj.MC_PARTIAL)
  let p := bondBase f.inPort
  let h := whenH (decide (f.written.length < f.cells) && !(mget h.grate.atPort [] p).isEmpty) h (fun h => later h (.stagerRoom p))
  endBorrowing h

/-- R129: remove one reference; the removal granted last returns the cells. R194, R246: of a frame that only its mirror copy still holds,
the packet itself has left the hub or been discarded, and no longer holds a credit. -/
def removeRef (h : Hub) (id q : Nat) (reached : Bool) : Hub :=
  match findFrame h id with
  | none => h
  | some f =>
    let mine := f.refs.filter (fun r => r.queue == q)
    let ports := mine.map (·.port)
    let left := f.refs.filter (fun r => r.queue != q)
    let f := { f with
      refs := left
      frame := if left.all (fun r => mirrorQueue r.queue) then fromOutside f.frame else f.frame
      reached := f.reached || reached
      dropped := f.dropped || !reached }
    let h := if mine.any (fun r => r.st == .queued) then clearEmpty (setQueue h q ((queueOf h q).erase id)) (qSub q) else h
    let h := forEach ports h (fun h p => setGrate h (fun g => { g with
      taken := mset g.taken p ((mget g.taken [] p).filter (fun t => !(t.frame == id && t.queue == q)))
      win := mset g.win p ((mget g.win [] p).filter (fun w => !(w.frame == id && w.queue == q))) }))
    if f.refs.isEmpty then endFrame (putFrame h f) f else putFrame h f

/-- R16, R130: drop a reference and count it once, in one Ash counter of its destination port. ASH_CELLS, the cells that the Grate
discards at the port, rises by the cells that the frame has written: of a frame partly written the manual does not say more. (DESIGN CHOICE, log 51) -/
def dropRef (h : Hub) (id q ash : Nat) (port : Nat) : Hub :=
  let n := match findFrame h id with
    | some f => f.written.length
    | none => 0
  removeRef (addN (bump h ash) (Obj.ASH_CELLS port) n) id q false

/-- R248: a non-posted request that goes to a drive whose port is down is answered once, wherever it is discarded. -/
def answerNp (h : Hub) (port : Nat) (x : Headers) : Hub :=
  whenH ((port == 14 || port == 15) && isTlp x && tlpClass x == 1) h (fun h => later h (.npDropped port x))

/-- R131, R16, R248: a reference is dropped because its port is down. -/
def dropDown (h : Hub) (id q port : Nat) : Hub :=
  let x := (findFrame h id).map (·.frame.hdr)
  let h := dropRef h id q (Obj.ASH_PORT_DOWN port) port
  match x with
  | some x => answerNp h port x
  | none => h

/-! Ports -/

/-- R131: a member of the port is quarantined or mapped out, or disabled, or shed in
ride-through (R348), or its attached unit reports link loss. -/
def portBlocked (h : Hub) (p : Nat) : Bool :=
  !getB h (Obj.PORT_ENABLE p) || h.grate.shed.contains (bondBase p)
  || (bondMembers p).any (fun m => outOfService h (gpUnit m) || h.grate.linkLost.contains m)

/-- R132: PORT_STATE: 0 reserved, 1 up, 2 down, 3 flushing. -/
def portState (h : Hub) (p : Nat) : Nat :=
  if reservedPort p then 0
  else if h.grate.flushing.contains (bondBase p) then 3
  else if portBlocked h p then 2 else 1

/-- DEDUCED, log 25. -/
def portIsUp (h : Hub) (p : Nat) : Bool := h.part.has (gpUnit p) && portState h p == 1

/-- R14, R305: data that one unit hands another through the Grate, and that no frame of the subscribers carries: the cells of a head's line, and
what F2 sends on to the coder. It crosses where both ports are up; otherwise the port that is down discards it (R16). How it is cut into frames
the manual does not say: into the longest ones (R113). (DESIGN CHOICE, log 57) -/
def crossGrate (h : Hub) (from_ into bytes : Nat) : Bool × Hub :=
  let n := ceilDiv bytes 256
  let frames := ceilDiv bytes 16384
  let down (p : Nat) : Hub := addN (addN h (Obj.ASH_PORT_DOWN p) frames) (Obj.ASH_CELLS p) n
  if !portIsUp h from_ then (false, down from_)
  else if !portIsUp h into then (false, down into)
  else
    let h := addN (addN h (Obj.FRAMES_IN from_) frames) (Obj.CELLS_IN from_) n
    (true, addN (addN h (Obj.FRAMES_OUT into) frames) (Obj.CELLS_OUT into) n)

/-- R164: a port-down flush sets every deficit of the port to 0: those of its levels and services. -/
def clearDeficits (h : Hub) (p : Nat) : Hub :=
  let mine (k : Nat) := if k < 1000 then bondBase (k / 8) == p else bondBase ((k - 1000) / 8) == p
  { h with damper := { h.damper with dwrr := h.damper.dwrr.map (fun x => if mine x.1 then (x.1, { x.2 with defC := [], defE := [] }) else x) } }

/-- R131, R113: the frames for a port that its attached unit has not accepted are discarded with those in the port's queues. -/
def dropUndelivered (h : Hub) (p : Nat) : Hub :=
  let heldPort (k : Nat) : Nat := if k == 0 then 1 else k + 2
  let out := (h.grate.asleep.filter (fun x => x.1 == p)).map (·.2.2)
    ++ (h.usb4.held.filter (fun x => heldPort x.1 == p)).flatMap (fun x => x.2.map (·.2))
    ++ (h.pcie.back.filter (fun x => (x.1 == 1 || x.1 == 2) && 13 + x.1 == p)).flatMap (·.2)
  let holds := h.usb4.held.any (fun x => heldPort x.1 == p && !x.2.isEmpty)
  let h := { h with
    grate := { h.grate with
      asleep := h.grate.asleep.filter (fun x => x.1 != p)
      stalled := if holds then h.grate.stalled.filter (· != p) else h.grate.stalled }
    usb4 := { h.usb4 with held := h.usb4.held.filter (fun x => heldPort x.1 != p) }
    pcie := { h.pcie with back := h.pcie.back.filter (fun x => !((x.1 == 1 || x.1 == 2) && 13 + x.1 == p)) } }
  forEach out h (fun h f => answerNp (unitAsh h p f.cells) p f.frame.hdr)

/-- R131: the port goes down: it flushes. A frame partly written from it goes to Ash, and so do those that its attached unit
still holds unacknowledged (R113); every reference in its queues, taken or released, is removed, its resequencer is emptied,
and each frame is counted once in its ASH_PORT_DOWN: with it those that the attached unit has not accepted yet. A reference that is not
linked yet is discarded at its link. ASH_CELLS counts the cells that a frame partly written has written, and all of one that the port's
unit still holds or has not accepted: the manual does not say how many cells such a frame counts. (DESIGN CHOICE, log 51) -/
def portGoDown (h : Hub) (port : Nat) : Hub :=
  let p := bondBase port
  if h.grate.flushing.contains p then h
  else
    let ash := Obj.ASH_PORT_DOWN p
    let partly := h.grate.frames.filter (fun f => bondBase f.inPort == p && decide (f.written.length < f.cells))
    let h := forEach partly h (fun h f =>
      let h := addN (bump h ash) (Obj.ASH_CELLS p) f.written.length
      endFrame (putFrame h { f with refs := [] }) { f with refs := [] })
    let unacked := mget h.grate.atPort [] p
    let h := forEach unacked h (fun h x => addN (bump h ash) (Obj.ASH_CELLS p) (ceilDiv x.frame.len 256))
    let here (f : GFrame) : List Ref := f.refs.filter (fun r => r.port == p && r.st != .unlinked)
    let refs := h.grate.frames.flatMap (fun f => (here f).map (fun r => (f.id, r.queue)))
    let h := forEach refs h (fun h x => dropDown h x.1 x.2 p)
    let h := dropUndelivered h p
    let h := setGrate h (fun g => { g with
      atPort := merase g.atPort p
      frames := g.frames.map (fun f => { f with
        refs := f.refs.map (fun r =>
          if subPort h (qSub r.queue) == p && r.st == .unlinked then { r with port := p, lost := true } else r) }) })
    let h := clearDeficits h p
    setGrate h (fun g => { g with
      flushing := insertNew g.flushing p
      ingress := mset g.ingress p []
      win := mset g.win p []
      taken := mset g.taken p [] })

/-- R131: the flush ends: the port is down, or up if nothing blocks it any more; R119: numbering restarts at 0 for every
pair of a port that comes up. -/
def portComesUp (h : Hub) (port : Nat) : Hub :=
  let p := bondBase port
  let h := setGrate h (fun g => { g with seq := g.seq.filter (fun x => x.1 / 32 != p && x.1 % 32 != p) })
  if p == 13 && !h.nic.tx.isEmpty then later h .nicResume else h

def portFlushEnd (h : Hub) (port : Nat) : Hub :=
  let p := bondBase port
  if h.grate.flushing.contains p then
    let h := setGrate h (fun g => { g with flushing := g.flushing.filter (· != p) })
    if portBlocked h p then h else portComesUp h p
  else h

/-- What may have changed a port's blocking causes is carried out: `was` is whether it was blocked before. -/
def portFollow (h : Hub) (port : Nat) (was : Bool) : Hub :=
  let is := portBlocked h port
  if reservedPort port then h
  else if !was && is then portGoDown h port
  else if was && !is && !h.grate.flushing.contains (bondBase port) then portComesUp h port
  else h

/-- R352: after ride-through, a wake trigger returns a shed port to service: a frame that comes to it or is for it, or the wake of its
attached unit's domain. (DEDUCED, log 35) -/
def portTrigger (h : Hub) (port : Nat) : Hub :=
  if h.grate.shedEnds && h.grate.shed.contains (bondBase port) then
    portFollow (setGrate h (fun g => { g with shed := g.shed.filter (· != bondBase port) })) port (portBlocked h port)
  else h

/-- R131: link loss of an attached unit, and its return. (DEDUCED, log 26) -/
def linkDown (h : Hub) (port : Nat) : Hub :=
  let was := portBlocked h port
  portFollow (setGrate h (fun g => { g with linkLost := insertNew g.linkLost port })) port was

/-- DEDUCED, log 26. -/
def linkUp (h : Hub) (port : Nat) : Hub :=
  let was := portBlocked h port
  portFollow (setGrate h (fun g => { g with linkLost := g.linkLost.filter (· != port) })) port was

/-! Marked frames and groups (R97, R107, R506) -/

/-- R97: a frame with an uncorrectable error is discarded for every destination not yet sent, each reference counted in
ASH_ECC of its egress port. -/
def eccDiscard (h : Hub) (id : Nat) : Hub :=
  match findFrame h id with
  | none => h
  | some f => forEach f.refs h (fun h r => dropRef h id r.queue (Obj.ASH_ECC r.port) r.port)

/-- R117, R510: a frame that could not be written whole without group g: its other reservations do not cover the cells
that it has still to write. (DESIGN CHOICE, log 24) -/
def stuckWithout (f : GFrame) (g : Nat) : Bool :=
  decide (f.written.length + sumOf (fun x => x.2) (merase f.reserved g) < f.cells)

/-- R107, R506, R507: bank group g leaves service with state `st`: its frames are discarded, its free list is no one's,
and its pieces are served from relief rows of the partner group. The relief rows that it held for a partner out of service are lost with
it. The coder marks the tiles (a reaction). (DESIGN CHOICE, log 24) -/
def groupLeave (h : Hub) (g st : Nat) : Hub :=
  if groupState h g == st then h
  else
    let was := groupState h g
    let h := { h with hearth := { h.hearth with groupState := mset h.hearth.groupState g st } }
    if was != 0 then h
    else
      let hit := (h.grate.frames.filter (fun f => f.written.any (fun c => c.group == g) || stuckWithout f g)).map (·.id)
      let h := forEach hit h eccDiscard
      let h := setGrate h (fun x => { x with frames := x.frames.map (fun f => { f with reserved := merase f.reserved g }) })
      let h := setFree h g 0
      let h := { h with hearth := { h.hearth with
        relief := h.hearth.relief.filter (fun r => r.1 != g), reliefWait := h.hearth.reliefWait.filter (fun r => r.1 != g) } }
      let h := forEach (h.hearth.chunks.filter (fun c => c.1 % 2 == g / 16)) h (fun h c => needRelief h g (c.1 / 2))
      later (if groupState h (Nat.xor g 16) != 0 then later h (.groupLost (Nat.xor g 16)) else h) (.groupLost g)

/-- R507, R389: a group rejoins the schedule: its banks are zeroed, its free list rebuilt, its relief rows returned. A partner
that is still out of service takes its own relief rows in it. -/
def groupRejoin (h : Hub) (g : Nat) : Hub :=
  let p := Nat.xor g 16
  let mine := (h.hearth.chunks.filter (fun c => c.1 % 2 == g / 16)).map (fun c => (p, h.part.rows - 1 - c.1 / 2))
  let back := (h.hearth.relief.filter (fun r => mine.contains r)).length
  let h := { h with hearth := { h.hearth with
    groupState := mset h.hearth.groupState g 0
    relief := h.hearth.relief.filter (fun r => !mine.contains r)
    reliefWait := h.hearth.reliefWait.filter (fun r => !mine.contains r) } }
  let h := if groupState h p == 0 then setFree h p (groupFree h p + back) else h
  let h := setFree { h with zeroed := insertNew h.zeroed g } g (h.part.rows - groupSurface h g)
  let h := if groupState h p == 0 then h
    else later (forEach (h.hearth.chunks.filter (fun c => c.1 % 2 == p / 16)) h (fun h c => needRelief h p (c.1 / 2))) (.groupLost p)
  later h (.groupLost g)

/-! ECC (R97) -/

/-- R97: what a read finds in one word. -/
structure EccRead where
  /-- the read is uncorrected: its frame is marked, or its completion poisoned -/
  bad : Bool := false
  /-- words (group, bank, row) of which the read returns other bytes than the Hearth holds, with those bytes -/
  wrong : List (Nat × Nat × Nat × List Byte) := []
deriving DecidableEq, Repr, Inhabited

/-- R97: a word one of whose quarters the code has corrected wrongly or taken for right: that quarter's bytes are free values. (DESIGN CHOICE, log 8) -/
def brokenWord (h : Hub) (was : List Byte) : List Byte :=
  let q := Config.freeNat (h.fresh + 1) % 4
  (List.range 32).map (fun i => if i / 8 == q then Config.freeByte (h.fresh + 2 + i) else (was[i]?).getD 0)

/-- R97: a double-bit error of a bank is counted and flagged. -/
def uncorrectable (h : Hub) (g b : Nat) : Hub :=
  report (setFlag (bump (bump h Obj.ECC_UNCORRECTED) (at_ g (Obj.BANK_UE b))) Obj.ECC_UE_FLAG) 0x1101 (bankUnit (8 * g + b))

/-- R97: one error that a read finds in a word that holds `was`. A single-bit error is corrected, counted and written back later;
a double-bit error is counted and flagged; of three or more bits the manual promises nothing: a free value says whether it is
taken for a double-bit error, corrected wrongly, so that a wrong word is returned and written back, or not seen. (DESIGN CHOICE, log 8) -/
def eccError (h : Hub) (e : EccError) (portB : Bool) (was : List Byte) : EccRead × Hub :=
  let kind := if e.bits == 1 then 1 else if e.bits == 2 then 2 else Config.freeNat h.fresh % 3
  let word := brokenWord h was
  let wrong : List (Nat × Nat × Nat × List Byte) := if e.bits ≤ 2 then [] else [(e.group, e.bank, e.row, word)]
  let h := if e.bits ≤ 2 then h else ticks h 34
  if kind == 1 then
    let h := bump (bump h Obj.ECC_CORRECTED) (at_ e.group (Obj.BANK_CE e.bank))
    let w : WriteBack := ⟨portB, e.group, e.bank, e.row, if e.bits ≤ 2 then none else some word⟩
    let h := { h with hearth := { h.hearth with writeBacks := h.hearth.writeBacks ++ [w] } }
    ({ wrong := wrong }, report h 0x1102 (bankUnit (8 * e.group + e.bank)))
  else if kind == 2 then
    ({ bad := true }, uncorrectable h e.group e.bank)
  else ({ wrong := wrong }, h)

/-- R97: the errors of one read, each in the word that `word` gives by group, bank and row. -/
def eccErrors (h : Hub) (es : List EccError) (portB : Bool) (word : Nat → Nat → Nat → List Byte) : EccRead × Hub :=
  es.foldl (fun x e =>
    let (r, h) := eccError x.2 e portB (word e.group e.bank e.row)
    ({ bad := x.1.bad || r.bad, wrong := x.1.wrong ++ r.wrong }, h)) ({}, h)

/-- The byte that a read returns, where the Hearth holds `b` at address `a`. -/
def EccRead.byte (r : EccRead) (a : Nat) (b : Byte) : Byte :=
  match r.wrong.find? (fun w => wordAddr w.1 w.2.1 w.2.2.1 == a / 32 * 32) with
  | some w => (w.2.2.2[a % 32]?).getD 0
  | none => b

/-- R97: a write to a word granted after the failing read drops the word's write-back. -/
def dropWriteBack (h : Hub) (group bank row : Nat) : Hub :=
  let same (w : WriteBack) : Bool := w.group == group && w.bank == bank && w.row == row
  { h with hearth := { h.hearth with writeBacks := h.hearth.writeBacks.filter (fun w => !same w) } }

/-! Reading and writing the Hearth's content -/

/-- The byte that a read in this command finds: what the command has written, or zeroed, or the Hearth's content. -/
def liveByte (m : List Host.Cell) (h : Hub) (a : Nat) : Byte :=
  match h.stores.reverse.find? (fun x => x.1 == a) with
  | some x => x.2
  | none => if h.zeroed.contains (a / 256 % 32) then 0 else memByte m a

/-- The word of a bank. -/
def liveWord (m : List Host.Cell) (h : Hub) (group bank row : Nat) : List Byte :=
  (List.range 32).map (fun i => liveByte m h (wordAddr group bank row + i))

end Sys2Proof.Machine
end

