-- ==== Sys2Proof/Machine/Damper.lean ====
section
/-! DEFINITION. Damper: token buckets (R145, R159-R161, R169), linking (R157), gate control lists (R171-R175), the release
decision (R164), release (R120) and the express path's tests (R166), and what a shaper COMMIT does (R167, R168). -/

namespace Sys2Proof.Machine

/-! Buckets -/

/-- R145: one byte in the units of a bucket. (DEDUCED, log 27) -/
def byteUnit : Nat := 8000000

/-- R145, R159: refill at `rate` kbit/s up to network time `now`, capped at the size. (DEDUCED, log 27) -/
def refill (b : Bucket) (rate size now : Nat) : Bucket :=
  { tok := min (b.tok + (rate * (now - b.last) : Nat)) ((size * byteUnit : Nat) : Int), last := now }

/-- R160: a bucket admits when its rate is non-zero and it holds 0 or more. -/
def bucketAdmits (b : Bucket) (rate : Nat) : Bool := rate != 0 && decide (0 ≤ b.tok)

/-- R161: debit a length in bytes. -/
def debit (b : Bucket) (n : Nat) : Bucket := { b with tok := b.tok - ((n * byteUnit : Nat) : Int) }

/-- R169: the whole bytes a bucket holds. -/
def wholeBytes (b : Bucket) : Int := b.tok / (byteUnit : Nat)

/-- R148, R167: clamp to a new size. -/
def clampTo (b : Bucket) (size : Nat) : Bucket := { b with tok := min b.tok ((size * byteUnit : Nat) : Int) }

/-- R159: the buckets of subscriber u, refilled to now. (DEDUCED, log 27) -/
def subBuckets (h : Hub) (u : Nat) : Buckets :=
  let b := mget h.damper.subs {} u
  { a := refill b.a (getN h (at_ u Obj.SB_CIR)) (getN h (at_ u Obj.SB_CBS)) h.cNet
    b := refill b.b (getN h (at_ u Obj.SB_EIR)) (getN h (at_ u Obj.SB_EBS)) h.cNet }

/-- R159: the buckets of service v, refilled to now. -/
def svcBuckets (h : Hub) (v : Nat) : Buckets :=
  let b := mget h.damper.svcs {} v
  { a := refill b.a (getN h (at_ v Obj.SV_CIR)) (getN h (at_ v Obj.SV_CBS)) h.cNet
    b := refill b.b (getN h (at_ v Obj.SV_EIR)) (getN h (at_ v Obj.SV_EBS)) h.cNet }

/-- R159: the bucket of port p, refilled to now. -/
def portBucket (h : Hub) (p : Nat) : Bucket :=
  refill (mget h.damper.ports {} p) (getN h (at_ p Obj.PT_RATE)) (getN h (at_ p Obj.PT_BURST)) h.cNet

def setDamper (h : Hub) (f : Damper → Damper) : Hub := { h with damper := f h.damper }

/-- A round: committed or excess. -/
def pickBucket (b : Buckets) (excess : Bool) : Bucket := if excess then b.b else b.a

def subAdmits (h : Hub) (u : Nat) (excess : Bool) : Bool :=
  bucketAdmits (pickBucket (subBuckets h u) excess) (getN h (at_ u (if excess then Obj.SB_EIR else Obj.SB_CIR)))

def svcAdmits (h : Hub) (v : Nat) (excess : Bool) : Bool :=
  bucketAdmits (pickBucket (svcBuckets h v) excess) (getN h (at_ v (if excess then Obj.SV_EIR else Obj.SV_CIR)))

/-- R161: debit one bucket of a subscriber and of a service, and the port's if it is in use. -/
def debitSub (h : Hub) (u : Nat) (excess : Bool) (n : Nat) : Hub :=
  let b := subBuckets h u
  let b := if excess then { b with b := debit b.b n } else { b with a := debit b.a n }
  let h := setDamper h (fun d => { d with subs := mset d.subs u b })
  addN h (at_ u (if excess then Obj.SB_EXCESS_BYTES else Obj.SB_COMMITTED_BYTES)) n

def debitSvc (h : Hub) (v : Nat) (excess : Bool) (n : Nat) : Hub :=
  let b := svcBuckets h v
  let b := if excess then { b with b := debit b.b n } else { b with a := debit b.a n }
  let h := setDamper h (fun d => { d with svcs := mset d.svcs v b })
  addN h (at_ v (if excess then Obj.SV_EXCESS_BYTES else Obj.SV_COMMITTED_BYTES)) n

def debitPort (h : Hub) (p n : Nat) : Hub :=
  if getB h (at_ p Obj.PT_SHAPE_ENABLE) then
    let b := debit (portBucket h p) n
    setDamper h (fun d => { d with ports := mset d.ports p b })
  else h

/-- R158: the shaping length of a frame of `len` bytes at a port. -/
def shapeLen (h : Hub) (p len : Nat) : Nat := ((len : Int) + getI h (at_ p Obj.PT_LEN_ADJUST)).toNat

/-! Linking (R157, R131) -/

/-- Bytes of a leaf queue. -/
def queueBytes (h : Hub) (q : Nat) : Nat := sumOf (frameLen h) (queueOf h q)

/-- R157, R131: link one reference into its leaf queue, or discard it once: the port is down, or the subscriber is
disabled. -/
def linkRef (h : Hub) (id q : Nat) : Hub :=
  match findFrame h id with
  | none => h
  | some f =>
    let u := qSub q
    let p := subPort h u
    let r := (f.refs.find? (fun r => r.queue == q)).getD default
    if r.lost then dropDown h id q r.port
    else if !portIsUp h p then dropDown h id q p
    else if !getB h (at_ u Obj.SB_ENABLE) then removeRef (bump h (at_ p Obj.PT_ASH_DISABLED)) id q false
    else
      let f := { f with refs := f.refs.map (fun r => if r.queue == q then { r with port := p, st := .queued } else r) }
      let h := setQueue (putFrame h f) q (queueOf h q ++ [id])
      let h := addN h (at_ u Obj.SB_ENQUEUED_BYTES) f.frame.len
      peak h (at_ (leafOf q) Obj.Q_PEAK_BYTES) (queueBytes h q)

/-- R120: link every reference of a frame whose last cell is written. -/
def linkFrame (h : Hub) (id : Nat) : Hub :=
  match findFrame h id with
  | none => h
  | some f =>
    let h := putFrame h { f with reserved := [] }
    forEach (f.refs.filter (fun r => r.st == .unlinked)) h (fun h r => linkRef h id r.queue)

/-! Gate control lists (R171-R175) -/

/-- R171: the segments of one cycle: entries cut at the end of the cycle, the last one held to it. (DEDUCED, log 28) -/
def segsFrom (left : Nat) : List (Nat × Nat) → List (Nat × Nat)
  | [] => []
  | (m, d) :: r =>
    if left == 0 then []
    else if r.isEmpty then [(m, left)]
    else (m, min d left) :: segsFrom (left - min d left) r

def gateSegs (g : GateList) : List (Nat × Nat) := segsFrom g.cycle g.entries

/-- The mask in force `off` ns into a cycle, and how long it still holds. -/
def segAt : List (Nat × Nat) → Nat → Nat × Nat
  | [], _ => (0xFF, 1)
  | (m, d) :: r, off => if off < d then (m, d - off) else segAt r (off - d)

/-- R171: the gate mask in force at a time, and the time at which its entry ends. -/
def maskAt (g : GateList) (t : Nat) : Nat × Nat :=
  let s := segAt (gateSegs g) ((t - g.base) % g.cycle)
  (s.1, t + s.2)

/-- R172: the gate of index j is open over [a, b]; once a whole cycle has been open, it always is. -/
def openOver (g : GateList) (j b : Nat) : Nat → Nat → Bool
  | 0, _ => true
  | n + 1, a =>
    let s := maskAt g a
    bitOf s.1 j && (decide (b ≤ s.2) || openOver g j b n s.2)

def gateOpen (g : GateList) (j a b : Nat) : Bool :=
  !g.enable || openOver g j b (2 * g.entries.length + 2) a

/-- R172: open over an interval that may span pending swaps. (DEDUCED, log 28) -/
def gateOpenSwaps (g : GateList) (j : Nat) : List (Nat × GateList) → Nat → Nat → Bool
  | [], a, b => gateOpen g j a b
  | (t, n) :: r, a, b =>
    if b ≤ t then gateOpen g j a b
    else if t ≤ a then gateOpenSwaps n j r a b
    else gateOpen g j a t && gateOpenSwaps n j r t b

/-- The operational list of a port. -/
def operList (h : Hub) (p : Nat) : GateList := mget h.damper.oper {} p

/-- R171: a list is in operation at the port. -/
def gated (h : Hub) (p : Nat) : Bool := (operList h p).enable

/-- R13: Grate ports whose attached unit has a link of its own. -/
def linkPort (p : Nat) : Bool := [1, 2, 3, 4, 5, 7, 8, 9, 10, 11, 12, 14, 15, 21, 22, 23, 24, 25].contains p

/-- R179: PT_LINE_RATE: from the attached unit's link, 0 while it is down; the members of a bonded pair have one link. (DESIGN CHOICE, log 9; DEDUCED, log 26) -/
def lineRate (h : Hub) (p : Nat) : Nat :=
  if (bondMembers p).any h.grate.linkLost.contains then 0
  else match mget? h.damper.lineRate (bondBase p) with
  | some r => r
  | none => if linkPort p then 0 else Config.internalRate p

/-- The attached unit's link now runs at a rate (0: down). -/
def setLineRate (h : Hub) (p r : Nat) : Hub := setDamper h (fun d => { d with lineRate := mset d.lineRate (bondBase p) r })

/-- R172: the time a frame of shaping length W takes, in ns rounded up. -/
def sendTime (h : Hub) (p w : Nat) : Nat := ceilDiv (w * byteUnit) (lineRate h p)

/-- R173: the gate lists of a port from the oldest that an outstanding launch time may fall under: that list, and the swaps that follow
it, past and pending, by time. -/
def swapChain (oper : GateList) (pending : List (Nat × GateList)) : List (Nat × GateList) → GateList × List (Nat × GateList)
  | [] => (oper, pending)
  | (b, g) :: r =>
    let (x, s) := swapChain oper pending r
    (g, (b, x) :: s)

/-- R172: a frame of shaping length `w` of service `v` fits at the launch time. (DEDUCED, log 28) -/
def gateFits (h : Hub) (p v w : Nat) : Bool :=
  let g := operList h p
  let m := getN h Obj.GATE_MARGIN
  let l := h.cNet + g.lead
  !g.enable || gateOpenSwaps g (v % 8) (mget h.damper.pending [] p) (l - m) (l + sendTime h p w + m)

/-- The list that pending swaps leave in force at a time. -/
def listAt (g : GateList) : List (Nat × GateList) → Nat → GateList
  | [], _ => g
  | (t, n) :: r, a => if t ≤ a then listAt n r a else g

/-- R163: the gate of index j is open at the launch time, by the list that is in force then. (DEDUCED, log 28) -/
def gateOpenAt (h : Hub) (p j : Nat) : Bool :=
  let g := operList h p
  let l := h.cNet + g.lead
  let x := listAt g (mget h.damper.pending [] p) l
  !g.enable || !x.enable || bitOf (maskAt x l).1 j

/-- The longest run of open segments, going round the cycle once more. -/
def longestRun (j : Nat) : List (Nat × Nat) → Nat → Nat → Nat
  | [], cur, best => max cur best
  | (m, d) :: r, cur, best => if bitOf m j then longestRun j r (cur + d) best else longestRun j r 0 (max cur best)

/-- R173: a frame can never fit its gate. -/
def neverFits (h : Hub) (p v w : Nat) : Bool :=
  let g := operList h p
  let s := gateSegs g
  g.enable && !(s.all (fun x => bitOf x.1 (v % 8)))
    && decide (sendTime h p w + 2 * getN h Obj.GATE_MARGIN > longestRun (v % 8) (s ++ s) 0 0)

/-! Choosing a frame (R163, R164) -/

/-- Subscribers that have a frame in a leaf queue, ascending. -/
def waitingSubs (h : Hub) : List Nat := (h.grate.queues.map (fun q => qSub q.1)).eraseDups

/-- R163: the highest-numbered non-empty leaf queue of a subscriber, and its oldest frame. -/
def headOf (h : Hub) (u : Nat) : Option (Nat × Nat) :=
  ((List.range 8).reverse.map (fun c => 8 * u + c)).findSome? (fun q => (queueOf h q).head?.map (fun id => (q, id)))

/-- The service of a subscriber. -/
def svcOf (h : Hub) (u : Nat) : Nat := getN h (at_ u Obj.SB_SERVICE)

/-- R158: shaping length of a subscriber's head frame. -/
def subHeadLen (h : Hub) (p u : Nat) : Nat :=
  match headOf h u with
  | some (_, id) => shapeLen h p (frameLen h id)
  | none => 0

/-- R163: a subscriber is eligible in a round. -/
def subEligible (h : Hub) (p u : Nat) (excess : Bool) : Bool :=
  getB h (at_ u Obj.SB_ENABLE) && (headOf h u).isSome && subAdmits h u excess && gateFits h p (svcOf h u) (subHeadLen h p u)

/-- The eligible subscribers of a service in a round, ascending. -/
def eligibleSubs (h : Hub) (p v : Nat) (excess : Bool) : List Nat :=
  (waitingSubs h).filter (fun u => svcOf h u == v && subEligible h p u excess)

/-- R163: a service is eligible in a round. -/
def svcEligible (h : Hub) (p v : Nat) (excess : Bool) : Bool :=
  svcAdmits h v excess && gateOpenAt h p (v % 8)
  && !((eligibleSubs h p v false).isEmpty && (eligibleSubs h p v true).isEmpty)

/-- R164: the first member after x in cyclic order; the lowest if there is none after it. -/
def nextAfter (e : List Nat) (x : Nat) : Nat :=
  match e.find? (fun y => decide (x < y)) with
  | some y => y
  | none => e.headD 0

/-- R164: the loop of dwrr: add quanta round the members until one's deficit covers its head. -/
def dwrrLoop (e : List Nat) (quantum len : Nat → Nat) : Nat → Nat → SMap Int → Nat × SMap Int
  | 0, x, d => (x, d)
  | n + 1, x, d =>
    let c := mget d 0 x
    if c ≥ (len x : Int) then (x, mset d x (c - len x))
    else
      let y := nextAfter e x
      dwrrLoop e quantum len n y (mset d y (mget d 0 y + quantum y))

/-- R164: dwrr at a node in a round: the member chosen and the node afterwards. Every quantum is at least 1,024 and no
head is longer than 16,448 bytes, so 17 rounds of the members always suffice. -/
def dwrrPick (n : Dwrr) (excess : Bool) (e : List Nat) (quantum len : Nat → Nat) : Option (Nat × Dwrr) :=
  if e.isEmpty then none
  else
    let ptr := if excess then n.ptrE else n.ptrC
    let d := if excess then n.defE else n.defC
    let inE := match ptr with
      | some x => e.contains x
      | none => false
    let x := if inE then ptr.getD 0 else match ptr with
      | some x => nextAfter e x
      | none => e.headD 0
    let d := if inE then d else mset d x (mget d 0 x + quantum x)
    let (y, d) := dwrrLoop e quantum len (18 * e.length + 1) x d
    some (y, if excess then { n with ptrE := some y, defE := d } else { n with ptrC := some y, defC := d })

def subQuantum (h : Hub) (u : Nat) : Nat := getN h (at_ u Obj.SB_WEIGHT) * getN h Obj.QUANTUM_UNIT
def svcQuantum (h : Hub) (p v : Nat) : Nat :=
  (if getB h (at_ p Obj.PT_DWRR) then getN h (at_ v Obj.SV_WEIGHT) else 1) * getN h Obj.QUANTUM_UNIT

/-- R164: the subscriber that a service would yield: committed before excess. -/
def pickSub (h : Hub) (p v : Nat) : Option (Nat × Bool × Dwrr) :=
  let node := mget h.damper.dwrr {} v
  let one (x : Bool) := (dwrrPick node x (eligibleSubs h p v x) (subQuantum h) (subHeadLen h p)).map (fun r => (r.1, x, r.2))
  (one false).orElse (fun _ => one true)

/-- The shaping length of the frame a service would yield. -/
def svcHeadLen (h : Hub) (p v : Nat) : Nat :=
  match pickSub h p v with
  | some (u, _, _) => subHeadLen h p u
  | none => 0

/-- The services of a port: those of both members of a bonded pair. -/
def portSvcs (p : Nat) : List Nat := (bondMembers p).flatMap (fun m => (List.range 8).map (fun j => 8 * m + j))

/-- R164: a choice: service with its round, subscriber with its round, and both nodes afterwards. -/
structure Choice where
  svc : Nat
  rnd : Bool
  sub : Nat
  srnd : Bool
  level : Nat
  svcNode : Dwrr
  subNode : Dwrr
deriving DecidableEq, Repr, Inhabited

/-- R164: one round at one level. -/
def chooseAt (h : Hub) (p : Nat) (rnd : Bool) (level : Nat) : Option Choice :=
  let e := (portSvcs p).filter (fun v => svcEligible h p v rnd && getN h (at_ v Obj.SV_PRIORITY) == level)
  match dwrrPick (mget h.damper.dwrr {} (1000 + 8 * p + level)) rnd e (svcQuantum h p) (svcHeadLen h p) with
  | none => none
  | some (v, n) =>
    match pickSub h p v with
    | none => none
    | some (u, s, m) => some ⟨v, rnd, u, s, level, n, m⟩

/-- R164: the whole choice: committed before excess, level 7 before 0. -/
def choose (h : Hub) (p : Nat) : Option Choice :=
  [false, true].findSome? (fun rnd => (List.range 8).reverse.findSome? (fun l => chooseAt h p rnd l))

/-- R166, R161, R176, R180: what taking or expressing a frame of `len` bytes counts and debits. -/
def chargeTake (h : Hub) (p v u q len : Nat) (rnd srnd : Bool) : Hub :=
  let w := shapeLen h p len
  let h := debitPort (debitSvc (debitSub h u srnd w) v rnd w) p w
  let h := addN (bump h (at_ q Obj.Q_SENT_FRAMES)) (at_ q Obj.Q_SENT_BYTES) len
  bump (bump h Obj.TAKEN_FRAMES) (at_ p Obj.PT_TAKEN_FRAMES)

/-- R162: take the chosen subscriber's head frame. -/
def takeFrame (h : Hub) (p : Nat) (c : Choice) : Hub :=
  match headOf h c.sub with
  | none => h
  | some (q, id) =>
    match findFrame h id with
    | none => h
    | some f =>
      let launch := if gated h p then some (h.cNet + (operList h p).lead) else none
      let h := chargeTake h p c.svc c.sub q f.frame.len c.rnd c.srnd
      let h := setDamper h (fun d => { d with dwrr := mset (mset d.dwrr (1000 + 8 * p + c.level) c.svcNode) c.svc c.subNode })
      let h := setQueue h q ((queueOf h q).drop 1)
      let q' := queuedRef f q
      let h := putFrame h { f with refs := f.refs.map (fun r => if r.queue == q' then { r with st := .taken, launch := launch } else r) }
      let h := setGrate h (fun g => { g with taken := mset g.taken p (mget g.taken [] p ++ [⟨id, q'⟩]) })
      clearEmpty h c.sub

/-- R173: discard, at the head of its queue, a frame that can never fit its gate. -/
def dropOversize (h : Hub) (p : Nat) : Hub :=
  forEach ((waitingSubs h).filter (fun u => subPort h u == p)) h (fun h u =>
    match headOf h u with
    | none => h
    | some (q, id) =>
      if neverFits h p (svcOf h u) (subHeadLen h p u) then removeRef (bump h (at_ p Obj.ASH_GATE_OVERSIZE)) id (queuedRef ((findFrame h id).getD default) q) false else h)

/-- R164: a release decision of a port. Of a bonded pair, which is one queue set (R112), the fields of the port window (PT_*) and the
gate list of the lower member govern, for the services of both members; what is written at the upper member is held, swapped in and read,
and has no effect: the manual does not say which member's count. (DESIGN CHOICE, log 51) -/
def decideRelease (h : Hub) (port : Nat) : Hub :=
  let p := bondBase port
  let h := dropOversize h p
  if (mget h.grate.taken [] p).length ≥ (bondMembers p).length then h
  else if !portIsUp h p then h
  else if getB h (at_ p Obj.PT_SHAPE_ENABLE) && decide ((portBucket h p).tok < 0) then h
  else match choose h p with
    | none => h
    | some c => takeFrame h p c

/-- R120, R162: release the oldest taken frame once the resequencing window has room for all of its cells. -/
def releaseTaken (h : Hub) (port : Nat) : Hub :=
  let p := bondBase port
  match (mget h.grate.taken [] p) with
  | [] => h
  | t :: r =>
    match findFrame h t.frame with
    | none => setGrate h (fun g => { g with taken := mset g.taken p r })
    | some f =>
      let w := mget h.grate.win [] p
      if w.length + f.cells > 64 then h
      else
        let cs := f.written.map (fun c => { frame := f.id, queue := t.queue, idx := c.idx, group := c.group, row := c.row, seq := c.seq : WinCell })
        let h := putFrame h { f with refs := f.refs.map (fun x => if x.queue == t.queue then { x with st := .released, releasedAt := getN h Obj.STEPS } else x) }
        let h := setGrate h (fun g => { g with taken := mset g.taken p r, win := mset g.win p (w ++ cs) })
        peak h (Obj.RESEQ_PEAK p) (w.length + f.cells)

/-! The express path's tests (R166) -/

/-- R166: no queued or taken frame at the port, and no list in operation. -/
def portIdle (h : Hub) (p : Nat) : Bool :=
  (mget h.grate.taken [] p).isEmpty && !gated h p && !((waitingSubs h).any (fun u => subPort h u == p))

/-- R166: the rounds in which subscriber and service would be eligible, committed before excess. -/
def expressRounds (h : Hub) (p u : Nat) : Option (Bool × Bool) :=
  let one (f : Bool → Bool) : Option Bool := if f false then some false else if f true then some true else none
  if getB h (at_ p Obj.PT_SHAPE_ENABLE) && decide ((portBucket h p).tok < 0) then none
  else match one (svcAdmits h (svcOf h u)), one (subAdmits h u) with
    | some a, some b => some (a, b)
    | _, _ => none

/-! COMMITs of shapers (R167, R168) -/

/-- R168: frames that a subscriber holds queued or taken, until the attached unit has accepted them or they are discarded. -/
def subHolds (h : Hub) (u : Nat) : Bool :=
  (h.grate.frames ++ undelivered h).any (fun f => f.refs.any (fun r => qSub r.queue == u && r.st != .unlinked))

/-- R142: the members of a multicast group. -/
def mcMembers (h : Hub) (m : Nat) : List Nat :=
  (List.range (getN h (at_ m Obj.M_COUNT))).map (fun i => getN h (at_ m (Obj.M_MEMBER i)))

/-- R168, detail 0x82: a group in which another member sits at the new port. -/
def mcClash (h h' : Hub) (u : Nat) : Bool :=
  (h.dict.filter (fun x => x.1 % 0x1000000 == Obj.M_COUNT)).any (fun x =>
    let ms := mcMembers h (keyPos x.1)
    ms.contains u && ms.any (fun w => w != u && subPort h w == subPort h' u))

/-- R168: why a subscriber COMMIT from state `h` to state `h'` is refused. -/
def subCheck (h h' : Hub) (u : Nat) : Option Abort :=
  let p := svcOf h' u / 8
  let moved := svcOf h u != svcOf h' u
  if p == 27 || reservedPort p || !h.part.has (gpUnit p) then some (.table 0x80)
  else if (moved || getN h (at_ u Obj.SB_POOL) != getN h' (at_ u Obj.SB_POOL)) && subHolds h u then some (.table 0x81)
  else if moved && mcClash h h' u then some (.table 0x82)
  else none

/-- R157: a disable sends every frame the subscriber holds in its queues to Ash. -/
def flushSub (h : Hub) (u : Nat) : Hub :=
  let p := subPort h u
  forEach ((List.range 8).flatMap (fun c => (queueOf h (8 * u + c)).map (fun id => (id, 8 * u + c)))) h
    (fun h x => removeRef (bump h (at_ p Obj.PT_ASH_DISABLED)) x.1 (queuedRef ((findFrame h x.1).getD default) x.2) false)

/-- R167, R159, R157: what a subscriber COMMIT from `h` to `h'` does besides the fields: old rates up to now, the clamp,
empty buckets for a node newly enabled, the flush of one disabled. -/
def subApply (h h' : Hub) (u : Nat) : Hub :=
  let b := subBuckets h u
  let b := { a := clampTo b.a (getN h' (at_ u Obj.SB_CBS)), b := clampTo b.b (getN h' (at_ u Obj.SB_EBS)) : Buckets }
  let on := getB h (at_ u Obj.SB_ENABLE)
  let on' := getB h' (at_ u Obj.SB_ENABLE)
  let b := if !on && on' then { a := ⟨0, h.cNet⟩, b := ⟨0, h.cNet⟩ } else b
  let h' := setDamper h' (fun d => { d with subs := mset d.subs u b })
  let h' := if !on && on' then setN h' (at_ u Obj.AS_DEMAND) 0 else h'
  if on && !on' then flushSub h' u else h'

/-- R167: a service COMMIT. -/
def svcApply (h h' : Hub) (v : Nat) : Hub :=
  let b := svcBuckets h v
  let b := { a := clampTo b.a (getN h' (at_ v Obj.SV_CBS)), b := clampTo b.b (getN h' (at_ v Obj.SV_EBS)) : Buckets }
  setDamper h' (fun d => { d with svcs := mset d.svcs v b })

/-- R167: a port COMMIT; a port bucket newly in use starts at 0 (R159). -/
def portApply (h h' : Hub) (p : Nat) : Hub :=
  let b := clampTo (portBucket h p) (getN h' (at_ p Obj.PT_BURST))
  let b := if !getB h (at_ p Obj.PT_SHAPE_ENABLE) && getB h' (at_ p Obj.PT_SHAPE_ENABLE) then ⟨0, h.cNet⟩ else b
  setDamper h' (fun d => { d with ports := mset d.ports p b })

/-! CONFIG_CHANGE and swaps (R175) -/

/-- R175: the administrative list of a port, as latched. -/
def adminList (h : Hub) (p : Nat) : GateList :=
  let k := at_ p
  { enable := getB h (k Obj.GA_ENABLE), base := getN h (k Obj.GA_BASE_TIME), cycle := getN h (k Obj.GA_CYCLE_TIME)
    lead := getN h (k Obj.GA_LEAD)
    entries := (List.range (getN h (k Obj.GA_LENGTH))).map (fun i =>
      (getN h (at_ (p * 256 + i) Obj.GE_MASK), getN h (at_ (p * 256 + i) Obj.GE_DURATION))) }

/-- The first boundary base + m × cycle that is not earlier than a time. -/
def firstBoundary (base cycle t : Nat) : Nat := if t ≤ base then base else base + ceilDiv (t - base) cycle * cycle

/-- R175: a CONFIG_CHANGE: refused at ports that carry no list; else the latched set waits for its change time. A pending
swap at least GO_LEAD + 10 µs ahead is replaced; a nearer one is carried out first. -/
def configChange (h : Hub) (p : Nat) : Except Abort Hub :=
  if p == 27 || reservedPort p || !h.part.has (gpUnit p) then .error (.table 0x80)
  else
    let a := adminList h p
    let cur := operList h p
    let keep := (mget h.damper.pending [] p).filter (fun x => decide (x.1 < h.cNet + cur.lead + 10000))
    let base := match keep.getLast? with
      | some (_, l) => l
      | none => cur
    let n0 := h.cNet + a.lead + 10000
    let b := if base.enable then firstBoundary base.base base.cycle (max n0 a.base) else firstBoundary a.base a.cycle n0
    .ok (setDamper h (fun d => { d with pending := mset d.pending p (keep ++ [(b, { a with base := b })]) }))

/-- R175: at the change time the latched set becomes operational in one step. -/
def gateSwap (h : Hub) (p : Nat) : Hub :=
  match mget h.damper.pending [] p with
  | [] => h
  | (b, l) :: r =>
    if h.cNet < b then h
    else
      let launches := h.grate.frames.flatMap (fun f => (f.refs.filter (fun x => x.port == p)).filterMap (·.launch))
      let past := (mget h.damper.past [] p ++ [(b, operList h p)]).filter (fun x => launches.any (fun l => decide (l < x.1)))
      bump (setDamper h (fun d => { d with
        oper := mset d.oper p l, pending := mset d.pending p r, entry := mset d.entry p 0
        past := if past.isEmpty then merase d.past p else mset d.past p past })) (at_ p Obj.GATE_SWAPS)

/-- The index of the segment in force `off` ns into a cycle. -/
def entryIndex : List (Nat × Nat) → Nat → Nat
  | [], _ => 0
  | (_, d) :: r, off => if off < d then 0 else entryIndex r (off - d) + 1

/-- R171, R174: the list moves to its entry at the present network time. (DEDUCED, log 28) -/
def entryAdvance (h : Hub) (p : Nat) : Hub :=
  let g := operList h p
  if g.enable then setDamper h (fun d => { d with entry := mset d.entry p (entryIndex (gateSegs g) ((h.cNet - g.base) % g.cycle)) })
  else h

end Sys2Proof.Machine
end

