-- ==== Sys2Proof/Machine/Flow.lean ====
section
/-! DEFINITION. The Flow Table: keys and their masks (R134-R137), the two hashes and the lookup (R138, R139), what an entry
does (R141-R143), policers (R145-R148), the merge of protected frames (R415), admission with borrowing and push-out
(R99, R103, R127), the express path (R123) and the COMMIT checks (R149). -/

namespace Sys2Proof.Machine

/-! Hashes (R138) -/

/-- One bit of a reflected CRC. -/
def crcBit (poly c : Nat) : Nat := if c % 2 == 1 then Nat.xor (c / 2) poly else c / 2

/-- One byte. -/
def crcByte (poly c : Nat) (b : Byte) : Nat := (List.range 8).foldl (fun c _ => crcBit poly c) (Nat.xor c b.toNat)

/-- R138: reflected, starting at 0xFFFFFFFF and ending with an XOR of 0xFFFFFFFF. -/
def crc32 (poly : Nat) (bs : List Byte) : Nat := Nat.xor (bs.foldl (crcByte poly) 0xFFFFFFFF) 0xFFFFFFFF

/-- The CRC-32C and IEEE 802.3 CRC-32 polynomials, reflected. -/
def polyC : Nat := 0x82F63B78
def polyIeee : Nat := 0xEDB88320

/-- R138: first positions of the two buckets of a key. -/
def bucket0 (key : List Byte) : Nat := 4 * (crc32 polyC key % 1024)
def bucket1 (key : List Byte) : Nat := 4096 + 4 * (crc32 polyIeee key % 1024)

/-- The eight positions where an exact entry of a key may stand. -/
def bucketPositions (key : List Byte) : List Nat :=
  (List.range 4).map (bucket0 key + ·) ++ (List.range 4).map (bucket1 key + ·)

/-! Keys (R134-R137) -/

/-- Put bytes into a list at an offset. -/
def putAt (l : List Byte) (off : Nat) (bs : List Byte) : List Byte := l.take off ++ bs ++ l.drop (off + bs.length)

/-- The layout a profile uses: its own, or its base's (P_BASE) in profiles 11-15. -/
def profileLayout (h : Hub) (p : Nat) : Nat := if p < 11 then p else getN h (at_ p Obj.P_BASE)

/-- R135: ports are those of TCP, UDP and SCTP, and zero in a fragment other than the first. Of an IPv6 frame with extension headers
it is the protocol after them that counts. -/
def hasPorts (x : Headers) : Bool :=
  let p := x.upper.getD x.proto
  (p == 6 || p == 17 || p == 132) && !x.fragment

/-- R134: the headers with every field zero that the frame does not carry, as a layout asks for them: an IPv4 layout finds IPv4
fields in an IPv4 frame alone, an IPv6 layout in an IPv6 frame alone, and the tunnel, PCIe and internal layouts find theirs
in a frame of that kind alone. Of a TLP, the address is carried by one that is routed by address, the destination ID by one that is
routed by ID, and the other fields by every one. (DEDUCED, log 25) -/
def carried (layout : Nat) (x : Headers) : Headers :=
  let has : Bool := match layout with
    | 1 | 3 => x.kind == .ipv4
    | 2 | 4 => x.kind == .ipv6
    | 6 => x.kind == .usb4
    | 7 | 8 | 9 => isTlp x
    | 10 => x.kind == .internal
    | _ => x.kind == .eth || x.kind == .ipv4 || x.kind == .ipv6
  if has then { x with
    address := if x.kind == .pcieAddr then x.address else 0
    destId := if x.kind == .pcieId then x.destId else 0 }
  else { kind := x.kind }

/-- Table 8.2: the fields of a layout, each at its key byte. The next-header byte of an IPv6 frame is its fixed header's, which the manual
does not say of a frame with extension headers. (DESIGN CHOICE, log 57) -/
def profileFields (layout : Nat) (x : Headers) : List (Nat × List Byte) :=
  let tci := (4, beBytes 2 (x.tci.getD 0))
  let x := carried layout x
  let sp := if hasPorts x then x.sport else 0
  let dp := if hasPorts x then x.dport else 0
  match layout with
  | 0 => [tci, (6, beBytes 6 x.dst), (12, beBytes 6 x.src), (18, beBytes 2 x.etherType)]
  | 1 => [tci, (6, beBytes 1 x.dscpEcn), (7, beBytes 1 x.proto), (8, beBytes 4 x.ipSrc), (12, beBytes 4 x.ipDst)]
  | 2 => [tci, (6, beBytes 1 x.dscpEcn), (7, beBytes 1 x.proto), (8, beBytes 16 x.ipSrc), (24, beBytes 16 x.ipDst),
          (40, beBytes 3 (x.flowLabel % 0x100000))]
  | 3 => [tci, (6, beBytes 1 x.dscpEcn), (7, beBytes 1 x.proto), (8, beBytes 4 x.ipSrc), (12, beBytes 4 x.ipDst),
          (16, beBytes 2 sp), (18, beBytes 2 dp)]
  | 4 => [tci, (6, beBytes 1 x.dscpEcn), (7, beBytes 1 x.proto), (8, beBytes 16 x.ipSrc), (24, beBytes 16 x.ipDst),
          (40, beBytes 3 (x.flowLabel % 0x100000)), (44, beBytes 2 sp), (46, beBytes 2 dp)]
  | 5 => [(4, beBytes 2 (x.tci.getD 0 % 0x1000)), (6, beBytes 6 x.dst)]
  | 6 => [(4, beBytes 1 x.adapter), (5, beBytes 2 (x.hopId % 0x800)), (7, beBytes 1 (x.pdf % 16))]
  | 7 => [(4, beBytes 2 x.requester), (6, beBytes 1 x.fmtType), (7, beBytes 1 x.tc)]
  | 8 => [(4, beBytes 1 x.fmtType), (5, beBytes 1 x.tc), (8, beBytes 8 (x.address / 0x1000 * 0x1000))]
  | 9 => [(4, beBytes 2 x.destId), (6, beBytes 1 x.fmtType)]
  | 10 => [(4, beBytes 2 x.sourceUnit), (6, beBytes 2 x.stream)]
  | _ => []

/-- R134: the 48 bytes of a key before the mask. -/
def rawKey (h : Hub) (p port : Nat) (x : Headers) : List Byte :=
  let pres := (if x.tci.isSome then 1 else 0) + (if x.innerTci.isSome then 2 else 0)
    + (if x.fragment then 4 else 0) + (if x.options then 8 else 0)
  let head := beBytes 1 p ++ beBytes 1 (bondBase port) ++ beBytes 1 pres ++ [0]
  (profileFields (profileLayout h p) x).foldl (fun k f => putAt k f.1 f.2) (head ++ List.replicate 44 0)

/-- Bytewise AND. -/
def andBytes (a b : List Byte) : List Byte := (a.zip b).map (fun x => x.1 &&& x.2)

/-- R134: a key ANDed with its profile's mask. -/
def maskKey (h : Hub) (key : List Byte) : List Byte := andBytes key (getBytes h (at_ (key.headD 0).toNat Obj.P_MASK))

/-- R137: the kinds of ports of Table 8.3: 0 Ethernet, 1 USB4, 2 PCIe, 3 internal. -/
def portKind (n : Nat) : Nat :=
  if 7 ≤ n ∧ n ≤ 12 then 0 else if 1 ≤ n ∧ n ≤ 5 then 1 else if 13 ≤ n ∧ n ≤ 15 then 2 else 3

/-- R137: the profile that a frame's headers select out of A, B, C of a PROFILE_SELECT value. -/
def selectProfile (kind sel : Nat) (x : Headers) : Nat :=
  let a := bitsOf sel 3 0
  let b := bitsOf sel 7 4
  let c := bitsOf sel 11 8
  match kind with
  | 0 => match x.kind with
    | .ipv4 => b
    | .ipv6 => c
    | _ => a
  | 2 => match x.kind with
    | .pcieAddr => a
    | .pcieId => b
    | _ => c
  | _ => a

/-- R137, R223: the key of a frame at a port; `nic` selects NIC_PROFILE_SELECT, used as an Ethernet port uses it. Of a bonded pair, which is
one port to the Flow Table, the lower member's PROFILE_SELECT, MISS_SUBSCRIBER and Ash counters hold for frames of both members; those of
the upper member are held and read, and have no effect: the manual gives each port one and names neither. (DESIGN CHOICE, log 51) -/
def frameKey (h : Hub) (port first : Nat) (nic : Bool) (x : Headers) : List Byte :=
  let kind := if nic then 0 else if port == 28 then portKind first else portKind port
  let sel := if nic then getN h Obj.NIC_PROFILE_SELECT else getN h (Obj.PROFILE_SELECT (bondBase port))
  maskKey h (rawKey h (selectProfile kind sel x) port x)

/-! Lookup (R139) -/

/-- What a lookup finds. -/
inductive Hit where
  | exact (pos : Nat) | wild (pos : Nat) | miss
deriving DecidableEq, Repr, Inhabited

/-- Valid wildcard positions, ascending. -/
def validWild (h : Hub) : List Nat :=
  (h.dict.filter (fun x => x.1 % 0x1000000 == Obj.WC_E_VALID && x.2 == .int 1)).map (fun x => keyPos x.1)

/-- Valid exact positions, ascending. -/
def validExact (h : Hub) : List Nat :=
  (h.dict.filter (fun x => x.1 % 0x1000000 == Obj.EX_E_VALID && x.2 == .int 1)).map (fun x => keyPos x.1)

/-- R138: the valid exact entry that holds a key. -/
def exactMatch (h : Hub) (key : List Byte) : Option Nat :=
  (bucketPositions key).find? (fun p => getB h (at_ p Obj.EX_E_VALID) && getBytes h (at_ p Obj.EX_E_KEY) == key)

/-- R139. -/
def lookup (h : Hub) (key : List Byte) : Hit :=
  match exactMatch h key with
  | some p => .exact p
  | none =>
    match (validWild h).find? (fun p =>
        andBytes key (getBytes h (at_ p Obj.WC_W_MASK)) == getBytes h (at_ p Obj.WC_E_KEY)) with
    | some p => .wild p
    | none => .miss

/-! What an entry says (R141) -/

/-- The fields of the entry in force, or the miss rule's. -/
structure Verdict where
  action : Nat := 0
  sub : Nat := 0
  cls : Nat := 0
  yellow : Nat := 0xFF
  group : Nat := 0
  mirror : Bool := false
  protect : Bool := false
  policer : Option Nat := none
deriving DecidableEq, Repr, Inhabited

def verdictOf (h : Hub) : Hit → Verdict
  | .exact p =>
    { action := getN h (at_ p Obj.EX_E_ACTION), sub := getN h (at_ p Obj.EX_E_SUBSCRIBER), cls := getN h (at_ p Obj.EX_E_CLASS)
      yellow := getN h (at_ p Obj.EX_E_YELLOW_CLASS), group := getN h (at_ p Obj.EX_E_MC_GROUP)
      mirror := getB h (at_ p Obj.EX_E_MIRROR), protect := getB h (at_ p Obj.EX_E_PROTECTED)
      policer := if getN h (at_ p Obj.EX_E_POLICER) == 1 then some p else none }
  | .wild p =>
    { action := getN h (at_ p Obj.WC_E_ACTION), sub := getN h (at_ p Obj.WC_E_SUBSCRIBER), cls := getN h (at_ p Obj.WC_E_CLASS)
      yellow := getN h (at_ p Obj.WC_E_YELLOW_CLASS), group := getN h (at_ p Obj.WC_E_MC_GROUP)
      mirror := getB h (at_ p Obj.WC_E_MIRROR), protect := getB h (at_ p Obj.WC_E_PROTECTED)
      policer := if getN h (at_ p Obj.WC_E_POLICER) == 0xFFFF then none else some (getN h (at_ p Obj.WC_E_POLICER)) }
  | .miss => {}

/-- R151, R153: what a lookup counts. -/
def countHit (h : Hub) (x : Hit) (len : Nat) : Hub :=
  let h := bump h Obj.LOOKUPS
  match x with
  | .exact p => addN (bump (bump h Obj.EXACT_HITS) (at_ p Obj.EX_E_HIT_FRAMES)) (at_ p Obj.EX_E_HIT_BYTES) len
  | .wild p => addN (bump (bump h Obj.WILDCARD_HITS) (at_ p Obj.WC_E_HIT_FRAMES)) (at_ p Obj.WC_E_HIT_BYTES) len
  | .miss => bump h Obj.MISSES

/-! Policers (R145-R148) -/

/-- R145: the buckets of policer n refilled to now. A policer that no valid entry has named since reset holds nothing that the manual
states: it is full, as it will be when an entry names it. (DEDUCED, log 27) -/
def policerBuckets (h : Hub) (n : Nat) : Buckets :=
  let k := at_ n
  let s1 := getN h (k Obj.PL_CBS)
  let s2 := getN h (k Obj.PL_BURST2)
  match mget? h.policers n with
  | some b => { a := refill b.a (getN h (k Obj.PL_CIR)) s1 h.cNet, b := refill b.b (getN h (k Obj.PL_RATE2)) s2 h.cNet }
  | none => { a := ⟨(s1 * byteUnit : Nat), h.cNet⟩, b := ⟨(s2 * byteUnit : Nat), h.cNet⟩ }

/-- R147: the incoming colour. -/
def preColour (h : Hub) (n port : Nat) (f : Frame) : Colour :=
  if !getB h (at_ n Obj.PL_COLOUR_AWARE) then .green
  else match getN h (at_ n Obj.PL_PRECOLOUR_SRC) with
    | 0 => match f.hdr.tci with
      | some t => if bitOf t 12 then .yellow else .green
      | none => .green
    | 1 =>
      if f.hdr.kind == .ipv4 || f.hdr.kind == .ipv6 then
        let k := f.hdr.dscpEcn / 4 % 64
        let b := ((getBytes h Obj.DSCP_COLOUR_MAP)[k / 4]?.getD 0).toNat
        match b / 2 ^ (2 * (k % 4)) % 4 with
        | 0 => .green
        | 1 => .yellow
        | _ => .red
      else .green
    | _ => if port == 0 || port == 28 then f.colour else .green

/-- R146: the colour of a frame of length b, and the buckets after it. -/
def colourOf (mode : Nat) (pre : Colour) (t : Buckets) (b : Nat) : Colour × Buckets :=
  let n : Int := (b * byteUnit : Nat)
  let has1 := decide (n ≤ t.a.tok)
  let has2 := decide (n ≤ t.b.tok)
  if mode == 0 then
    if pre == .red || !has2 then (.red, t)
    else if pre == .yellow || !has1 then (.yellow, { t with b := debit t.b b })
    else (.green, { a := debit t.a b, b := debit t.b b })
  else
    if pre == .green && has1 then (.green, { t with a := debit t.a b })
    else if pre != .red && has2 then (.yellow, { t with b := debit t.b b })
    else (.red, t)

/-- R146, R155: a policer colours a frame and counts it. -/
def police (h : Hub) (n port : Nat) (f : Frame) : Colour × Hub :=
  let (c, t) := colourOf (getN h (at_ n Obj.PL_MODE)) (preColour h n port f) (policerBuckets h n) f.len
  let h := { h with policers := mset h.policers n t }
  let (kf, kb) := match c with
    | .green => (Obj.PL_GREEN_FRAMES, Obj.PL_GREEN_BYTES)
    | .yellow => (Obj.PL_YELLOW_FRAMES, Obj.PL_YELLOW_BYTES)
    | .red => (Obj.PL_RED_FRAMES, Obj.PL_RED_BYTES)
  (c, addN (bump h (at_ n kf)) (at_ n kb) f.len)

/-- R145: a policer is in use while a valid entry names it. -/
def policerUsed (h : Hub) (n : Nat) : Bool :=
  (getB h (at_ n Obj.EX_E_VALID) && getN h (at_ n Obj.EX_E_POLICER) == 1)
  || (validWild h).any (fun p => getN h (at_ p Obj.WC_E_POLICER) == n)

/-- R145: both buckets full. -/
def fullBuckets (h : Hub) (n : Nat) : Buckets :=
  { a := ⟨(getN h (at_ n Obj.PL_CBS) * byteUnit : Nat), h.cNet⟩, b := ⟨(getN h (at_ n Obj.PL_BURST2) * byteUnit : Nat), h.cNet⟩ }

/-- R145: after an entry COMMIT that leaves hub `h` of `was`, a policer newly in use starts full; one that goes out of use keeps its
buckets, which its own COMMITs alone change (R148). -/
def policerFollow (was h : Hub) (n : Nat) : Hub :=
  if !policerUsed was n && policerUsed h n then { h with policers := mset h.policers n (fullBuckets h n) }
  else if policerUsed was n && (mget? h.policers n).isNone then { h with policers := mset h.policers n (policerBuckets was n) }
  else h

/-! The merge of protected frames (R415) -/

/-- R415: whether a sequence of a stream is accepted, by the record of the stream. -/
def mergeTest (r : Option MergeRec) (s : Nat) : Nat × MergeRec :=
  match r with
  | none => (0, ⟨s, [s]⟩)
  | some r =>
    let w : Nat := 4294967296
    let d := (s + w - r.high) % w
    let keep (hi : Nat) (l : List Nat) := l.filter (fun x => decide ((hi + w - x) % w ≤ 1023))
    if 0 < d ∧ d < w / 2 then (0, ⟨s, keep s (s :: r.seen)⟩)
    else if (r.high + w - s) % w ≤ 1023 then
      if r.seen.contains s then (1, r) else (0, ⟨r.high, s :: r.seen⟩)
    else (2, r)

/-- R415: the merge: accepted, or discarded and counted once as a duplicate or late. -/
def mergeFrame (h : Hub) (stream s : Nat) : Bool × Hub :=
  let (v, r) := mergeTest (mget? h.merge stream) (s % 4294967296)
  let h := { h with merge := mset h.merge stream r }
  match v with
  | 0 => (true, h)
  | 1 => (false, bump h Obj.TW_ASH_DUPLICATE)
  | _ => (false, bump h Obj.TW_LATE)

/-- R141, R410: the hub is Paired or in Lockstep. -/
def isPaired (h : Hub) : Bool := decide (getN h Obj.TW_STATE ≥ 3)

/-! Push-out (R127) -/

/-- R127: the candidate frames of a leaf queue, oldest first: charged to the pool and not yet victims. -/
def candidates (h : Hub) (p q : Nat) (victims : List (Nat × Nat)) : List GFrame :=
  (queueOf h q).filterMap (fun id => (findFrame h id).filter (fun f => f.pool == p && !(victims.any (fun v => v.2 == id))))

/-- R127: the eligible leaf queue: lowest class first, then most cells in candidate frames, then lowest number. -/
def pickVictimQueue (h : Hub) (p c : Nat) (victims : List (Nat × Nat)) (barred : List Nat) : Option Nat :=
  let qs := (h.grate.queues.map (·.1)).filter (fun q =>
    decide (qCls q < c) && !barred.contains q && !(candidates h p q victims).isEmpty)
  let weight (q : Nat) := sumOf (fun f => f.cells) (candidates h p q victims)
  qs.foldl (fun best q => match best with
    | none => some q
    | some b =>
      if qCls q < qCls b || (qCls q == qCls b && decide (weight b < weight q)) then some q else best) none

/-- R127: the loop: victims until no group is short, or the limit, or no queue is left. -/
def pushLoop (h : Hub) (p c n limit : Nat) : Nat → SMap Int → List (Nat × Nat) → List Nat → SMap Int × List (Nat × Nat)
  | 0, short, vs, _ => (short, vs)
  | k + 1, short, vs, barred =>
    if short.all (fun x => decide (x.2 ≤ 0)) || vs.length == limit then (short, vs)
    else match pickVictimQueue h p c vs barred with
      | none => (short, vs)
      | some q =>
        match (candidates h p q vs).getLast? with
        | none => (short, vs)
        | some v =>
          if decide (v.refs.length > 1) then pushLoop h p c n limit k short vs (q :: barred)
          else pushLoop h p c n limit k (short.map (fun x => (x.1, x.2 - cellsIn v x.1))) (vs ++ [(q, v.id)]) barred

/-- R127: the victims for a frame of `n` cells, class `c`, pool `p`: none when the procedure fails. -/
def pushVictims (h : Hub) (p c n : Nat) : Option (List (Nat × Nat)) :=
  let short := (groupsIn h).map (fun g => (g, shortOf h p n g))
  let (short, vs) := pushLoop h p c n (getN h Obj.PUSHOUT_MAX_VICTIMS) (h.grate.queues.length + 17) short [] []
  if short.any (fun x => decide (x.2 > 0)) then none else some vs

/-- R127: the victims are removed. -/
def removeVictims (h : Hub) (vs : List (Nat × Nat)) : Hub :=
  let h := forEach vs h (fun h v =>
    let port := subPort h (qSub v.1)
    bump (dropRef h v.2 (queuedRef ((findFrame h v.2).getD default) v.1) (Obj.ASH_PUSHED_OUT port) port) Obj.PUSHOUT_VICTIMS)
  bump h Obj.PUSHOUT_EVENTS

/-- R128: a victim is still in its queue: Damper has not taken it since it was selected. -/
def stillQueued (h : Hub) (v : Nat × Nat) : Bool := (queueOf h v.1).contains v.2

/-- R127, R128: push-out, with the hub that a failed one leaves. `races` gives, for the first and the second run, the ports whose release
decisions are granted between the selection of victims and their removal; a run that finds a victim taken removes none, and
the procedure runs once more. The result says whether the frame has been placed, and whether the procedure found victims. -/
def pushOut (h : Hub) (p c n : Nat) : List (List Nat) → Nat → Bool × Bool × Hub
  | races, k =>
    match pushVictims h p c n with
    | none => (false, false, h)
    | some vs =>
      let h := forEach (races.headD []) h decideRelease
      if vs.all (stillQueued h) then (true, true, removeVictims h vs)
      else match k with
        | 0 => (false, true, h)
        | k + 1 => pushOut h p c n races.tail k

/-! Admission (R99, R103, R127, R510) -/

/-- R119: the pair of a sequence stream. -/
def seqKey (inPort out : Nat) : Nat := bondBase inPort * 32 + out

/-- R129: the references of a frame: one for each member, and one for the mirror subscriber. -/
def newRefs (h : Hub) (cls : Nat) (members mir : List Nat) : List Ref :=
  members.map (fun u => { port := subPort h u, queue := 8 * u + cls })
  ++ mir.map (fun u => { port := subPort h u, queue := 8192 + 8 * u + cls })

/-- Admit a frame: its reservations, stager place and references. FRAMES_IN counts it here: whether a frame that is discarded at ingress
counts too the manual does not say, and the model counts only those admitted and those of the express path (DESIGN CHOICE, log 51). Its cells take their sequence numbers as they are written (R119). -/
def admitFrame (h : Hub) (port first out pool cls : Nat) (f : Frame) (refs : List Ref) (multi protect : Bool) : Hub :=
  let n := ceilDiv f.len 256
  let g : GFrame := {
    id := h.grate.nextId, frame := { f with races := [] }, inPort := port, firstPort := first, pair := seqKey port out, cells := n
    pool := pool, cls := cls, reserved := reservations h n, multi := multi, protect := protect
    refs := refs }
  let p := bondBase port
  let h := setGrate h (fun x => { x with
    frames := x.frames ++ [g], nextId := x.nextId + 1
    ingress := mset x.ingress p (mget x.ingress [] p ++ [g.id]) })
  notePeaks (bump h (Obj.FRAMES_IN p)) pool

/-- R99, R103, R127: the admission test, then borrowing, then push-out; a frame that none places is counted in
ASH_NO_ROOM of its ingress port. While no group is in service the frame fails admission as a whole; whether that is a failed
test that raises QUOTA_HITS the manual leaves open, and the model leaves the counter as it is (DESIGN CHOICE, log 52). A
frame that meets a started transmission in both runs counts in ASH_NO_ROOM, and like any arrival that push-out does not
place in PUSHOUT_FAILED. -/
def tryAdmit (h : Hub) (port first out pool cls : Nat) (f : Frame) (subs : List Ref) (multi protect : Bool) : Hub :=
  let n := ceilDiv f.len 256
  let noRoom (h : Hub) : Hub := addN (bump h (Obj.ASH_NO_ROOM (bondBase port))) (Obj.ASH_CELLS (bondBase port)) n
  let go (h : Hub) : Hub := admitFrame h port first out pool cls f subs multi protect
  if admits h pool n then go h
  else if (groupsIn h).isEmpty then noRoom h
  else
    let h := bump h (Obj.QUOTA_HITS pool)
    if h.hearth.raising && getB h (Obj.HEADROOM_BORROW pool)
        && (groupsIn h).any (fun g => !quotaOk h pool n g) && borrowOk h n then
      let h := bump { h with hearth := { h.hearth with borrowing := insertNew h.hearth.borrowing pool } } Obj.BORROW_ADMISSIONS
      go h
    else if !getB h Obj.PUSHOUT_ENABLE then noRoom h
    else match pushOut h pool cls n f.races 1 with
      | (true, _, h) => go h
      | (false, _, h) => bump (noRoom h) Obj.PUSHOUT_FAILED

/-- R123, R166: the express path is open for a frame of `n` cells to subscriber u in class `cls`: the rounds it debits. TLPs of one
subscriber and class leave in the order of their arrival (R245): one that has no cell written yet bars the TLPs behind it
(DEDUCED, log 25). A MAC that PAUSE holds gets no new frame (R221). -/
def expressOpen (h : Hub) (u cls n : Nat) (tlp : Bool) : Option (Bool × Bool) :=
  let p := subPort h u
  let outstanding := h.grate.frames.any (fun f =>
    f.refs.any (fun r => subPort h (qSub r.queue) == p
      && (decide (0 < f.written.length) || (tlp && isTlp f.frame.hdr && leafOf r.queue == 8 * u + cls))))
  if !h.grate.stalled.contains p && getB h Obj.EXPRESS_ENABLE && decide (n ≤ getN h Obj.EXPRESS_MAX_CELLS) && !outstanding
      && (mget h.grate.win [] p).isEmpty && portIdle h p && portIsUp h p && getB h (at_ u Obj.SB_ENABLE)
  then expressRounds h p u else none

/-- R123, R124, R166, R119: an express frame passes at once; its cells take sequence numbers and its tokens are debited as
for a taken frame. -/
def expressFrame (h : Hub) (port first u cls : Nat) (f : Frame) (rounds : Bool × Bool) (protect : Bool) : Hub :=
  let n := ceilDiv f.len 256
  let p := subPort h u
  let i := bondBase port
  let k := seqKey port p
  let s := mget h.grate.seq 0 k
  let q := 8 * u + cls
  let h := setGrate h (fun x => { x with seq := mset x.seq k ((s + n) % 4096) })
  let h := addN h (at_ u Obj.SB_ENQUEUED_BYTES) f.len
  let h := chargeTake h p (svcOf h u) u q f.len rounds.1 rounds.2
  let h := addN (bump (bump h (Obj.FRAMES_IN i)) (Obj.EXPRESS_FRAMES i)) (Obj.CELLS_IN i) n
  let h := addN (bump h (Obj.FRAMES_OUT p)) (Obj.CELLS_OUT p) n
  later h (.delivered p q { id := h.grate.nextId, frame := { f with races := [] }, inPort := port, firstPort := first
                            pair := k, firstSeq := s, cells := n, pool := getN h (at_ u Obj.SB_POOL), cls := cls, protect := protect
                            refs := [{ port := p, queue := q, st := .taken }] })

/-! Ingress (R15, R141-R143) -/

/-- R141: the mirror subscriber if a copy is made: one at GP28. -/
def mirrorSub (h : Hub) : Option Nat :=
  let u := getN h Obj.MIRROR_SUBSCRIBER
  if u < 1024 && subPort h u == 28 then some u else none

/-- R141-R143, R99, R123: place a classified and coloured frame. R131: one whose egress is down is discarded here; a member of a
multicast group whose port is down still receives its reference (R142). R248: a non-posted request for a drive that is down is answered
once. (DEDUCED, log 25) The colour that goes on with the frame, which GP28 reads again (R147), is yellow where the policer colours it
yellow, and else the one it came with: the manual does not say which it carries. (DESIGN CHOICE, log 57) MC_FRAMES counts a multicast or
mirrored frame before its admission, so also one that then fails it, of which the manual says nothing. (DESIGN CHOICE, log 51) -/
def placeFrame (h : Hub) (port first : Nat) (f : Frame) (v : Verdict) (yellow : Bool) (copy : Bool) : Hub :=
  let cls := if yellow && v.yellow != 0xFF then v.yellow else v.cls
  let f := { f with colour := if yellow then .yellow else f.colour }
  let wantsMirror := v.mirror && !copy
  let h := if wantsMirror && (mirrorSub h).isNone then bump h Obj.MIRROR_SKIPPED else h
  let mir := if wantsMirror then (mirrorSub h).toList else []
  let members := if v.action == 1 then (mcMembers h v.group).filter (fun u => subPort h u != bondBase port) else [v.sub]
  let subs := newRefs h cls members mir
  let h := forEach subs h (fun h r => portTrigger h (subPort h (qSub r.queue)))
  let pool := getN h (at_ v.sub Obj.SB_POOL)
  let protect := v.protect
  if subs.isEmpty then bump h (Obj.ASH_ACTION (bondBase port))
  else if v.action == 1 || !mir.isEmpty then
    tryAdmit (bump h Obj.MC_FRAMES) port first 27 pool cls f subs (v.action == 1) protect
  else
    let p := subPort h v.sub
    let n := ceilDiv f.len 256
    if !portIsUp h p then
      let h := addN (bump h (Obj.ASH_PORT_DOWN p)) (Obj.ASH_CELLS p) n
      answerNp h p f.hdr
    else match expressOpen h v.sub cls n (isTlp f.hdr) with
      | some r => expressFrame h port first v.sub cls f r protect
      | none => tryAdmit h port first p pool cls f subs false protect

/-- R146, R143: police and place. ASH_CELLS counts the discards of the Grate itself: the frames that the Flow Table or Damper discards (a
miss, an action, red, a disabled subscriber, one too long for its gate) have no cells in the Grate that it discards, and the model does not
count them there; the manual says only "all Grate discards at this port". (DESIGN CHOICE, log 51) -/
def policeAndPlace (h : Hub) (port first : Nat) (f : Frame) (v : Verdict) (copy : Bool) : Hub :=
  match v.policer with
  | none => placeFrame h port first f v false copy
  | some n =>
    match police h n port f with
    | (.red, h) => bump h (Obj.ASH_RED (bondBase port))
    | (.yellow, h) => placeFrame h port first f v true copy
    | (.green, h) => placeFrame h port first f v false copy

/-- R415: a tagged protected frame is copied to the twin and meets the merge before its policer. -/
def protectAndPlace (h : Hub) (port first : Nat) (f : Frame) (v : Verdict) (pos : Nat) (copy : Bool) : Hub :=
  if v.protect && isPaired h && v.action != 2 then
    match f.tag with
    | none => policeAndPlace (bump h Obj.TW_UNTAGGED) port first f v copy
    | some t =>
      match mergeFrame (later h (.protectCopy pos f)) t.stream t.seq with
      | (true, h) => policeAndPlace h port first f v copy
      | (false, h) => h
  else policeAndPlace h port first f v copy

/-- R415, R16: a PROTECTED frame from the twin enters at the Tyvel port: it meets the merge, with the classification that its Flow Table
position gives. -/
def arriveProtected (h : Hub) (pos : Nat) (f : Frame) : Hub :=
  let v := verdictOf h (if pos < 0x8000 then .exact pos else .wild (pos - 0x8000))
  let ash (k : Nat) : Hub := addN (bump h k) (Obj.ASH_CELLS 24) (ceilDiv f.len 256)
  if !isPaired h then h
  else if f.len > 16384 then ash (Obj.ASH_OVERSIZE 24)
  else if !portIsUp h 24 then ash (Obj.ASH_PORT_DOWN 24)
  else if v.action == 2 then bump h (Obj.ASH_ACTION 24)
  else match f.tag with
    | none => h
    | some t =>
      match mergeFrame h t.stream t.seq with
      | (true, h) => policeAndPlace h 24 24 f v false
      | (false, h) => h

/-- R414: F1 recognises a protection tag by its ETHERTYPE, most significant byte first, and removes it from the frame. -/
def readTag (h : Hub) (f : Frame) : Frame :=
  let b := f.tagBytes
  if b.length == 8 && beNat (b.take 2) == getN h Obj.TW_TAG_ETHERTYPE then
    let vs := beNat ((b.drop 2).take 2)
    { f with len := f.len - 8, tagBytes := [], tag := some ⟨vs / 4096, vs % 4096, beNat (b.drop 4)⟩ }
  else { f with tag := none }

/-- R15, stages 4 to 6: a frame enters at a Grate port that is up. `first` is its first ingress port (R137), `nic` a frame
taken from a transmit ring (R223), `copy` a mirrored frame at GP28 (R141). R243, R190: a hit overrides the steering of an
attached unit, which replaces the miss; a TLP at GP13 to GP15 that misses and is not steered is discarded in ASH_MISS. R414: F1 alone recognises the protection tag, at GP13, and discards a frame
whose tag has another version than 1. R113: while the port's stager is full its attached unit holds the frame, behind those it
holds already. R16: a frame that reaches a port which accepts none is discarded and counted in the port's ASH_PORT_DOWN.
GP27 carries no frames (R112, R137). (DEDUCED, log 25) -/
def arrive (h : Hub) (port first : Nat) (nic copy : Bool) (f : Frame) : Hub :=
  let p := bondBase port
  let f := if p == 13 then readTag h f else { f with tag := none }
  let ash (k : Nat) : Hub := addN (bump h k) (Obj.ASH_CELLS p) (ceilDiv f.len 256)
  if f.tag.any (fun t => t.version != 1) then bump h Obj.TW_ASH_BAD_TAG
  else if f.len > 16384 then ash (Obj.ASH_OVERSIZE p)
  else if !portIsUp h p then ash (Obj.ASH_PORT_DOWN p)
  else
    let x := lookup h (frameKey h port first nic f.hdr)
    let h := countHit h x f.len
    match x with
    | .miss =>
      match f.steer with
      | some u => placeFrame h port first f { sub := u, cls := 7 } false copy
      | none =>
        let u := getN h (Obj.MISS_SUBSCRIBER p)
        if u == 0xFFFF || (13 ≤ p && p ≤ 15 && isTlp f.hdr) then bump h (Obj.ASH_MISS p) else placeFrame h port first f { sub := u } false copy
    | .exact e =>
      let v := verdictOf h x
      if v.action == 2 then bump h (Obj.ASH_ACTION p) else protectAndPlace h port first f v e copy
    | .wild e =>
      let v := verdictOf h x
      if v.action == 2 then bump h (Obj.ASH_ACTION p) else protectAndPlace h port first f v (0x8000 + e) copy

/-- R113: the stager of a port, in cells. -/
def stagerSize (p : Nat) : Nat := if (bondMembers p).length == 2 then 8 else 4

/-- The cells of a port that are not written yet, in order: frame and cell number. -/
def waitingCells (h : Hub) (p : Nat) : List (Nat × Nat) :=
  (mget h.grate.ingress [] p).flatMap (fun id =>
    match findFrame h id with
    | some f => (List.range (f.cells - f.written.length)).map (fun i => (id, f.written.length + i))
    | none => [])

/-- R113: the stager of a port is full. -/
def stagerFull (h : Hub) (p : Nat) : Bool := decide (stagerSize p ≤ (waitingCells h p).length)

/-- What an attached unit brings enters the Grate. -/
def enterPort (h : Hub) (port : Nat) (x : AtPort) : Hub :=
  match x.pos with
  | some pos => arriveProtected h pos x.frame
  | none => arrive h port x.first x.nic x.copy x.frame

/-- R113: a frame comes to a Grate port: it enters, or its attached unit holds it while the stager is full. R42, R388: while the seam or the
region logic sleeps that it goes through, it waits there and wakes them. GP27 and the reserved ports have no ingress (R112). -/
def comeTo (h : Hub) (port : Nat) (x : AtPort) : Hub :=
  let p := bondBase port
  let h := portTrigger h p
  let waiting := mget h.grate.atPort [] p
  let sleeping := asleepOf h (ingressDomains p)
  if p == 27 || reservedPort p then h
  else if !sleeping.isEmpty then wakeAll (setGrate h (fun g => { g with atPort := mset g.atPort p (waiting ++ [x]) })) sleeping
  else if portIsUp h p && (!waiting.isEmpty || stagerFull h p) then
    setGrate h (fun g => { g with atPort := mset g.atPort p (waiting ++ [x]) })
  else enterPort h port x

/-- R113, R15: a frame of an attached unit of the port. -/
def ingress (h : Hub) (port first : Nat) (nic copy : Bool) (f : Frame) : Hub := comeTo h port ⟨first, nic, copy, f, none⟩

/-- R113: frames that an attached unit holds enter while the stager has room, oldest first. -/
def admitWaiting (p : Nat) : Nat → Hub → Hub
  | 0, h => h
  | n + 1, h =>
    match mget h.grate.atPort [] p with
    | [] => h
    | x :: r =>
      if stagerFull h p || !(asleepOf h (ingressDomains p)).isEmpty then h
      else
        let h := setGrate h (fun g => { g with atPort := if r.isEmpty then merase g.atPort p else mset g.atPort p r })
        admitWaiting p n (enterPort h p x)

/-- R113: the stager of a port may have room again. -/
def stagerRoom (h : Hub) (p : Nat) : Hub := admitWaiting p (mget h.grate.atPort [] p).length h

/-! COMMIT checks (R148, R149) -/

/-- R149: the checks of an exact entry, for a commit from h to h'. -/
def exactCheck (h h' : Hub) (pos : Nat) : Option Abort :=
  let key := getBytes h' (at_ pos Obj.EX_E_KEY)
  let prof := (key.headD 0).toNat
  if !getB h' (at_ pos Obj.EX_E_VALID) then none
  else if !(bucketPositions key).contains pos then some (.table 0x80)
  else if (validExact h).any (fun p => p != pos && getBytes h (at_ p Obj.EX_E_KEY) == key) then some (.table 0x81)
  else if prof > 15 || maskKey h' key != key then some (.table 0x84)
  else none

/-- R149: the checks of a wildcard entry. -/
def wildCheck (_h h' : Hub) (pos : Nat) : Option Abort :=
  let key := getBytes h' (at_ pos Obj.WC_E_KEY)
  if !getB h' (at_ pos Obj.WC_E_VALID) then none
  else if (key.headD 0).toNat > 15 || maskKey h' key != key then some (.table 0x84)
  else if andBytes key (getBytes h' (at_ pos Obj.WC_W_MASK)) != key then some (.table 0x85)
  else none

/-- R149: the checks of a multicast group. (DEDUCED, log 13) -/
def mcCheck (h' : Hub) (pos : Nat) : Option Abort :=
  let ms := mcMembers h' pos
  let n := getN h' (at_ pos Obj.M_COUNT)
  if n > 16 || n == 0 || !(ms.map (subPort h')).Nodup then some (.table 0x82) else none

/-- R149, R145: after a commit of an exact entry: hit counters cleared when the key changes or the entry is cleared, and
the policers' use. -/
def exactApply (h h' : Hub) (pos : Nat) : Hub :=
  let clear := getBytes h (at_ pos Obj.EX_E_KEY) != getBytes h' (at_ pos Obj.EX_E_KEY)
    || (getB h (at_ pos Obj.EX_E_VALID) && !getB h' (at_ pos Obj.EX_E_VALID))
  let h' := if clear then setN (setN h' (at_ pos Obj.EX_E_HIT_FRAMES) 0) (at_ pos Obj.EX_E_HIT_BYTES) 0 else h'
  policerFollow h h' pos

def wildApply (h h' : Hub) (pos : Nat) : Hub :=
  let clear := getBytes h (at_ pos Obj.WC_E_KEY) != getBytes h' (at_ pos Obj.WC_E_KEY)
    || (getB h (at_ pos Obj.WC_E_VALID) && !getB h' (at_ pos Obj.WC_E_VALID))
  let h' := if clear then setN (setN h' (at_ pos Obj.WC_E_HIT_FRAMES) 0) (at_ pos Obj.WC_E_HIT_BYTES) 0 else h'
  policerFollow h (policerFollow h h' (getN h (at_ pos Obj.WC_E_POLICER))) (getN h' (at_ pos Obj.WC_E_POLICER))

/-- R148: a policer COMMIT of RFC 2698 with PIR below CIR is refused. -/
def policerCheck (h' : Hub) (n : Nat) : Option Abort :=
  if getN h' (at_ n Obj.PL_MODE) == 0 && decide (getN h' (at_ n Obj.PL_RATE2) < getN h' (at_ n Obj.PL_CIR)) then
    some (.table 0x83) else none

/-- R148: refilled at the old rates, clamped to the new sizes; a change of mode refills both. -/
def policerApply (h h' : Hub) (n : Nat) : Hub :=
  let b := policerBuckets h n
  let b : Buckets :=
    if getN h (at_ n Obj.PL_MODE) != getN h' (at_ n Obj.PL_MODE) then fullBuckets h' n
    else { a := clampTo b.a (getN h' (at_ n Obj.PL_CBS)), b := clampTo b.b (getN h' (at_ n Obj.PL_BURST2)) }
  { h' with policers := mset h'.policers n b }

/-- R136, R152: the checks of a profile write: CONST bases, then idleness, then the fixed mask bytes. -/
def profileBusy (h : Hub) (p : Nat) : Bool :=
  (validExact h).any (fun x => (getBytes h (at_ x Obj.EX_E_KEY)).headD 0 == BitVec.ofNat 8 p)
  || (validWild h).any (fun x => (getBytes h (at_ x Obj.WC_E_KEY)).headD 0 == BitVec.ofNat 8 p)

def maskOk (p : Nat) (m : List Byte) : Bool :=
  m[0]? == some 0xFF && m[2]? == some 0xFF && m[3]? == some 0x00
  && (m[1]? == some 0x00 || (decide (11 ≤ p) && m[1]? == some 0xFF))

end Sys2Proof.Machine
end

