-- ==== Sys2Proof/Machine/Switch.lean ====
section
/-! DEFINITION. One Grate step: the first stage's owned and fill write windows (R115-R118), the second stage's read windows
(R121), delivery in order with the sequence check (R122), launch times (R172, R173), and the Hearth's background work:
write-backs (R97), the patrol scrubber (R98), audits (R106). -/

namespace Sys2Proof.Machine

/-! The first stage -/

/-- R117: the ports with an ingress: one of each bonded pair, none reserved or absent. -/
def livePorts (h : Hub) : List Nat :=
  (List.range 29).filter (fun p => bondBase p == p && p != 27 && h.part.has (gpUnit p))

/-- R117: the cells in each port's stager at the start of a step. -/
def stagers (h : Hub) : SMap (List (Nat × Nat)) :=
  (livePorts h).map (fun p => (p, (waitingCells h p).take (stagerSize p)))

/-- R119: an earlier frame of the same pair from the port is not written whole yet: the descriptor records the number of a frame's
first cell alone, so the cells of one frame take consecutive numbers. R245: nor is an earlier TLP from the port that goes to a leaf queue of
this one's, whatever its pair: TLPs of one subscriber and class are linked in the order in which they entered. (DEDUCED, log 25) -/
def pairBusy (h : Hub) (f : GFrame) : Bool :=
  ((mget h.grate.ingress [] (bondBase f.inPort)).takeWhile (· != f.id)).any (fun id =>
    match findFrame h id with
    | some e => e.pair == f.pair
      || (isTlp e.frame.hdr && isTlp f.frame.hdr && e.refs.any (fun r => f.refs.any (fun x => leafOf x.queue == leafOf r.queue)))
    | none => false)

/-- R117: the cell of a port that is ready for slice s: the oldest in its stager that is its frame's next and whose frame
still holds a reservation there. -/
def readyCell (h : Hub) (st : List (Nat × Nat)) (s : Nat) : Option (Nat × Nat) :=
  if !transitRoom h s then none
  else st.find? (fun x => match findFrame h x.1 with
    | some f => f.written.length == x.2 && decide (0 < mget f.reserved 0 s) && !pairBusy h f
    | none => false)

/-- A bank group can be used: in service and its domain On; a request to a sleeping group wakes it (R388). -/
def sliceUsable (h : Hub) (s : Nat) : Bool := groupState h s == 0 && domOn h s

/-- R117, R114, R119, R510: write the next cell of a frame in slice s. -/
def writeCell (h : Hub) (p id s : Nat) (fill : Bool) : Hub :=
  match findFrame h id with
  | none => h
  | some f =>
    let i := f.written.length
    let n := mget h.grate.seq 0 f.pair
    let c : Cell := { idx := i, group := s, row := pickRow h s, seq := n }
    let h := setGrate (tick h) (fun g => { g with seq := mset g.seq f.pair ((n + 1) % 4096) })
    let f := { f with
      written := f.written ++ [c]
      firstSeq := if i == 0 then n else f.firstSeq
      reserved := mset f.reserved s (mget f.reserved 0 s - 1) }
    let h := putFrame h f
    let h := setFree h s (groupFree h s - 1)
    let h := storeBytes h (wordAddr s 0 c.row) ((f.frame.bytes.drop (256 * i)).take 256)
    let h := forEach (List.range 8) h (fun h b => dropWriteBack h s b c.row)
    let h := { h with bellows := { h.bellows with written := h.bellows.written + 1 } }
    let h := bump (peak h Obj.OCCUPANCY_PEAK (occupancy h)) (Obj.CELLS_IN p)
    let h := if fill then bump h (Obj.FILL_WRITES p) else h
    if f.written.length == f.cells then
      linkFrame (setGrate h (fun g => { g with ingress := mset g.ingress p ((mget g.ingress [] p).filter (· != id)) })) id
    else h

/-- The progress of a step's write windows: the hub, the stagers, the windows declined, the fills each port took. -/
structure WriteStep where
  hub : Hub
  st : SMap (List (Nat × Nat))
  declined : List Nat
  fills : SMap Nat
deriving Inhabited

/-- R116, R117, R118: the owned write window of slice s in step t. -/
def ownedWrite (t : Nat) (w : WriteStep) (s : Nat) : WriteStep :=
  let i := (s + 32 - t) % 32
  let p := bondBase i
  if groupState w.hub s != 0 then w
  else match readyCell w.hub (mget w.st [] p) s with
    | some (id, k) =>
      if domOn w.hub s then
        { w with hub := writeCell w.hub p id s false, st := mset w.st p ((mget w.st [] p).filter (· != (id, k))) }
      else { w with hub := wakeDomain w.hub s .grate }
    | none => { w with declined := w.declined ++ [s] }

/-- Ports after the one granted last, in round robin. -/
def roundRobin (last : Nat) : List Nat := (List.range 32).map (fun i => (last + 1 + i) % 32)

/-- R117: one declined window offered as fill: the next input in round robin with a further ready cell. -/
def fillWrite (w : WriteStep) (s : Nat) : WriteStep :=
  let can (p : Nat) : Bool := bondBase p == p && decide (mget w.fills 0 p < (bondMembers p).length)
    && (readyCell w.hub (mget w.st [] p) s).isSome
  if !sliceUsable w.hub s then w
  else match (roundRobin w.hub.grate.lastFillW).find? can with
    | none => w
    | some p => match readyCell w.hub (mget w.st [] p) s with
      | none => w
      | some (id, k) =>
        let h := setGrate (writeCell w.hub p id s true) (fun g => { g with lastFillW := p })
        { hub := h, st := mset w.st p ((mget w.st [] p).filter (· != (id, k))), declined := w.declined
          fills := mset w.fills p (mget w.fills 0 p + 1) }

/-- R115-R118: the write windows of one step. The manual gives no order in which several declined windows are offered as fill: the
model offers them by ascending slice. (DESIGN CHOICE, log 51) -/
def writeWindows (h : Hub) : Hub :=
  let st := stagers h
  let h := forEach (livePorts h) h (fun h p =>
    if stagerFull h p then bump h (Obj.STAGER_FULL_STEPS p) else h)
  let w := (List.range 32).foldl (ownedWrite h.grate.t) ⟨h, st, [], []⟩
  if getB h Obj.FILL_ENABLE then (w.declined.foldl fillWrite w).hub else w.hub

/-! The second stage -/

/-- R121: the oldest unread cell of a port's window in a slice. -/
def oldestIn (h : Hub) (p s : Nat) : Option WinCell :=
  if !transitRoom h s then none else (mget h.grate.win [] p).find? (fun w => !w.read && w.group == s)

/-- R173: the last cell of a reference has reached the egress at the present network time. -/
def noteRead (h : Hub) (p id q : Nat) : Hub :=
  if ((mget h.grate.win [] p).filter (fun w => w.frame == id && w.queue == q)).all (·.read) then
    setGrate h (fun g => { g with frames := g.frames.map (fun f => if f.id != id then f else
      { f with refs := f.refs.map (fun r => if r.queue == q then { r with readAt := some h.cNet } else r) }) })
  else h

/-- R94, R97, R121: read a cell from its slot through port A: the bytes of its frame that lie there. Errors of this read are
corrected, or mark the frame, which is then discarded. -/
def readCell (m : List Host.Cell) (h : Hub) (p : Nat) (c : WinCell) (ecc : List EccError) (fill : Bool) : Hub :=
  let same (w : WinCell) : Bool := w.frame == c.frame && w.queue == c.queue && w.idx == c.idx
  let size := match findFrame h c.frame with
    | some f => min 256 (f.frame.bytes.length - 256 * c.idx)
    | none => 0
  let here := ecc.filter (fun e => e.group == c.group && e.row == c.row)
  let (x, h) := eccErrors h here false (liveWord m h)
  let a := wordAddr c.group 0 c.row
  let bs := (List.range size).map (fun i => x.byte (a + i) (liveByte m h (a + i)))
  let h := setGrate h (fun g => { g with win := mset g.win p ((mget g.win [] p).map (fun w =>
    if same w then { w with read := true, data := bs } else w)) })
  let h := noteRead (if fill then bump h (Obj.FILL_READS p) else h) p c.frame c.queue
  if x.bad then eccDiscard h c.frame else h

/-- The progress of a step's read windows. -/
structure ReadStep where
  hub : Hub
  declined : List Nat
  fills : SMap Nat
deriving Inhabited

/-- R121: the owned read window of slice s in step t. -/
def ownedRead (m : List Host.Cell) (t : Nat) (ecc : List EccError) (w : ReadStep) (s : Nat) : ReadStep :=
  let p := bondBase ((s + t) % 32)
  if groupState w.hub s != 0 then w
  else match oldestIn w.hub p s with
    | some c => if domOn w.hub s then { w with hub := readCell m w.hub p c ecc false } else { w with hub := wakeDomain w.hub s .grate }
    | none => { w with declined := w.declined ++ [s] }

/-- R121: one declined read window offered as fill. -/
def fillRead (m : List Host.Cell) (ecc : List EccError) (w : ReadStep) (s : Nat) : ReadStep :=
  let can (p : Nat) : Bool := bondBase p == p && decide (mget w.fills 0 p < (bondMembers p).length) && (oldestIn w.hub p s).isSome
  if !sliceUsable w.hub s then w
  else match (roundRobin w.hub.grate.lastFillR).find? can with
    | none => w
    | some p => match oldestIn w.hub p s with
      | none => w
      | some c =>
        { w with hub := setGrate (readCell m w.hub p c ecc true) (fun g => { g with lastFillR := p })
                 fills := mset w.fills p (mget w.fills 0 p + 1) }

/-- R121: the read windows of one step; several declined ones are offered as fill by ascending slice, of which the manual says nothing.
(DESIGN CHOICE, log 51) -/
def readWindows (m : List Host.Cell) (h : Hub) (ecc : List EccError) : Hub :=
  let w := (List.range 32).foldl (ownedRead m h.grate.t ecc) ⟨h, [], []⟩
  if getB h Obj.FILL_ENABLE then (w.declined.foldl (fillRead m ecc) w).hub else w.hub

/-! Delivery (R122, R172, R173) -/

/-- The reference of a frame in a queue. -/
def refOf (f : GFrame) (q : Nat) : Option Ref := f.refs.find? (fun r => r.queue == q)

/-- R173: what a late frame counts: one that reached the egress whole, at `at_`, after its launch time. -/
def countLate (h : Hub) (p q len : Nat) (at_' l : Nat) : Hub :=
  if at_' ≤ l then h
  else
    let h := bump h (at_ p Obj.GATE_LATE)
    let e := h.cNet + sendTime h p (shapeLen h p len)
    let (g, s) := swapChain (operList h p) (mget h.damper.pending [] p) (mget h.damper.past [] p)
    if gateOpenSwaps g (svcOf h (qSub q) % 8) s l e then h
    else bump h (at_ p Obj.GATE_OVERRUN)

/-- R122: deliver the first cell of a port's window to the attached unit, its sequence number checked. The port unit that takes the
fault of a mismatch at a bonded pair the manual does not name: the model takes the lower member's. (DESIGN CHOICE, log 51) What is
delivered last of a packet's own references carries on its credit (R194, R246); a mirror copy carries none. (DEDUCED, log 31) -/
def deliverCell (h : Hub) (p : Nat) (c : WinCell) (seqBad : Bool) : Hub :=
  match findFrame h c.frame with
  | none => setGrate h (fun g => { g with win := mset g.win p ((mget g.win [] p).drop 1) })
  | some f =>
    if seqBad || c.seq != (f.firstSeq + c.idx) % 4096 then
      let h := setFlag (dropRef h c.frame c.queue (Obj.ASH_SEQUENCE p) p) (Obj.SEQ_ERROR p)
      later h (.fault (gpUnit p))
    else
      let r := (refOf f c.queue).getD default
      let h := setGrate h (fun g => { g with win := mset g.win p ((mget g.win [] p).drop 1) })
      let h := peak (bump h (Obj.CELLS_OUT p)) (Obj.READ_DELAY_MAX p) (getN h Obj.STEPS - r.releasedAt)
      let f' := { f with refs := f.refs.map (fun x => if x.queue == c.queue then { x with delivered := c.idx + 1, got := r.got ++ c.data } else x) }
      if c.idx + 1 == f.cells then
        let h := bump (putFrame h f') (Obj.FRAMES_OUT p)
        let whole := { f.frame with bytes := r.got ++ c.data }
        let mine := !mirrorQueue c.queue && f.refs.all (fun x => x.queue == c.queue || mirrorQueue x.queue)
        later (removeRef h f.id c.queue true) (.delivered p c.queue { f with
          frame := if mine then whole else fromOutside whole
          refs := [r] })
      else putFrame h f'

/-- R172: the frame at the head of a window may be delivered in this step: it has no launch time, or all of its cells are
read and its launch time has passed. A MAC that PAUSE holds finishes a frame that it has started (R221). -/
def deliverable (h : Hub) (p : Nat) (c : WinCell) : Bool :=
  c.read && (!h.grate.stalled.contains p || (7 ≤ p && p ≤ 12 && c.idx != 0)) &&
  match findFrame h c.frame with
  | none => true
  | some f => match (refOf f c.queue).bind (·.launch) with
    | none => true
    | some l =>
      decide (l ≤ h.cNet) && ((mget h.grate.win [] p).filter (fun w => w.frame == c.frame && w.queue == c.queue)).all (·.read)

/-- Deliver from a window in order while its first cell can be. -/
def deliverLoop (p : Nat) (bad : Bool) : Nat → Hub → Hub
  | 0, h => h
  | n + 1, h =>
    match mget h.grate.win [] p with
    | [] => h
    | c :: _ =>
      if deliverable h p c then
        let r := ((findFrame h c.frame).bind (fun f => refOf f c.queue)).getD default
        let late := match r.launch with
          | some l => if c.idx == 0 then countLate h p c.queue (frameLen h c.frame) (r.readAt.getD l) l else h
          | none => h
        deliverLoop p false n (deliverCell late p c bad)
      else h

/-- R113: the ports whose attached unit holds something for want of room: frames at the port, and at GP13 those of transmit rings. -/
def withheld (h : Hub) : List Nat :=
  let ps := h.grate.atPort.map (·.1)
  if h.nic.tx.any (fun r => r.2.head != r.2.tail) then insertNew ps 13 else ps

/-- R117, R121, R122, R113: one Grate step. -/
def grateStep (m : List Host.Cell) (h : Hub) (x : StepFaults) : Hub :=
  let h := writeWindows h
  let h := bump (readWindows m h x.ecc) Obj.STEPS
  let h := forEach (livePorts h) h (fun h p => deliverLoop p (x.seqBad.contains p) 64 h)
  let h := setGrate h (fun g => { g with t := (g.t + 1) % 32 })
  forEach (withheld h) h (fun h p => later h (.stagerRoom p))

/-- R172: at the launch time, the frame that the egress of a port holds leaves. -/
def egressLaunch (h : Hub) (port : Nat) : Hub :=
  let p := bondBase port
  let h := dropOversize h p
  match mget h.grate.win [] p with
  | [] => h
  | c :: _ =>
    let n := match findFrame h c.frame with
      | some f => f.cells
      | none => 1
    if deliverable h p c then deliverLoop p false n h else h

/-! Background work of the Hearth -/

/-- R97: the port's next idle slot writes one correction back; it changes no byte unless the code corrected wrongly. -/
def eccWriteBack (h : Hub) (portB : Bool) (group : Nat) : Hub :=
  match h.hearth.writeBacks.find? (fun w => w.portB == portB && w.group == group) with
  | none => h
  | some w =>
    let h := { h with hearth := { h.hearth with writeBacks := h.hearth.writeBacks.erase w } }
    match w.data with
    | some bs => storeBytes h (wordAddr w.group w.bank w.row) bs
    | none => h

/-- R98: a word is allocated: a cell, a piece or a relief row of a group in service holds its slot. -/
def allocated (h : Hub) (g r : Nat) : Bool := groupState h g == 0 && decide (r < h.part.rows) && rowBusy h g r

/-- R98: a scrubber pass completes: errors it found in allocated words are handled as R97 states, and no master hears of them; what
it found in a slot that has been freed since is discarded. -/
def patrolScrub (m : List Host.Cell) (h : Hub) (errs : List EccError) : Hub :=
  bump (eccErrors h (errs.filter (fun e => allocated h e.group e.row)) true (liveWord m h)).2 Obj.SCRUB_PASSES

/-- R106: the snapshots of all 32 groups, and what they say. -/
def auditAll (h : Hub) : Hub :=
  let h := forEach (List.range 32) h (fun h g =>
    let h := setN h (at_ g Obj.G_A_FREE) (groupFree h g)
    let h := setN h (at_ g Obj.G_A_QUEUED) (groupQueued h g)
    let h := setN h (at_ g Obj.G_A_IN_TRANSIT) (groupTransit h g)
    let h := setN h (at_ g Obj.G_A_SURFACE) (groupPieces h g)
    let h := setB h (at_ g Obj.G_A_BALANCED) (groupBalanced h g)
    if groupBalanced h g then later h (.cleared 0x1104 (bankUnit (8 * g)))
    else report (setFlag h Obj.AUDIT_MISMATCH) 0x1104 (bankUnit (8 * g)))
  setN h Obj.AUDIT_STATUS (if (List.range 32).all (groupBalanced h) then 2 else 3)

end Sys2Proof.Machine
end

