-- ==== Sys2Proof/Machine/Allot.lean ====
section
/-! DEFINITION. The allotment controller (R204-R219): the allotted rate of a port, demand and target, the pass with its
water filling, and the order in which its commits are applied. -/

namespace Sys2Proof.Machine

/-- R204: the port index k of the USB4 port at Grate ports 1 and 3-5. -/
def usb4OfPort (p : Nat) : Nat := if p == 1 then 0 else p - 2

/-- Table 11.1: the sum of the allocations granted to the tunnels at a DP OUT adapter, if one uses bandwidth allocation mode. -/
def allocSum (h : Hub) (adapter : Nat) : Option Nat :=
  let ps := h.usb4.paths.filter (fun x => x.2.state == 1 && x.2.spec.outAdapter == adapter && x.2.spec.bandwidthMode)
  if ps.isEmpty then none else some (sumOf (fun x => mget h.usb4.dpAlloc 0 x.1) ps)

/-- Table 11.1: the source rate of a port. -/
def sourceRate (h : Hub) (p : Nat) : Nat :=
  if p == 1 then getN h (Obj.TX_RATE 0)
  else if 3 ≤ p ∧ p ≤ 5 then
    let k := usb4OfPort p
    let tx := getN h (Obj.TX_RATE k)
    if getN h (Obj.LINK_MODE k) == 8 then (allocSum h (19 + k)).getD tx else tx
  else if 21 ≤ p ∧ p ≤ 23 then (allocSum h (p - 12)).getD (lineRate h p)
  else lineRate h p

/-- R204: A_p; at a bonded pair AP_UTIL and AP_LIMIT are the lower member's. (DESIGN CHOICE, log 29) -/
def allotted (h : Hub) (p : Nat) : Nat :=
  min (sourceRate h p * getN h (at_ p Obj.AP_UTIL) / 1000) (getN h (at_ p Obj.AP_LIMIT))

/-- R204: a managed port; AP_ENABLE of either member manages a bonded pair. (DEDUCED, log 29) -/
def managedPort (h : Hub) (p : Nat) : Bool :=
  (bondMembers p).any (fun m => getB h (at_ m Obj.AP_ENABLE)) && h.part.has (gpUnit p)

/-- R205: a managed subscriber. -/
def managedSub (h : Hub) (u : Nat) : Bool := getN h (at_ u Obj.AS_MODE) == 1 && managedPort h (subPort h u)

/-- Subscribers whose AS_MODE is 1, and those that are enabled, ascending. -/
def modeSubs (h : Hub) : List Nat :=
  (h.dict.filter (fun x => x.1 % 0x1000000 == Obj.AS_MODE && x.2 == .int 1)).map (fun x => keyPos x.1)
def enabledSubs (h : Hub) : List Nat :=
  (h.dict.filter (fun x => x.1 % 0x1000000 == Obj.SB_ENABLE && x.2 == .int 1)).map (fun x => keyPos x.1)

/-- The managed subscribers of a service. -/
def managedOf (h : Hub) (v : Nat) : List Nat := (modeSubs h).filter (fun u => managedSub h u && svcOf h u == v)

/-- R205: fixed_v and fixed_p. -/
def fixedOf (h : Hub) (v : Nat) : Nat :=
  sumOf (fun u => if svcOf h u == v && !managedSub h u then getN h (at_ u Obj.SB_CIR) else 0) (enabledSubs h)
def fixedPort (h : Hub) (p : Nat) : Nat := sumOf (fixedOf h) (portSvcs p)

/-- R207: demand at the end of a period of T µs. -/
def newDemand (d arr queued drain decay : Nat) : Nat :=
  let dem := arr + queued * 8000 / drain
  if dem ≥ d then dem else d - (d - dem) / 2 ^ decay

/-- R158, R180: bytes queued by a subscriber. -/
def subQueuedBytes (h : Hub) (u : Nat) : Nat := sumOf (fun c => queueBytes h (8 * u + c)) (List.range 8)

/-- R207: t_u. -/
def targetOf (h : Hub) (u : Nat) : Nat :=
  min (max (getN h (at_ u Obj.AS_DEMAND) * getN h Obj.AL_GAIN / 1000) (getN h (at_ u Obj.AS_MIN))) (getN h (at_ u Obj.AS_MAX))

def setAllot (h : Hub) (f : Allot → Allot) : Hub := { h with allot := f h.allot }

/-- R207: SB_ENQUEUED_BYTES of every subscriber now: a period begins. -/
def startPeriod (h : Hub) : Hub :=
  setAllot h (fun _ =>
    { enqueued := (h.dict.filter (fun x => x.1 % 0x1000000 == Obj.SB_ENQUEUED_BYTES)).map (fun x => (keyPos x.1, x.2.toInt.toNat))
      periodAt := h.cNet })

/-- R207: the same for the subscribers of one port, at the end of an immediate pass's measures. -/
def startPortPeriod (h : Hub) (p : Nat) (us : List Nat) : Hub :=
  setAllot h (fun x => { x with
    enqueued := us.foldl (fun e u => mset e u (getN h (at_ u Obj.SB_ENQUEUED_BYTES))) x.enqueued
    portAt := mset x.portAt p h.cNet })

/-- R207: T in ns: the time since the last pass over a port began a period. -/
def periodLen (h : Hub) (p : Nat) : Nat := h.cNet - mget h.allot.portAt h.allot.periodAt p

/-- R207: measure one managed subscriber and set its demand and target. A pass at the very time of the one before has no
period that ended, and measures no demand. (DEDUCED, log 29) -/
def measureSub (h : Hub) (u : Nat) : Hub :=
  let t := periodLen h (bondBase (subPort h u))
  let e := getN h (at_ u Obj.SB_ENQUEUED_BYTES)
  let arr := (e + 2 ^ 64 - mget h.allot.enqueued 0 u) % 2 ^ 64 * 8000000 / t
  let d := newDemand (getN h (at_ u Obj.AS_DEMAND)) arr (subQueuedBytes h u) (getN h Obj.AL_DRAIN) (getN h Obj.AL_DECAY)
  let h := if t == 0 then h else setN h (at_ u Obj.AS_DEMAND) d
  setN h (at_ u Obj.AS_TARGET) (targetOf h u)

/-- R207: measure every managed subscriber: a period ends, and the next begins. -/
def measure (h : Hub) : Hub := startPeriod (forEach ((modeSubs h).filter (managedSub h)) h measureSub)

/-- R207: the same for the managed subscribers of one port. -/
def measurePort (h : Hub) (p : Nat) : Hub :=
  let us := (modeSubs h).filter (fun u => managedSub h u && bondBase (subPort h u) == p)
  startPortPeriod (forEach us h measureSub) p us

/-! Water filling (R208) -/

/-- One round over the open members: each gets its weight's share of what the round began with, up to its room. -/
def fillRound (a0 w : Nat) (room wt : Nat → Nat) : List Nat → SMap Nat → Nat → Bool → SMap Nat × Nat × Bool
  | [], g, amount, rose => (g, amount, rose)
  | x :: r, g, amount, rose =>
    let s := min (a0 * wt x / w) (room x - mget g 0 x)
    fillRound a0 w room wt r (mset g x (mget g 0 x + s)) (amount - s) (rose || decide (s > 0))

/-- When no share rose: one each, in ascending order, while there is any left. -/
def fillOnes : List Nat → SMap Nat → Nat → SMap Nat × Nat
  | [], g, amount => (g, amount)
  | x :: r, g, amount => if amount == 0 then (g, 0) else fillOnes r (mset g x (mget g 0 x + 1)) (amount - 1)

/-- R208: the loop of waterfill. -/
def fillLoop (room wt : Nat → Nat) : Nat → List Nat → SMap Nat → Nat → SMap Nat
  | 0, _, g, _ => g
  | n + 1, open_, g, amount =>
    if amount == 0 || open_.isEmpty then g
    else
      let (g, left, rose) := fillRound amount (sumOf wt open_) room wt open_ g amount false
      let (g, left) := if rose then (g, left) else fillOnes open_ g left
      fillLoop room wt n (open_.filter (fun x => decide (mget g 0 x < room x))) g left

/-- R208: waterfill; each round closes a member or leaves less than one each, so four rounds a member suffice. -/
def waterfill (amount : Nat) (xs : List Nat) (room wt : Nat → Nat) : SMap Nat :=
  fillLoop room wt (4 * xs.length + 8) (xs.filter (fun x => decide (room x > 0))) [] amount

/-! One pass (R208-R210) -/

/-- What a pass computes: rates of services (g), wants, rates of subscribers, what is left, and whether a floor is unmet. -/
structure Allocation where
  want : SMap Nat := []
  grant : SMap Nat := []
  cir : SMap Nat := []
  left : Nat := 0
  short : Bool := false
deriving DecidableEq, Repr, Inhabited

/-- Services of a port in descending SV_PRIORITY, ascending number within one. -/
def priorityOrder (h : Hub) (p : Nat) : List Nat :=
  (List.range 8).reverse.flatMap (fun l => (portSvcs p).filter (fun v => getN h (at_ v Obj.SV_PRIORITY) == l))

/-- R208: floor and want of a service: a value clamped to its envelope. -/
def envelope (h : Hub) (v x : Nat) : Nat := min (max (getN h (at_ v Obj.AV_MIN)) x) (getN h (at_ v Obj.AV_MAX))
def floorOf (h : Hub) (v : Nat) : Nat := envelope h v (sumOf (fun u => getN h (at_ u Obj.AS_MIN)) (managedOf h v))
def wantOf (h : Hub) (v : Nat) : Nat := envelope h v (sumOf (targetOf h) (managedOf h v))

/-- R208, floors: each service in priority order takes its floor while rate is left. -/
def grantFloors (h : Hub) : List Nat → Nat → SMap Nat → SMap Nat × Nat
  | [], a, g => (g, a)
  | v :: r, a, g =>
    let x := min (floorOf h v) a
    grantFloors h r (a - x) (mset g v x)

/-- R208, demand above floors, level 7 to 0. -/
def grantLevels (h : Hub) (p : Nat) : List Nat → Nat → SMap Nat → SMap Nat × Nat
  | [], a, g => (g, a)
  | l :: r, a, g =>
    let vs := (portSvcs p).filter (fun v => getN h (at_ v Obj.SV_PRIORITY) == l)
    let x := waterfill a vs (fun v => wantOf h v - mget g 0 v) (fun v => getN h (at_ v Obj.SV_WEIGHT))
    grantLevels h p r (a - sumOf (fun v => mget x 0 v) vs) (vs.foldl (fun g v => mset g v (mget g 0 v + mget x 0 v)) g)

/-- R208: the rates of the managed subscribers of a service that holds g. -/
def shareService (h : Hub) (v g : Nat) : SMap Nat :=
  let m := managedOf h v
  let wt (u : Nat) := getN h (at_ u Obj.SB_WEIGHT)
  let add (c x : SMap Nat) : SMap Nat := m.foldl (fun c u => mset c u (mget c 0 u + mget x 0 u)) c
  let tot (c : SMap Nat) : Nat := sumOf (fun u => mget c 0 u) m
  let c := add [] (waterfill g m (fun u => getN h (at_ u Obj.AS_MIN)) wt)
  let c := add c (waterfill (g - tot c) m (fun u => targetOf h u - mget c 0 u) wt)
  add c (waterfill (g - tot c) m (fun u => getN h (at_ u Obj.AS_MAX) - mget c 0 u) wt)

/-- R208, R209, R211: the pass's result at a port. -/
def allocate (h : Hub) (p : Nat) : Allocation :=
  let vs := portSvcs p
  let want := vs.map (fun v => (v, wantOf h v))
  if fixedPort h p > allotted h p then
    { want := want, grant := vs.map (fun v => (v, 0)), cir := vs.flatMap (fun v => (managedOf h v).map (fun u => (u, 0)))
      left := 0, short := true }
  else
    let (g, a) := grantFloors h (priorityOrder h p) (allotted h p - fixedPort h p) []
    let short := vs.any (fun v => decide (mget g 0 v < floorOf h v))
      || vs.any (fun v => decide (mget g 0 v < sumOf (fun u => getN h (at_ u Obj.AS_MIN)) (managedOf h v)))
    let (g, a) := grantLevels h p (List.range 8).reverse a g
    { want := want, grant := g, cir := vs.flatMap (fun v => shareService h v (mget g 0 v)), left := a, short := short }

/-- R210, R167: one commit of SB_CIR, or of SV_CIR, by the controller. -/
def commitSbCir (h : Hub) (u r : Nat) : Hub := bump (subApply h (setN h (at_ u Obj.SB_CIR) r) u) (at_ u Obj.AS_CHANGES)
def commitSvCir (h : Hub) (v r : Nat) : Hub := svcApply h (setN h (at_ v Obj.SV_CIR) r) v

/-- R210: the four steps; unchanged values are not written. -/
def applyAllocation (h : Hub) (p : Nat) (x : Allocation) : Hub :=
  let sv := x.grant.map (fun g => (g.1, g.2 + fixedOf h g.1))
  let oldS (h : Hub) (u : Nat) := getN h (at_ u Obj.SB_CIR)
  let oldV (h : Hub) (v : Nat) := getN h (at_ v Obj.SV_CIR)
  let h0 := h
  let down := x.cir.filter (fun c => decide (c.2 < oldS h0 c.1))
  let downV := sv.filter (fun c => decide (c.2 < oldV h0 c.1))
  let upV := sv.filter (fun c => decide (c.2 > oldV h0 c.1))
  let up := x.cir.filter (fun c => decide (c.2 > oldS h0 c.1))
  let h := forEach down h (fun h c => commitSbCir h c.1 c.2)
  let h := forEach downV h (fun h c => commitSvCir h c.1 c.2)
  let h := addN h (at_ p Obj.AP_DECREASES) (down.length + downV.length)
  let h := forEach upV h (fun h c => commitSvCir h c.1 c.2)
  let h := forEach up h (fun h c => commitSbCir h c.1 c.2)
  addN h (at_ p Obj.AP_INCREASES) (up.length + upV.length)

/-- R208-R211: a pass over one port, from the demands in force. (DEDUCED, log 29) -/
def passPort (h : Hub) (p : Nat) : Hub :=
  let x := allocate h p
  let h := applyAllocation h p x
  let h := forEach x.want h (fun h w => setN h (at_ w.1 Obj.AV_WANT) w.2)
  let h := forEach x.grant h (fun h w => setN h (at_ w.1 Obj.AV_GRANT) w.2)
  if x.short then setFlag h (at_ p Obj.AP_SHORT) else h

/-- R460, R462: engines in service. -/
def enginesIn (h : Hub) : List Nat := (List.range 16).filter (fun e => inService h (engineUnit e))

/-- R214: a pass can run: the controller is enabled and an engine is in service. -/
def canPass (h : Hub) : Bool := getB h Obj.AL_ENABLE && !(enginesIn h).isEmpty

/-- R212: an immediate pass over one managed port. -/
def immediatePass (h : Hub) (p : Nat) : Hub :=
  let p := bondBase p
  if managedPort h p && canPass h then bump (passPort (measurePort h p) p) (at_ p Obj.AP_IMMEDIATE) else h

/-- R212: an immediate pass only if the port's allotted rate fell below what it was. -/
def passIfFell (h : Hub) (p was : Nat) : Hub := if allotted h p < was then immediatePass h p else h

/-- R212: what changes a port's allotted rate: if it fell, an immediate pass follows. -/
def underAllotment (h : Hub) (p : Nat) (f : Hub → Hub) : Hub := passIfFell (f h) p (allotted h p)

/-- The sum of the committed rates of a port's services. -/
def committedRate (h : Hub) (p : Nat) : Nat := sumOf (fun v => getN h (at_ v Obj.SV_CIR)) (portSvcs p)

/-- R217, R219, R211: what AP_RATE, AP_FIXED, AP_UNALLOTTED and AS_GRANT read: A_p, fixed_p, what of A_p the services do not
hold, and the SB_CIR in force; a port that is not managed reads 0. (DEDUCED, log 29) -/
def readAllot (h : Hub) (i s pos : Nat) : Option Val :=
  let p := bondBase pos
  let ofPort (n : Nat) : Option Val := some (.int ((if managedPort h p then n else 0 : Nat) : Int))
  match i, s with
  | 0x5402, 5 => ofPort (allotted h p)
  | 0x5402, 6 => ofPort (fixedPort h p)
  | 0x5402, 7 => ofPort (allotted h p - committedRate h p)
  | 0x5406, 7 => some (.int (getN h (at_ pos Obj.SB_CIR)))
  | _, _ => none

/-- R211, R212: a port comes back, or goes on, at a rate that the rates committed before do not fit: the decreases come first. -/
def fitAllotted (h : Hub) (p : Nat) : Hub := if committedRate h p > allotted h p then immediatePass h p else h

/-- The managed ports, ascending. -/
def managedPorts (h : Hub) : List Nat := (List.range 32).filter (fun p => bondBase p == p && managedPort h p)

/-- R214: a periodic pass of `duration` ns: measures, passes over every managed port, and counts itself and the passes
that came due while it ran. -/
def periodicPass (h : Hub) (duration : Nat) : Hub :=
  if canPass h then
    let h := measure h
    let h := forEach (managedPorts h) h passPort
    let h := setN (bump h Obj.AL_PASSES) Obj.AL_PASS_TIME duration
    addN h Obj.AL_OVERRUNS (duration / (getN h Obj.AL_PERIOD * 1000))
  else startPeriod h

/-- R205: a Damper COMMIT from another context that changes what the controller alone sets. -/
def allotRefuses (h h' : Hub) (sub : Bool) (n : Nat) : Bool :=
  getB h Obj.AL_ENABLE
  && (if sub then managedSub h n && getN h (at_ n Obj.SB_CIR) != getN h' (at_ n Obj.SB_CIR)
      else managedPort h (n / 8) && getN h (at_ n Obj.SV_CIR) != getN h' (at_ n Obj.SV_CIR))

end Sys2Proof.Machine
end

