-- ==== Sys2Proof/Machine/Keys.lean ====
section
/-! DEFINITION. The key store (R426-R436): slots, uses, persistent records, the commands of KC_OP and SPDM, and the tamper
erase (R437-R440). -/

namespace Sys2Proof.Machine

def setKeys (h : Hub) (f : Keys → Keys) : Hub := { h with keys := f h.keys }

def keySlot (h : Hub) (s : Nat) : KeySlot := mget h.keys.slots {} s

def putSlot (h : Hub) (s : Nat) (x : KeySlot) : Hub := setKeys h (fun k => { k with slots := mset k.slots s x })

/-- R439: the tamper latch. -/
def tampered (h : Hub) : Bool := getB h Obj.TP_TAMPERED

/-- R426: the attribute bits of KS_ATTRIBUTES. -/
def KeySlot.has (x : KeySlot) (bit : Nat) : Bool := bitOf x.attrs bit

def purposeMacsec : Nat := 8
def purposeWrap : Nat := 10
def purposeSign : Nat := 11
def purposeMac : Nat := 12
def purposeDerive : Nat := 13

/-- R428: KS_USES_LEFT. -/
def KeySlot.left (x : KeySlot) : Nat := x.limit - x.used

/-- R441: KS_STATE. -/
def KeySlot.state (x : KeySlot) : Nat := if x.alg == 0 then 0 else if x.limit != 0 && x.left == 0 then 2 else 1

/-- R441: KS_SECURE. -/
def secureState (h : Hub) : Nat := if tampered h then 1 else if h.keys.entropyBad then 2 else 0

/-- The length in bytes of a key of an algorithm. -/
def keyLen : Nat → Nat
  | 1 => 16 | 2 => 32 | 3 => 48 | 4 => 32 | 5 => 48 | _ => 0

/-- Table 23.1: the combination of an algorithm, an origin and attributes is permitted. -/
def attrsOk (alg attrs : Nat) (imported : Bool) : Bool :=
  decide (1 ≤ alg) && decide (alg ≤ 5)
  && (!bitOf attrs 1 || imported)
  && !(bitOf attrs 3 && bitOf attrs 4)
  && (!(bitOf attrs 8 || bitOf attrs 9 || bitOf attrs 10) || alg == 2)
  && (!bitOf attrs 11 || alg == 4 || alg == 5)
  && (!(bitOf attrs 12 || bitOf attrs 13) || alg == 3)

/-- The attributes as a slot holds them: origin in [0], use-limited in [2] by the limit. -/
def keepAttrs (attrs limit : Nat) (generated : Bool) : Nat :=
  (attrs &&& 0x3F1A) ||| (if generated then 1 else 0) ||| (if limit != 0 then 4 else 0)

/-! Persistent records (R433, R434) -/

/-- R433: the record in force of a slot, and its location. -/
def recordInForce (h : Hub) (s : Nat) : Option (Nat × KeyRecord) :=
  let ok (l : Nat) : Option (Nat × KeyRecord) :=
    match mget? h.keys.records (2 * s + l) with
    | some r => if r.ok && r.epoch == getN h Obj.TP_EPOCH then some (l, r) else none
    | none => none
  match ok 0, ok 1 with
  | some a, some b => if a.2.seq < b.2.seq then some b else some a
  | some a, none => some a
  | none, b => b

/-- R433: write a record at the location that does not hold the one in force; its sequence is one higher. (DEDUCED, log 41) -/
def writeRecord (h : Hub) (s : Nat) (x : KeySlot) : Hub :=
  let (l, q) := match recordInForce h s with
    | some (l, r) => (1 - l, r.seq + 1)
    | none => (0, 1)
  let h := setKeys h (fun k => { k with records := mset k.records (2 * s + l) ⟨q, getN h Obj.TP_EPOCH, true, x⟩ })
  send h (.flash "key record" [s, l, q])

/-- R433: a slot is persistent: the record in force holds a key. -/
def persists (h : Hub) (s : Nat) : Bool := (recordInForce h s).any (fun x => x.2.slot.alg != 0)

/-- R433, R441: KS_RECORD_SEQ. -/
def recordSeq (h : Hub) (s : Nat) : Nat := ((recordInForce h s).map (·.2.seq)).getD 0

/-- R433: whether a record write succeeds: of MAKE_PERSISTENT the row says so, of any other a free value does. (DESIGN CHOICE, log 8) -/
def recordWrites (h : Hub) : Bool × Hub := (Config.freeNat h.fresh % 2 == 0, tick h)

/-- R428, R434, R433: charge one use of a slot under its mutex: the abort when no use is left. A use beyond the ceiling of a
persistent key is preceded by a record with a new ceiling; where that fails the use is not granted. -/
def chargeUse (h : Hub) (s : Nat) : Option Abort × Hub :=
  let x := keySlot h s
  let charge (h : Hub) : Option Abort × Hub := (none, putSlot h s { keySlot h s with used := x.used + 1 })
  if x.limit == 0 then (none, h)
  else if x.left == 0 then (some .slotForbids, h)
  else if persists h s && decide (x.used + 1 > x.ceiling) then
    match recordWrites h with
    | (true, h) =>
      let y := { x with ceiling := min (x.used + 1024) x.limit }
      charge (writeRecord (putSlot h s y) s y)
    | (false, h) => (some (.table 0x81), bump h Obj.KS_RECORD_FAILS)
  else charge h

/-- R430, R440: an Erase of a slot has been granted. -/
def beingErased (h : Hub) (s : Nat) : Bool := h.keys.busy.any (fun o => o.op == 5 && o.slot == s)

/-- R427: a slot may be used for a purpose: it holds a key whose attributes name it. -/
def slotFor (h : Hub) (s purpose : Nat) : Bool := (keySlot h s).alg != 0 && (keySlot h s).has purpose && !beingErased h s

/-- R427, R428: use a slot for a purpose, or the abort. -/
def useSlot (h : Hub) (s purpose : Nat) : Option Abort × Hub := if slotFor h s purpose then chargeUse h s else (some .slotForbids, h)

/-- R427, R428: a slot has a use left for a purpose. -/
def usable (h : Hub) (s purpose : Nat) : Bool :=
  slotFor h s purpose && ((keySlot h s).limit == 0 || (keySlot h s).left != 0)

/-- R426, R441: install a key: KS_GENERATION rises. -/
def installKey (h : Hub) (s : Nat) (x : KeySlot) : Hub := putSlot h s { x with gen := (keySlot h s).gen + 1 }

/-- Empty a slot: KS_GENERATION rises, and an SA bound to it has no key any more (R440). -/
def emptySlot (h : Hub) (s : Nat) : Hub :=
  let h := { h with macs := { h.macs with keyed := h.macs.keyed.filter (fun x => x.2 != s) } }
  putSlot h s { gen := (keySlot h s).gen + 1 }

/-- R441: KS_PUBLIC of a slot. -/
def publicKey (x : KeySlot) : List Byte :=
  if x.alg == 5 then beBytes 97 (Config.crypto 1 x.key)
  else if x.alg == 4 then beBytes 65 (Config.crypto 1 x.key) ++ List.replicate 32 0
  else List.replicate 97 0

/-! Derivation and random numbers (R431) -/

/-- SHA-384 and HMAC-SHA-384, uninterpreted. (DESIGN CHOICE, log 10) -/
def sha384 (bs : List Byte) : List Byte := beBytes 48 (Config.crypto 2 bs)
def hmac (key msg : List Byte) : List Byte := beBytes 48 (Config.crypto 3 (key ++ msg))

/-- R431: SP 800-108 in counter mode: L bits under a parent key. -/
def kdf (key label context : List Byte) (bits : Nat) : List Byte :=
  (((List.range (ceilDiv bits 384)).map (fun i =>
    hmac key (beBytes 4 (i + 1) ++ label ++ [0] ++ context ++ beBytes 4 bits))).flatten).take (bits / 8)

/-- The order of the group of P-256 (4) and of P-384 (5), as FIPS 186 has it. (PRESUMED, log 56) -/
def curveOrder (alg : Nat) : Nat :=
  if alg == 4 then 0xFFFFFFFF00000000FFFFFFFFFFFFFFFFBCE6FAADA7179E84F3B9CAC2FC632551
  else 0xFFFFFFFFFFFFFFFFFFFFFFFFFFFFFFFFFFFFFFFFFFFFFFFFC7634D81F4372DDF581A0DB248B0A77AECEC196ACCC52973

/-- R431: the key of an algorithm that is derived: of ECDSA, d = (K mod (n - 1)) + 1 of 64 bits more than the order has. -/
def deriveKey (key label context : List Byte) (alg : Nat) : List Byte :=
  if alg == 4 || alg == 5 then
    beBytes (keyLen alg) (beNat (kdf key label context (8 * keyLen alg + 64)) % (curveOrder alg - 1) + 1)
  else kdf key label context (8 * keyLen alg)

/-- R438: the OTP device secret, whose read path the tamper latch gates off. -/
def deviceSecret (h : Hub) : List Byte := if tampered h then [] else Config.deviceSecret

/-- R435: the device identity key, ECDSA P-384. The characters of IDENTITY in ASCII. -/
def identityKey (h : Hub) : List Byte :=
  deriveKey (deviceSecret h) [0x49, 0x44, 0x45, 0x4E, 0x54, 0x49, 0x54, 0x59] (leBytes 16 Config.serial) 5

/-- SP 800-90A, HMAC_DRBG: the state is updated. -/
def drbgUpdate (k v data : List Byte) : List Byte × List Byte :=
  let k1 := hmac k (v ++ [0] ++ data)
  let v1 := hmac k1 v
  if data.isEmpty then (k1, v1)
  else
    let k2 := hmac k1 (v1 ++ [1] ++ data)
    (k2, hmac k2 v1)

/-- R431: the DRBG takes new entropy, which is a free value: it starts, or is reseeded. (DESIGN CHOICE, log 8) -/
def drbgSeed (h : Hub) : Hub :=
  let (k, v) := if h.keys.drbgK.isEmpty then (List.replicate 48 0, List.replicate 48 1) else (h.keys.drbgK, h.keys.drbgV)
  let (k, v) := drbgUpdate k v (beBytes 48 (Config.freeNat h.fresh))
  setKeys (tick h) (fun x => { x with drbgK := k, drbgV := v, drbgUses := 0 })

/-- R431: up to 48 random bytes, the DRBG reseeded after every 65,536 generate requests. -/
def drbg (h : Hub) (n : Nat) : List Byte × Hub :=
  let h := if h.keys.drbgK.isEmpty || 65536 ≤ h.keys.drbgUses then drbgSeed h else h
  let out := hmac h.keys.drbgK h.keys.drbgV
  let (k, v) := drbgUpdate h.keys.drbgK out []
  (out.take n, setKeys h (fun x => { x with drbgK := k, drbgV := v, drbgUses := x.drbgUses + 1 }))

/-- R430: an ECDSA signature r ‖ s over a digest, its random number the DRBG's. -/
def ecdsa (h : Hub) (alg : Nat) (key digest : List Byte) : List Byte × Hub :=
  let (r, h) := drbg h 48
  (beBytes (if alg == 5 then 96 else 64) (Config.crypto 6 (key ++ digest ++ r)), h)

/-! Operations (Table 23.2) -/

/-- R432, R435: an access arrives inside an SPDM session: one is open on its carrier. -/
def inSession (h : Hub) (src : Src) : Bool := src.session && (mget? h.keys.sessions (ctxNo src.ctx)).isSome

/-- R432, R439, R435: what gates a write to the key store's command objects, classes 0x03 and 0x09. -/
def keyGate (h : Hub) (src : Src) (k : Nat) : Option Abort :=
  if k == Obj.KC_OP then
    if !bitOf (getN h Obj.KS_CARRIERS) (ctxNo src.ctx) then some .carrier
    else if tampered h then some .tampered
    else if getB h Obj.KS_SESSION_REQUIRED && !inSession h src then some .session
    else none
  else if k == Obj.KS_CARRIERS || k == Obj.KS_SESSION_REQUIRED then
    if getB h Obj.KS_SESSION_REQUIRED && !inSession h src then some .session else none
  else if k == Obj.SPDM_REQUEST && tampered h then some .tampered
  else none

/-- R431: the plaintext of a blob: algorithm, attributes, use limit, key. -/
def blobText (x : KeySlot) : List Byte := leBytes 1 x.alg ++ leBytes 2 x.attrs ++ leBytes 4 x.limit ++ x.key

/-- R431: the imported key that a plaintext describes. -/
def blobKey (bs : List Byte) : Option KeySlot :=
  let alg := leNat (bs.take 1)
  let attrs := leNat ((bs.drop 1).take 2)
  let limit := leNat ((bs.drop 3).take 4)
  let key := bs.drop 7
  if decide (7 ≤ bs.length) && attrsOk alg attrs true && key.length == keyLen alg then
    some { alg := alg, attrs := keepAttrs attrs limit false, limit := limit, key := key }
  else none

/-- R436: the statement of a slot. -/
def statement (h : Hub) (s : Nat) (nonce : List Byte) : List Byte × Hub :=
  let x := keySlot h s
  let mid := if x.alg == 4 || x.alg == 5 then sha384 (publicKey x) else hmac x.key nonce
  let body := [1] ++ leBytes 1 s ++ leBytes 1 x.alg ++ [0] ++ leBytes 2 x.attrs ++ [0, 0] ++ leBytes 4 x.gen
    ++ leBytes 4 x.left ++ nonce ++ mid ++ leBytes 16 Config.serial
  let (sig, h) := ecdsa h 5 (identityKey h) (sha384 body)
  (body ++ sig, h)

/-- R430, R69: grant an operation with the parameters of its context: the abort, class 0x09 before 0x07, or what the operation does when it
completes, with the hub after it. A use that has been charged stays charged where the operation then fails (R428). -/
def keyGrant (h : Hub) (src : Src) (op : Nat) : Except Abort KeyOp × Hub :=
  let c := src.ctx
  let s := selN h c Obj.KC_SLOT
  let parent := selN h c Obj.KC_PARENT
  let input := selBytes h c Obj.KC_INPUT
  let alg := selN h c Obj.KC_ALGORITHM
  let attrs := selN h c Obj.KC_ATTRIBUTES
  let limit := selN h c Obj.KC_USE_LIMIT
  let x := keySlot h s
  let full := x.alg != 0
  let empty := !full || beingErased h s
  let todo : KeyOp := { ctx := c, op := op, slot := s }
  let no (a : Abort) : Except Abort KeyOp × Hub := (.error a, h)
  let imported (k : Option KeySlot) : KeyOp := match k with
    | some k => { todo with install := some k }
    | none => { todo with fails := some (.table 0x82) }
  let charged (slot purpose : Nat) (f : Hub → KeyOp × Hub) : Except Abort KeyOp × Hub := match useSlot h slot purpose with
    | (some a, h) => (.error a, h)
    | (none, h) => let (o, h) := f h; (.ok o, h)
  match op with
  | 1 =>
    if h.keys.entropyBad then no ⟨0x09, 0x80⟩
    else if full then no (.table 0x80)
    else if !attrsOk alg attrs false then no (.table 0x82)
    else
      let (key, h) := drbg h (keyLen alg)
      (.ok { todo with install := some { alg := alg, attrs := keepAttrs attrs limit true, limit := limit, key := key } }, h)
  | 2 =>
    if parent == 0xFF then
      if !inSession h src then no .session
      else if full then no (.table 0x80)
      else match blobKey input with
        | some k => (.ok (imported (some k)), h)
        | none => no (.table 0x82)
    else if !usable h parent purposeWrap then no .slotForbids
    else if full then no (.table 0x80)
    else charged parent purposeWrap (fun h => (imported ((Config.kwpInv (keySlot h parent).key input).bind blobKey), h))
  | 3 =>
    let p := keySlot h parent
    if !usable h parent purposeDerive then no .slotForbids
    else if full then no (.table 0x80)
    else if !attrsOk alg attrs (!p.has 0) then no (.table 0x82)
    else charged parent purposeDerive (fun h => ({ todo with install := some {
      alg := alg, attrs := keepAttrs attrs limit (p.has 0), limit := limit
      key := deriveKey p.key (selBytes h c Obj.KC_LABEL) (selBytes h c Obj.KC_CONTEXT) alg } }, h))
  | 4 =>
    if empty || x.has 0 || !x.has 1 then no .slotForbids
    else charged parent purposeWrap (fun h => ({ todo with output := Config.kwp (keySlot h parent).key (blobText x) }, h))
  | 5 => if empty then no .slotForbids else (.ok { todo with install := some {}, record := (recordInForce h s).isSome }, h)
  | 6 =>
    if empty || !x.has 4 then no .slotForbids
    else if decide (getN h Obj.TP_EPOCH ≥ 16) then no (.table 0x81)
    else (.ok { todo with record := true }, h)
  | 7 =>
    if !usable h s purposeSign then no .slotForbids
    else if input.length > 48 then no .tooLong
    else if input.length < 48 then no .tooShort
    else charged s purposeSign (fun h => let (sig, h) := ecdsa h x.alg x.key input; ({ todo with output := sig }, h))
  | 8 => charged s purposeMac (fun h => ({ todo with output := hmac x.key input }, h))
  | _ =>
    if empty then no .slotForbids
    else if input.length > 32 then no .tooLong
    else if input.length < 32 then no .tooShort
    else let (bs, h) := statement h s input; (.ok { todo with output := bs }, h)

/-- R440: the session whose traffic key stands in a slot that is erased has no key any more: it ends. -/
def keyErased (h : Hub) (s : Nat) : Hub :=
  match h.keys.sessions.find? (fun x => x.2.slots.contains s) with
  | some x => later h (.sessionLost x.1)
  | none => h

/-- R430, R433: an operation ends, and is answered so. `ok` false: the record write failed, which raises KS_RECORD_FAILS and leaves the
record in force. A target slot that another operation has filled meanwhile aborts as a full one does. Make persistent records the uses charged by then
as the ceiling (R434), so that none comes back. (DEDUCED, log 41) -/
def keyFinish (h : Hub) (o : KeyOp) (ok : Bool) : Answer × Hub :=
  let fail (h : Hub) (a : Abort) : Answer × Hub := (.abort a, setSel h o.ctx Obj.KC_STATUS (.int 3))
  match o.fails with
  | some a => fail h a
  | none =>
    let x := keySlot h o.slot
    if o.op ≤ 3 && x.alg != 0 && o.install.isSome then fail h (.table 0x80)
    else if o.record && !ok then fail (bump h Obj.KS_RECORD_FAILS) (.table 0x81)
    else
      let h := if !o.record then h
        else if o.op == 5 then writeRecord h o.slot {}
        else
          let y := { x with ceiling := x.used }
          writeRecord (putSlot h o.slot y) o.slot y
      let h := match o.install with
        | some k => if k.alg == 0 then emptySlot (keyErased h o.slot) o.slot else installKey h o.slot k
        | none => h
      let h := if o.output.isEmpty then h else setSel h o.ctx Obj.KC_OUTPUT (.bytes o.output)
      (.done, bump (setSel h o.ctx Obj.KC_STATUS (.int 2)) Obj.KS_OPERATIONS)

/-- R430: a write to KC_OP, as it is answered. Whether it completes within 4 ms, the manual leaves open for every operation: a free value. A
record write that fails within that time aborts with class 0x07, detail 0x81 (R433). (DESIGN CHOICE, log 8) -/
def keyCommand (h : Hub) (src : Src) (op : Nat) : Answer × Hub :=
  if h.keys.busy.any (fun o => o.ctx == src.ctx) then (.abort .pending, h)
  else match keyGrant h src op with
    | (.error a, h) => (.abort a, h)
    | (.ok o, h) =>
      if Config.freeNat h.fresh % 2 == 1 then
        (.abort .pending, setSel (setKeys (tick h) (fun k => { k with busy := k.busy ++ [o] })) src.ctx Obj.KC_STATUS (.int 1))
      else
        let (ok, h) := if o.op == 6 then (h.recordOk, h) else recordWrites (tick h)
        keyFinish h o ok

/-- R430: the oldest operation that took longer than 4 ms ends. (DEDUCED, log 41) -/
def keyDone (h : Hub) (ok : Bool) : Hub :=
  match h.keys.busy with
  | [] => h
  | o :: r => (keyFinish (setKeys h (fun k => { k with busy := r })) o ok).2

/-! Sessions (R427) -/

/-- R427: the highest-numbered empty slots. -/
def emptyTop (h : Hub) : List Nat := (List.range 64).reverse.filter (fun s => (keySlot h s).alg == 0)

/-- R427, R431: a session's traffic keys, one of each direction, are generated into the highest-numbered empty slots; without two of them, or
while generation aborts, there is no session. -/
def openSession (h : Hub) (c id : Nat) (doe : Bool) : Hub :=
  let ss := (emptyTop h).take 2
  if ss.length < 2 || h.keys.entropyBad then h
  else
    let h := forEach ss h (fun h s =>
      let (key, h) := drbg h 32
      installKey h s { alg := 2, attrs := 0x209, key := key })
    setKeys h (fun k => { k with sessions := mset k.sessions c { slots := ss, id := id, doe := doe } })

/-- R427: the session's keys are erased when it ends. -/
def closeSession (h : Hub) (c : Nat) : Hub :=
  let h := forEach ((mget? h.keys.sessions c).map (·.slots) |>.getD []) h emptySlot
  setKeys h (fun k => { k with sessions := merase k.sessions c })

/-- R431: a failed health test, or the reseed that passes. -/
def entropyFault (h : Hub) (reseeded : Bool) : Hub :=
  if reseeded then drbgSeed (setKeys h (fun k => { k with entropyBad := false }))
  else setFlag (setKeys h (fun k => { k with entropyBad := true })) Obj.KS_ENTROPY_FAULT

/-! Tamper (R437-R440) -/

/-- The bit of a tamper input. -/
def tamperBit : TamperInput → Nat
  | .mesh => 0 | .voltage => 1 | .temperature => 2 | .light => 3 | .tamperN => 4

/-- R438, R440: the erase: every key, the DRBG state, every session and key cache, the outputs of every context, operations under way and block
reads of KC_OUTPUT. -/
def eraseKeys (h : Hub) : Hub :=
  let h := forEach h.keys.busy h (fun h o => setSel h o.ctx Obj.KC_STATUS (.int 3))
  let h := forEach allCtx h (fun h c => setSel h c Obj.KC_OUTPUT (.bytes []))
  let hit := h.jdp.xfers.filter (fun x => x.idx * 256 + x.sub == Obj.KC_OUTPUT)
  let h := forEach hit h (fun h x => sendPdu h x.id.peer { func := 0x06, source := x.asNode, dest := x.id.node, seq := x.id.seq
                                                           segment := 0, data := leBytes 2 x.idx ++ leBytes 1 x.sub ++ [0x09, 0x01, 0, 0, 0] })
  let h := { h with jdp := { h.jdp with xfers := h.jdp.xfers.filter (fun x => x.idx * 256 + x.sub != Obj.KC_OUTPUT) } }
  let h := setKeys h (fun k => { k with
    slots := k.slots.map (fun x => if x.2.alg == 0 then x else (x.1, { gen := x.2.gen + 1 }))
    busy := []
    sessions := []
    drbgK := List.replicate k.drbgK.length 0
    drbgV := List.replicate k.drbgV.length 0
    drbgUses := 0 })
  later { h with macs := { h.macs with keyed := [] } } .keysLost

/-- R437: an input is enabled. -/
def tamperOn (h : Hub) (i : TamperInput) : Bool := bitOf (getN h Obj.TP_ENABLE) (tamperBit i)

/-- R442: the inputs that are qualified now: those that are enabled and whose conditions hold. -/
def qualified (h : Hub) : List TamperInput := h.tampers.filter (tamperOn h)

/-- R438: an enabled input qualifies. The first sets the latch and runs the erase; every one counts. -/
def tamperQualifies (h : Hub) (i : TamperInput) : Hub :=
  let h := bump h Obj.TP_EVENTS
  if tampered h then h
  else
    let h := setN (setN (setN h Obj.TP_TAMPERED 1) Obj.TP_CAUSE (tamperBit i)) Obj.TP_TIME h.net
    let h := setN (eraseKeys h) Obj.TP_EPOCH (min 16 (getN h Obj.TP_EPOCH + 1))
    -- R438, step 4: outside Summer the report moves no season, so that no frame comes of it
    report (whenH (getN h Obj.SEASON != 1) h (fun h => emergency h 0x1801 tamperUnit)) 0x1801 tamperUnit

/-- R437: a condition of Table 23.4 begins; it qualifies its input while that is enabled. -/
def tamperInput (h : Hub) (i : TamperInput) : Hub :=
  let h := { h with tampers := if h.tampers.contains i then h.tampers else h.tampers ++ [i] }
  if tamperOn h i then tamperQualifies h i else h

/-- R437: a condition begins or ends. -/
def tamperChange (h : Hub) (x : TamperChange) : Hub :=
  if x.ended then { h with tampers := h.tampers.filter (· != x.input) } else tamperInput h x.input

/-- R437: the conditions are these from now on. -/
def tamperNow (h : Hub) (l : List TamperInput) : Hub :=
  forEach (l.filter (fun i => !h.tampers.contains i)) { h with tampers := h.tampers.filter l.contains } tamperInput

/-- R437, R442: a write of TP_ENABLE: a condition that holds qualifies an input that is enabled now. -/
def writeTamperEnable (h : Hub) (v : Nat) : Hub :=
  let was := h
  let h := setN h Obj.TP_ENABLE v
  forEach ((qualified h).filter (fun i => !tamperOn was i)) h tamperQualifies

/-! Resets (R429, R433, R434) -/

/-- R429: a reset that restarts the supervisor core erases the keys that expire then; the DRBG starts anew. -/
def keysExpire (h : Hub) : Hub :=
  let h := setKeys h (fun k => { k with busy := [], sessions := [], entropyBad := false, drbgK := [], drbgV := [], drbgUses := 0 })
  forEach (List.range 64) h (fun h s => if (keySlot h s).alg != 0 && (keySlot h s).has 3 then emptySlot h s else h)

/-- R387, R427: the key store has been Off: every key that is not persistent is lost, those of its sessions with them. -/
def keysForgotten (h : Hub) : Hub :=
  let h := setKeys h (fun k => { k with sessions := [] })
  forEach (List.range 64) h (fun h s => if (keySlot h s).alg != 0 && !persists h s then emptySlot h s else h)

/-- R429, R433: the security core starts: keys that expire are erased, then each slot's record in force
is loaded with the uses below its ceiling forfeited. With the latch set nothing is loaded (R440). -/
def keysRestart (h : Hub) : Hub :=
  let h := keysExpire h
  if tampered h then h
  else forEach (List.range 64) h (fun h s =>
    match recordInForce h s with
    | none => h
    | some (_, r) =>
      if r.slot.alg == 0 then h
      else putSlot h s { r.slot with used := r.slot.ceiling, gen := (keySlot h s).gen })

/-- R439, R437, R442: at power-on every slot starts empty, and the monitor starts: the latch clears only if no enabled input is then
qualified; those that are count as the first qualifications since. -/
def keysPowerOn (h : Hub) : Hub :=
  let h := setN (setKeys h (fun k => { k with slots := [] })) Obj.TP_EVENTS 0
  match qualified h with
  | [] => setN (setN (setN h Obj.TP_TAMPERED 0) Obj.TP_CAUSE 0) Obj.TP_TIME 0
  | live => forEach live h tamperQualifies

/-! MACsec bindings (R232) -/

/-- R232, R427, R428, R69: the slot that an SA's COMMIT binds: one use is charged. Of a slot that holds no key for MACsec, which is always of AES-256
(Table 23.1), and of one without a use left, class 0x09 comes before the 0x07 of R232. -/
def bindMacsec (h : Hub) (s : Nat) : Option Abort × Hub := if tampered h then (some .tampered, h) else useSlot h s purposeMacsec

end Sys2Proof.Machine
end

