-- ==== Sys2Proof/Machine/Lanes.lean ====
section
/-! DEFINITION. The serial lanes (R357-R371): equalisation, the eye monitor, power states, tests, and loss of lock. -/

namespace Sys2Proof.Machine

/-- R359: the FFE set that a lane has until something sets it. (DESIGN CHOICE, log 5) -/
def laneDefault (l : Nat) : Lane :=
  let set := if l == 24 || l == 25 then [0, 4, 51, 8] else if 26 ≤ l && l ≤ 29 then [0, 0, 55, 8] else [0, 0, 63, 0]
  { ffe := set, goal := set }

def lane (h : Hub) (l : Nat) : Lane := mget h.lanes (laneDefault l) l
def putLane (h : Hub) (l : Nat) (x : Lane) : Hub := { h with lanes := mset h.lanes l x }
def updLane (h : Hub) (l : Nat) (f : Lane → Lane) : Hub := putLane h l (f (lane h l))

/-- R357: Type B lanes have no receiver. -/
def typeB (l : Nat) : Bool := 8 ≤ l && l < 20

/-- R357: modulation of a lane at a rate: 1 NRZ, 2 PAM3, 3 PAM4. -/
def modulationOf (l rate : Nat) : Nat := if rate == 0 then 0 else if l ≥ 38 then 3 else if l < 8 && rate == 40000000 then 2 else 1

/-- The lanes of a domain. -/
def lanesIn (d : Nat) : List Nat := (List.range 42).filter (fun l => domainOfUnit (laneUnit l) == d)

/-- R359: a valid set of coefficient magnitudes by a number; every valid set has one. -/
def validFfe (n : Nat) : List Nat :=
  let a := n % 8
  let b := n / 8 % 16
  let p := n / 128 % (min 23 (39 - a - b) + 1)
  [a, b, 63 - a - b - p, p]

/-- R359: while TX_FFE_MODE is 0, link training sets the coefficients and the swing, to what its protocol finds: a free valid set and a
free swing. (DESIGN CHOICE, log 8) -/
def trainFfe (h : Hub) (l : Nat) : Hub :=
  if getN h (Obj.TX_FFE_MODE l) == 0 then
    updLane (ticks h 2) l (fun x => { x with goal := validFfe (Config.freeNat h.fresh), swing := 400 + Config.freeNat (h.fresh + 1) % 601 })
  else h

/-- R363, R464: a lane that may run: it is in service and its domain is On. -/
def laneLive (h : Hub) (l : Nat) : Bool := inService h (laneUnit l) && domOn h (domainOfUnit (laneUnit l))

/-- Table 19.2: in Off, taps and codes are reset. -/
def rxOff (x : Lane) : Lane :=
  { x with rx := 0, locked := false, lost := false, stale := false, exitRx := false, taps := List.replicate 12 0, code := 16, hist := []
           taps2 := List.replicate 12 0, code2 := 16, hist2 := [] }

/-- Table 19.2: both directions Off. -/
def Lane.off (x : Lane) : Lane := rxOff { x with tx := 0, exitTx := false }

/-- A lane that runs at a rate, locked, its pairs in the directions that `rev` names; a pair that no longer receives is Off. -/
def Lane.running (x : Lane) (l rate rev : Nat) : Lane :=
  let x := if rev == 2 then rxOff x else if rev == 1 then x else { x with taps2 := List.replicate 12 0, code2 := 16, hist2 := [] }
  { x with
    tx := if rev == 1 then 0 else 3
    rx := if typeB l || rev == 2 then 0 else 3
    locked := true
    lost := false
    stale := false
    rate := rate
    modulation := modulationOf l rate
    rev := rev }

/-- The port logic has trained over a lane: it runs at a rate, locked. R183, R358: `rev` is 1 where its transmit pair receives, 2 where its
receive pair transmits; the TX objects describe every pair that transmits, the RX objects every pair that receives. -/
def laneRunRev (h : Hub) (l rate rev : Nat) : Hub :=
  if getB h (Obj.LN_ENABLE l) && laneLive h l then updLane (trainFfe h l) l (fun x => x.running l rate rev) else h
def laneRun (h : Hub) (l rate : Nat) : Hub := laneRunRev h l rate 0

/-- R406: a Tyvel lane runs; its training has set the coefficients by TRAIN requests. -/
def laneRunTrained (h : Hub) (l rate : Nat) : Hub :=
  if getB h (Obj.LN_ENABLE l) && laneLive h l then updLane h l (fun x => x.running l rate 0) else h

/-- A lane that its port does not use; a receiver that reacquires ends that (R369). -/
def Lane.unused (x : Lane) : Lane :=
  { x with locked := false, lost := false, stale := false, rx := if x.rx == 4 then 3 else x.rx, rate := 0, modulation := 0, rev := 0 }

/-- R366: the port logic acts on a lane that is not taken away from it. -/
def ofPort (h : Hub) (l : Nat) (f : Lane → Lane) : Hub := if getB h (Obj.LN_ENABLE l) then updLane h l f else h

/-- The port's link is down: the lane is not in use. -/
def laneDown (h : Hub) (l : Nat) : Hub := ofPort h l Lane.unused

/-- R364: the port uses a DisplayPort lane no longer: it is Off. -/
def laneUnlit (h : Hub) (l : Nat) : Hub := ofPort h l (fun x => { x.unused with tx := 0 })

/-- R369: the port, whose link stays up, runs without a lane: one that has lost lock goes on reacquiring. -/
def laneLeft (h : Hub) (l : Nat) : Hub := if (lane h l).rx == 4 then h else laneDown h l

/-- R366: the port can train over a lane: it is not taken away from it. -/
def laneUsable (h : Hub) (l : Nat) : Bool := getB h (Obj.LN_ENABLE l) && inService h (laneUnit l)

/-- R370: the port can train over a lane now: it has not lost lock. -/
def laneTrainable (h : Hub) (l : Nat) : Bool := laneUsable h l && (lane h l).rx != 4

/-- R370: a lane that its port has and that has lock. -/
def laneLocked (h : Hub) (l : Nat) : Bool := laneTrainable h l && (lane h l).locked

/-- R359: TX_SWING: what was written in mode 1, what link training set in mode 0. -/
def swingNow (h : Hub) (l : Nat) : Nat := if getN h (Obj.TX_FFE_MODE l) == 1 then getN h (Obj.TX_SWING l) else (lane h l).swing

/-- R366: LN_RATE: of a lane taken from its port, whose tests run at LN_TEST_RATE, that rate. -/
def laneRateNow (h : Hub) (l : Nat) : Nat :=
  if getB h (Obj.LN_ENABLE l) then (lane h l).rate else if laneLive h l then getN h (Obj.LN_TEST_RATE l) else 0

/-- LN_MODULATION. -/
def laneModulation (h : Hub) (l : Nat) : Nat := modulationOf l (laneRateNow h l)

/-! Transmit equalisation (R359, R360) -/

/-- R359: a coefficient of TX_FFE. -/
def coef (bs : List Byte) (i : Nat) : Int := ((bs[i]?).getD 0).toInt

/-- R359: a set is valid. -/
def ffeOk (bs : List Byte) : Bool :=
  let a := coef bs 0
  let b := coef bs 1
  let m := coef bs 2
  let p := coef bs 3
  decide (-7 ≤ a) && decide (a ≤ 0) && decide (-15 ≤ b) && decide (b ≤ 0) && decide (-23 ≤ p) && decide (p ≤ 0) && decide (24 ≤ m)
  && (-a) + (-b) + m + (-p) == 63

/-- The magnitudes of a set. -/
def ffeMag (bs : List Byte) : List Nat := [(-coef bs 0).toNat, (-coef bs 1).toNat, (coef bs 2).toNat, (-coef bs 3).toNat]

/-- R360: TX_FFE_NOW. -/
def ffeNow (h : Hub) (l : Nat) : List Byte :=
  let m := (lane h l).ffe
  [BitVec.ofInt 8 (-((nth m 0 0 : Nat) : Int)), BitVec.ofInt 8 (-((nth m 1 0 : Nat) : Int)), BitVec.ofNat 8 (nth m 2 0), BitVec.ofInt 8 (-((nth m 3 0 : Nat) : Int))]

/-- R360: one step from a set towards another: as many coefficients up as down, by one unit each, so that the sum stays. -/
def ffeStep (a b : List Nat) : List Nat :=
  let up := (List.range 4).filter (fun i => nth a i 0 < nth b i 0)
  let dn := (List.range 4).filter (fun i => nth b i 0 < nth a i 0)
  let k := min up.length dn.length
  let up := up.take k
  let dn := dn.take k
  (List.range 4).map (fun i => if up.contains i then nth a i 0 + 1 else if dn.contains i then nth a i 0 - 1 else nth a i 0)

/-- R359, R360: the set that a lane moves towards: the one written in mode 1, that of its link training in mode 0. -/
def ffeGoal (h : Hub) (l : Nat) : List Nat :=
  if getN h (Obj.TX_FFE_MODE l) == 1 then ffeMag (getBytes h (Obj.TX_FFE l)) else (lane h l).goal

/-- R360: the ramp of a lane moves one unit. -/
def ffeRamp (h : Hub) (l : Nat) : Hub := updLane h l (fun x => { x with ffe := ffeStep x.ffe (ffeGoal h l) })

/-- R359, R360: what a write of TX_FFE or TX_SWING is refused with. -/
def txFfeCheck (h : Hub) (l : Nat) (bs : List Byte) : Option Abort :=
  if getN h (Obj.TX_FFE_MODE l) == 0 then some (.value 0x82) else if ffeOk bs then none else some (.value 0x81)

/-! Receive equalisation (R361) -/

/-- Keep the values in force in a history, and no more of it than R369's 64 µs needs. -/
def noteHist (now : Nat) (hist : List (Nat × List Int × Nat)) (taps : List Int) (code : Nat) : List (Nat × List Int × Nat) :=
  let old := hist.filter (fun y => decide (y.1 + 64000 ≤ now))
  let young := hist.filter (fun y => decide (now < y.1 + 64000))
  (old.drop (old.length - 1)) ++ young ++ [(now, taps, code)]

/-- The histories of a lane's two receivers go on. -/
def noteTaps (h : Hub) (x : Lane) : Lane := { x with hist := noteHist h.now x.hist x.taps x.code }
def noteTaps2 (h : Hub) (x : Lane) : Lane := { x with hist2 := noteHist h.now x.hist2 x.taps2 x.code2 }

/-- R361, R371: the CTLE code in force. -/
def ctleNow (h : Hub) (l : Nat) : Nat := if getN h (Obj.RX_CTLE_MODE l) == 1 then getN h (Obj.RX_CTLE l) else (lane h l).code

/-- R361, R383: a receiver adapts: RX_ADAPT is 1 and it recovers data. -/
def adapts (h : Hub) (l : Nat) : Bool := getB h (Obj.RX_ADAPT l) && !typeB l && (lane h l).rx == 3 && (lane h l).locked

/-- A move of at most one step. -/
def oneStep (m : Int) : Int := max (-1) (min 1 m)

/-- The taps after a step. -/
def dfeMoved (taps moves : List Int) : List Int := (List.range 12).map (fun i => max (-128) (min 127 (nth taps i 0 + oneStep (nth moves i 0))))

/-- R361: each DFE tap moves by at most one step. R358: `second` is the receiver of a transmit pair that receives. -/
def dfeAdapt (h : Hub) (l : Nat) (moves : List Int) (second : Bool) : Hub :=
  if adapts h l then
    if second then (if (lane h l).rev == 1 then updLane h l (fun x => { noteTaps2 h x with taps2 := dfeMoved x.taps2 moves }) else h)
    else updLane h l (fun x => { noteTaps h x with taps := dfeMoved x.taps moves })
  else h

/-- The CTLE code after a step. -/
def ctleMoved (code : Nat) (m : Int) : Nat := (max 0 (min 31 ((code : Int) + oneStep m))).toNat

/-- R361: the CTLE code moves by at most one, unless it is fixed. -/
def ctleAdapt (h : Hub) (l : Nat) (m : Int) (second : Bool) : Hub :=
  if adapts h l && getN h (Obj.RX_CTLE_MODE l) == 0 then
    if second then (if (lane h l).rev == 1 then updLane h l (fun x => { noteTaps2 h x with code2 := ctleMoved x.code2 m }) else h)
    else updLane h l (fun x => { noteTaps h x with code := ctleMoved x.code m })
  else h

/-- R358: the margins that are reported: those of the receiving pair with the smaller one; with equal heights, the one with the smaller
width. (DEDUCED, log 29) -/
def eyeMargin (rev : Nat) (a : Nat × Nat) (second : Option (Nat × Nat)) : Nat × Nat :=
  match second with
  | some b => if rev == 1 && (b.1 < a.1 || (b.1 == a.1 && b.2 < a.2)) then b else a
  | none => a

/-- R362: a complete scan; `second` is what it found at a transmit pair that receives. -/
def eyeScan (h : Hub) (l height width : Nat) (second : Option (Nat × Nat)) : Hub :=
  if typeB l || (lane h l).rx != 3 then h
  else
    let x := eyeMargin (lane h l).rev (height, width) second
    bump (setN (setN h (Obj.EYE_HEIGHT l) x.1) (Obj.EYE_WIDTH l) x.2) (Obj.EYE_SCANS l)

/-! Power states (R363-R365) -/

/-- Table 19.2: the number of a state. -/
def laneStateNo : LaneState → Nat
  | .off => 0 | .sleep => 1 | .idle => 2 | .active => 3

/-- R364: the state that a request gives under what is permitted. -/
def permitted (allow : Nat) (s : Nat) : Nat :=
  if s == 1 then (if bitOf allow 1 then 1 else if bitOf allow 0 then 2 else 3)
  else if s == 2 then (if bitOf allow 0 then 2 else 3)
  else s

/-- R182, R364: on a lane of a USB4 link, the states that CL_ALLOW leaves: CL0s gives Idle, CL1 and CL2 give Sleep. -/
def clAllows (h : Hub) (l allow : Nat) : Nat :=
  let k := l / 2
  if l < 8 && decide (3 ≤ getN h (Obj.LINK_MODE k)) && decide (getN h (Obj.LINK_MODE k) ≤ 7) then
    let cl := getN h (Obj.CL_ALLOW k)
    (if bitOf allow 0 && bitOf cl 0 then 1 else 0) + (if bitOf allow 1 && (bitOf cl 1 || bitOf cl 2) then 2 else 0)
  else allow

/-- R364, R183: the port logic of a lane of a USB port has power states for it: in every mode but alternate mode, and in that for the lane
that carries USB 3.2 under pin assignment D. -/
def usbPowers (h : Hub) (l : Nat) : Bool :=
  let mode := getN h (Obj.LINK_MODE (l / 2))
  (l < 8 && ((2 ≤ mode && mode ≤ 7) || (mode == 8 && l % 2 == 1 && (lane h l).rev == 0))) || (20 ≤ l && l < 24)

/-- R364: the protocol of a lane's port has a link power state that gives the state: USB4 and USB 3.2 both, PCIe Sleep alone, while
ASPM L1 is enabled at its port (R241). DisplayPort, eDP, Ethernet and Tyvel lanes never request either. -/
def mayRequest (h : Hub) (l : Nat) (s : LaneState) : Bool :=
  match s with
  | .off | .active => true
  | .idle => usbPowers h l
  | .sleep => usbPowers h l || (30 ≤ l && l < 38 && bitOf (cfgGet h (5 + (l - 30) / 4) 0x50) 1)

/-- R358, R371: a lane has a pair that transmits, or one that receives. -/
def hasPair (h : Hub) (l : Nat) (rx : Bool) : Bool := if rx then !typeB l && (lane h l).rev != 2 else (lane h l).rev != 1

/-- R364, R369: a transmitter or receiver is Active again. A receiver that had declared a loss of lock goes on reacquiring; one that lost
lock in the sleep state starts as from Off. -/
def Lane.awake (x : Lane) (rx : Bool) : Lane :=
  if !rx then { x with tx := 3, exitTx := false }
  else if x.stale then { rxOff x with rx := 3 }
  else { x with rx := if x.lost then 4 else 3, exitRx := false }

/-- R364, R365: the port logic requests a state for a transmitter or receiver. An exit trigger granted before it makes the
hub abandon the entry. Where no state is permitted, it is Active. -/
def laneSleep (h : Hub) (l : Nat) (rx : Bool) (s : LaneState) : Hub :=
  let x := lane h l
  if !hasPair h l rx || !mayRequest h l s || !laneLive h l || !getB h (Obj.LN_ENABLE l) then h
  else if (if rx then x.exitRx else x.exitTx) then
    bump (putLane h l (if rx then { x with exitRx := false } else { x with exitTx := false })) (Obj.SLEEP_ABANDONED l)
  else
    let n := permitted (clAllows h l (getN h (if rx then Obj.RX_SLEEP_ALLOW l else Obj.TX_SLEEP_ALLOW l))) (laneStateNo s)
    let h := putLane h l (if n == 3 then x.awake rx else if rx then (if n == 0 then rxOff x else { x with rx := n }) else { x with tx := n })
    if n == 1 || n == 2 then bump h (if rx then Obj.RX_SLEEPS l else Obj.TX_SLEEPS l) else h

/-- The state of a transmitter or receiver, 4 (reacquiring) as 3. -/
def pairState (x : Lane) (rx : Bool) : Nat := if rx then min x.rx 3 else x.tx

/-- R364, R365, R388: an exit trigger: the transmitter or receiver goes back to Active; one that is Active keeps the trigger for
the entry request it meets, and one whose domain is in Ember until that is On. Signal that a lane of L24-L29 senses is a pin event of PW53. -/
def laneExit (h : Hub) (l : Nat) (rx : Bool) : Hub :=
  let d := domainOfUnit (laneUnit l)
  let note (h : Hub) : Hub := updLane h l (fun x => if rx then { x with exitRx := true } else { x with exitTx := true })
  if !hasPair h l rx || !inService h (laneUnit l) then h
  else if !domOn h d then
    let x := domain h d
    if x.st == 3 || (x.st == 5 && x.leaving != 2) then h else whenH (d == 53 && rx) (note h) (fun h => later h (.pinWake d))
  else if pairState (lane h l) rx == 3 then (if (lane h l).rx == 4 && rx then h else note h)
  else updLane h l (fun x => x.awake rx)

/-- R365: a domain is On again: the exits that came meanwhile are made. -/
def lanesWake (h : Hub) (d : Nat) : Hub :=
  forEach (lanesIn d) h (fun h l =>
    if !laneLive h l then h
    else
      let h := if (lane h l).exitTx && (lane h l).tx != 3 then updLane h l (fun x => x.awake false) else h
      if (lane h l).exitRx && pairState (lane h l) true != 3 then updLane h l (fun x => x.awake true) else h)

/-- R365, R371: the lanes of a domain that enters Ember: an entry into Sleep for each pair that was not in it. -/
def lanesEmber (h : Hub) (d : Nat) : Hub :=
  forEach ((lanesIn d).filter (fun l => inService h (laneUnit l))) h (fun h l =>
    forEach [false, true] h (fun h rx =>
      if !hasPair h l rx || pairState (lane h l) rx == 1 then h
      else bump (updLane h l (fun x => if rx then { x with rx := 1, exitRx := false } else { x with tx := 1, exitTx := false }))
        (if rx then Obj.RX_SLEEPS l else Obj.TX_SLEEPS l)))

/-- R365: the lanes of a domain that is Off; a mapped-out lane is Off already (R369). -/
def lanesOff (h : Hub) (d : Nat) : Hub :=
  forEach (lanesIn d) h (fun h l => updLane h l (fun x => { x.off with rate := 0, modulation := 0 }))

/-- R371: RX_STATE and LN_LOCKED as they read; of a Type B lane that is its PLL, which Table 19.2 has on in Active and Idle. -/
def rxStateNow (h : Hub) (l : Nat) : Nat := if typeB l then 5 else (lane h l).rx
def lockedNow (h : Hub) (l : Nat) : Bool := if typeB l then decide (2 ≤ (lane h l).tx) else (lane h l).locked

/-! Tests (R366-R368) -/

/-- A write that starts a lane up (R364): its exit. A lane of an output that its port does not use stays Off. -/
def laneWake (h : Hub) (l : Nat) : Hub :=
  let dark := typeB l && getB h (Obj.LN_ENABLE l) && (lane h l).tx == 0
  if laneLive h l && !dark then
    forEach [false, true] h (fun h rx => if hasPair h l rx && pairState (lane h l) rx != 3 then updLane h l (fun x => x.awake rx) else h)
  else h

/-- R366, R364: a write of LN_ENABLE. The port is told of a lane that it runs over and that has not lost lock before. A lane that is returned
is not in use, and a DisplayPort lane is then Off, until the port trains over it. -/
def writeLnEnable (h : Hub) (l v : Nat) : Hub :=
  let was := getB h (Obj.LN_ENABLE l)
  let used := (lane h l).locked
  let h := laneWake (setN h (Obj.LN_ENABLE l) v) l
  if was && v == 0 then whenH used (updLane h l Lane.unused) (fun h => send h (.link (laneUnit l) "removed" []))
  else if !was && v == 1 then
    let dp := typeB l || (l < 8 && getN h (Obj.LINK_MODE (l / 2)) == 8)
    if dp then laneUnlit h l else laneDown h l
  else h

/-- R367: LN_LOOP's check. -/
def loopCheck (l v : Nat) : Option Abort := if typeB l && v != 0 then some (.value 0x80) else none

/-- R368: a pattern's check; the checker of a Type B lane takes none (R371). -/
def prbsCheck (l v : Nat) (rx : Bool) : Option Abort :=
  if (rx && typeB l && v != 0) || (decide (v ≥ 6) && decide (l < 38)) then some (.value 0x80) else none

/-- R367, R368: what the transmit pins of a lane carry: 0 electrical idle, 1 the transmitter's own data, 2 recovered receive data,
10 + n the PRBS pattern n. -/
def txPins (h : Hub) (l : Nat) : Nat :=
  match getN h (Obj.LN_LOOP l) with
  | 1 => 0
  | 3 => 2
  | _ => if getN h (Obj.PRBS_TX l) == 0 then 1 else 10 + getN h (Obj.PRBS_TX l)

/-- R367: what the receiver of a lane gets: 0 its partner's signal, 1 its own serialiser's output, 2 its own PCS transmit data. -/
def rxInput (h : Hub) (l : Nat) : Nat :=
  match getN h (Obj.LN_LOOP l) with
  | 1 => 1
  | 2 => 2
  | _ => 0

/-- The pins and the receiver of a lane follow what was written. -/
def pinsFollow (was h : Hub) (l : Nat) : Hub :=
  let h := whenH (txPins was l != txPins h l) (laneWake h l) (fun h => send h (.link (laneUnit l) "transmit pins" [txPins h l]))
  whenH (rxInput was l != rxInput h l) h (fun h => send h (.link (laneUnit l) "receiver input" [rxInput h l]))

def writeLoop (h : Hub) (l v : Nat) : Hub := pinsFollow h (setN h (Obj.LN_LOOP l) v) l
def writePrbsTx (h : Hub) (l v : Nat) : Hub := pinsFollow h (setN h (Obj.PRBS_TX l) v) l

/-- R368: a write of PRBS_RX restarts the counts. -/
def writePrbsRx (h : Hub) (l v : Nat) : Hub :=
  let h := laneWake (setN h (Obj.PRBS_RX l) v) l
  setN (updLane h l (fun x => { x with prbsBits := 0, prbsErrs := 0, prbsRem := 0 })) (Obj.PRBS_SYNC l) 0

/-- R367: in loops 1 and 2 the checker gets what the lane's own generator makes, and what that is: none of its pattern, or its pattern. -/
def ownPattern (h : Hub) (l : Nat) : Option Bool :=
  if rxInput h l == 0 then none else some (getN h (Obj.PRBS_TX l) != 0 && getN h (Obj.PRBS_TX l) == getN h (Obj.PRBS_RX l))

/-- R368: the checker counts bits, and errors among them. -/
def prbsCount (h : Hub) (l bits errors : Nat) : Hub :=
  updLane h l (fun x => { x with prbsBits := x.prbsBits + bits, prbsErrs := x.prbsErrs + errors })

/-- R368, R367: one transmitted bit is inverted; the lane's own checker finds it where it gets that data. -/
def prbsInject (h : Hub) (l : Nat) : Hub :=
  let h := send h (.link (laneUnit l) "inject" [])
  if getB h (Obj.PRBS_SYNC l) && ownPattern h l == some true then prbsCount h l 0 1 else h

/-- R368: a nanosecond of a checker in sync: the bits at the lane's rate in kbit/s, and the errors among them, which nothing states: a
free value; data that does not leave the lane's PCS has none. (DESIGN CHOICE, log 8) -/
def prbsTick (h : Hub) (l : Nat) : Hub :=
  if !getB h (Obj.PRBS_SYNC l) then h
  else
    let n := (lane h l).prbsRem + laneRateNow h l
    let bits := n / 1000000
    let errors := if getN h (Obj.LN_LOOP l) == 2 then 0 else Config.prbsErrors l h.now % (bits + 1)
    prbsCount (updLane h l (fun x => { x with prbsRem := n % 1000000 })) l bits errors
def prbsTicks (h : Hub) : Hub := forEach (List.range 42) h prbsTick

/-- R368: 64 error-free bits, and more than 512 errors in 1,024 bits; the counts rise while PRBS_SYNC is set. R367: a checker that gets its
own lane's data is in sync with its own pattern alone, which the parallel loop never corrupts. -/
def prbsGained (h : Hub) (l : Nat) : Hub :=
  if getN h (Obj.PRBS_RX l) != 0 && !getB h (Obj.PRBS_SYNC l) && ownPattern h l != some false then
    setN (updLane h l (fun x => { x with prbsRem := 0 })) (Obj.PRBS_SYNC l) 1
  else h
def prbsLost (h : Hub) (l bits errors : Nat) : Hub :=
  if getB h (Obj.PRBS_SYNC l) && !(getN h (Obj.LN_LOOP l) == 2 && ownPattern h l == some true) then
    setN (prbsCount h l bits errors) (Obj.PRBS_SYNC l) 0
  else h

/-! Loss of lock (R369) -/

/-- R369: the taps and the code in force 64 µs ago, by a history and what is in force now. -/
def tapsBefore (now : Nat) (hist : List (Nat × List Int × Nat)) (cur : List Int × Nat) : List Int × Nat :=
  match (hist.filter (fun y => decide (now < y.1 + 64000))).head? with
  | some y => y.2
  | none => cur

/-- R369, R366: a receiver loses lock. In a sleep state no loss is declared, and the exit reacquires as from Off; of a lane that is taken from
its port no loss is declared either. -/
def lockLost (h : Hub) (l : Nat) : Hub :=
  let x := lane h l
  if typeB l || x.rev == 2 || !x.locked then h
  else if x.rx == 1 || x.rx == 2 then putLane h l { x with locked := false, stale := true }
  else if x.rx != 3 then h
  else if !getB h (Obj.LN_ENABLE l) then putLane h l { x with locked := false }
  else
    let old := tapsBefore h.now x.hist (x.taps, x.code)
    let old2 := tapsBefore h.now x.hist2 (x.taps2, x.code2)
    let h := putLane h l { x with rx := 4, locked := false, lost := true, taps := old.1, code := old.2, hist := [], taps2 := old2.1, code2 := old2.2, hist2 := [] }
    let h := send (setFlag h (Obj.LOCK_LOST l)) (.link (laneUnit l) "lock lost" [])
    report h 0x1301 (laneUnit l)

/-- R369: 10 ms without lock: the lane restarts from the defaults. -/
def reacquireTimeout (h : Hub) (l : Nat) : Hub :=
  if (lane h l).rx == 4 then updLane h l (fun x => { x with taps := List.replicate 12 0, code := 16, taps2 := List.replicate 12 0, code2 := 16 }) else h

/-- R369: lock returns; after a declared loss it is counted, whether or not a sleep state came between. -/
def relock (h : Hub) (l : Nat) : Hub :=
  if (lane h l).rx == 4 || ((lane h l).rx == 3 && (lane h l).lost) then
    bump (updLane h l (fun x => { x with rx := 3, locked := true, lost := false })) (Obj.RELOCKS l)
  else if (lane h l).rx == 3 then updLane h l (fun x => { x with locked := true })
  else h

end Sys2Proof.Machine
end

