-- ==== Sys2Proof/Machine/Mac.lean ====
section
/-! DEFINITION. The time unit (R227-R230), the six MACs (R220-R222) and MACsec (R231-R236). -/

namespace Sys2Proof.Machine

/-! Network time -/

def setTime (h : Hub) (f : TimeUnit → TimeUnit) : Hub := { h with time := f h.time }

/-- TIME_SOURCE's code of a source. -/
def srcCode : TimeSrc → Nat
  | .gptp => 1 | .ptm => 2 | .usb4 => 3

/-- R238: the sources of TIME_PRIORITY, first first; 0 is unused. -/
def priorityOf (v : Nat) : List Nat := [bitsOf v 3 0, bitsOf v 7 4, bitsOf v 11 8].filter (· != 0)

/-- R227: the highest-priority qualified source. -/
def bestSource (h : Hub) : Option Nat := (priorityOf (getN h Obj.TIME_PRIORITY)).find? (fun s => h.time.qualified.contains s)

/-- R227, R229: follow the highest-priority qualified source, or enter holdover; the standby of a pair goes on following the active
(R418). -/
def selectSource (h : Hub) : Hub :=
  if following h then h
  else match bestSource h with
  | some s =>
    if h.time.inUse == s then h else setN (setTime h (fun t => { t with inUse := s })) Obj.TIME_SOURCE s
  | none =>
    if h.time.inUse == 0 then h else setFlag (setTime h (fun t => { t with inUse := 0 })) Obj.TIME_HOLDOVER

/-- R229: the time unit is in holdover: it has had a source and has none. -/
def inHoldover (h : Hub) : Bool := h.time.inUse == 0 && getN h Obj.TIME_SOURCE != 0

/-- The MACs of a mask that run. -/
def runningMacs (h : Hub) (mask : Nat) : List Nat := (List.range 6).filter (fun m => bitOf mask m && macRuns h m)

/-- IEEE 802.1AS: a priority vector is better than another: at the first place where they differ it is smaller. -/
def betterVector : List Nat → List Nat → Bool
  | _, [] => false
  | [], _ :: _ => true
  | a :: r, b :: t => a < b || (a == b && betterVector r t)

/-- R225: the hub's own priority vector. -/
def ownVector (h : Hub) : List Nat := getN h Obj.GPTP_PRIORITY1 :: Config.clockVector

/-- R225: the masters that the hub sees: those whose Announce messages came in its domain, at MACs of GPTP_MACS that run. -/
def mastersSeen (h : Hub) : List (Nat × Announce) :=
  h.time.announces.filter (fun x => x.2.domain == getN h Obj.GPTP_DOMAIN && (runningMacs h (getN h Obj.GPTP_MACS)).contains x.1)

/-- R225: best master selection: the best of the masters that the hub sees. -/
def bestMaster (h : Hub) : Option (Nat × Announce) :=
  (mastersSeen h).foldl (fun b x => match b with
    | none => some x
    | some y => if betterVector x.2.vector y.2.vector then some x else b) none

/-- R225: the grandmaster that the hub follows: the best master, unless the hub itself is better. -/
def grandmaster (h : Hub) : Option (Nat × Announce) :=
  (bestMaster h).filter (fun x => getN h Obj.GPTP_PRIORITY1 == 255 || !betterVector (ownVector h) x.2.vector)

/-- R225, R227: the MAC at which a Sync came: the one that the reading names, or the grandmaster's, or the first that runs. -/
def syncAt (h : Hub) (mac : Option Nat) : Option Nat :=
  (mac.orElse (fun _ => (grandmaster h).map (·.1))).orElse (fun _ => (runningMacs h (getN h Obj.GPTP_MACS)).head?)

/-- R225, R227: a Sync that came at a MAC is the grandmaster's, at a port of GPTP_MACS that runs. While the hub has seen no Announce message
it takes the Sync for the grandmaster's. (DEDUCED, log 47) -/
def syncCounts (h : Hub) (mac : Option Nat) : Bool :=
  match syncAt h mac with
  | none => false
  | some m => (runningMacs h (getN h Obj.GPTP_MACS)).contains m && match bestMaster h with
    | none => true
    | some _ => (grandmaster h).map (·.1) == some m

/-- R227: those of F0 and F1 that can hold a PTM context. Which of them a reading refreshes the command does not say: the model takes both.
(DEDUCED, log 47) -/
def ptmFunctions (h : Hub) : List Nat := [0, 1].filter (fun f => inService h (fnUnit f) && !h.pcie.inReset.contains f)

/-- R227: a source that can qualify: gPTP by a Sync of the grandmaster's, at `mac` where one is named, PTM with F0 or F1 out of reset, USB4 with
a USB4 link on UP; what else its test asks, the command that brings it has found to hold. (DEDUCED, log 47) -/
def sourceEligible (h : Hub) (src : TimeSrc) (mac : Option Nat) : Bool :=
  inService h timeUnit && match src with
  | .gptp => syncCounts h mac
  | .ptm => !(ptmFunctions h).isEmpty
  | .usb4 => 3 ≤ getN h (Obj.LINK_MODE 0)

/-- R227: the source qualifies. -/
def qualify (h : Hub) (src : TimeSrc) (mac : Option Nat) : Hub :=
  if sourceEligible h src mac then setTime h (fun t => { t with
    qualified := insertNew t.qualified (srcCode src)
    syncMac := if src == .gptp then syncAt h mac else t.syncMac
    ptm := if src == .ptm then ptmFunctions h else t.ptm })
  else h

/-- R225: the hub is a time-aware relay: a Sync that it measured goes on at the MACs enabled in GPTP_MACS but the one at which it came.
(DEDUCED, log 47) -/
def relaySync (h : Hub) (came : Option Nat) : TimeSrc → Hub
  | .gptp => forEach ((runningMacs h (getN h Obj.GPTP_MACS)).filter (fun m => came != some m)) h (fun h m =>
      send h (.link (macUnit m) "gPTP relay" [getN h Obj.GPTP_DOMAIN]))
  | _ => h

/-- R225: the hub is the domain's grandmaster: no Announce message brings a better vector, and no master's Sync is followed; GPTP_PRIORITY1
of 255 keeps it from that. (DEDUCED, log 47) -/
def gptpMaster (h : Hub) : Bool :=
  inService h timeUnit && getN h Obj.GPTP_MACS != 0 && getN h Obj.GPTP_PRIORITY1 != 255
  && !(bestMaster h).any (fun x => betterVector x.2.vector (ownVector h)) && !h.time.qualified.contains (srcCode .gptp)

/-- R225: an Announce message is taken by the time unit; the grandmaster's goes on at the other MACs. (DEDUCED, log 47) -/
def takeAnnounce (h : Hub) (m : Nat) (a : Announce) : Hub :=
  let h := setTime h (fun t => { t with announces := mset t.announces m a })
  if (grandmaster h).map (·.1) == some m then
    forEach ((runningMacs h (getN h Obj.GPTP_MACS)).filter (· != m)) h (fun h k => send h (.link (macUnit k) "gPTP announce relay" (a.domain :: a.vector)))
  else h

/-- R225: what a grandmaster announces: its MACs, its domain and its priority; nothing for a hub that is none. -/
def gptpNow (h : Hub) : List Nat :=
  if gptpMaster h then [getN h Obj.GPTP_MACS, getN h Obj.GPTP_DOMAIN, getN h Obj.GPTP_PRIORITY1] else []

/-- R225: a hub that becomes grandmaster, or goes on as one under another priority or domain, announces itself; a hub that stops being
one falls silent. (DESIGN CHOICE, log 1) -/
def gptpAnnounce (h : Hub) : Hub :=
  if gptpNow h == h.time.announced then h
  else
    let now := gptpNow h
    let h := setTime h (fun t => { t with announced := now })
    if now.isEmpty then h
    else forEach (runningMacs h (getN h Obj.GPTP_MACS)) h (fun h m => send h (.link (macUnit m) "gPTP announce" now))

/-- R228-R230: a measurement of the offset to a source, with the rate that it shows. A source that is measured is qualified; of a Sync that is
not the grandmaster's, or comes from a source that cannot qualify, nothing is taken. The measurement applies to the source that is in use when
it is granted. An offset above TIME_STEP_LIMIT steps, any other is slewed.
(DEDUCED, log 47) -/
def timeMeasure (h : Hub) (src : TimeSrc) (x rate : Int) (mac : Option Nat) : Hub :=
  let ok := sourceEligible h src mac
  let came := syncAt h mac
  let h := qualify h src mac
  let h := if h.time.inUse == 0 then selectSource h else h
  if following h || h.time.inUse == 0 || !ok then h
  else
    let h := relaySync (setI (setTime h (fun t => { t with rate := rate })) Obj.TIME_OFFSET x) came src
    if x > (getN h Obj.TIME_STEP_LIMIT : Int) then
      bump (setNet (setTime h (fun t => { t with slew := 0 })) (h.net + x.toNat)) Obj.TIME_STEPS
    else setTime h (fun t => { t with slew := x })

/-- R227: a source loses qualification; with gPTP the Announce message of the master whose silence makes it old goes. (DEDUCED, log 47) -/
def timeLost (h : Hub) (src : TimeSrc) : Hub :=
  let s := srcCode src
  let h := setTime h (fun t => { t with
    qualified := t.qualified.filter (· != s)
    announces := if src != .gptp then t.announces else match t.syncMac with
      | some m => merase t.announces m
      | none => []
    syncMac := if src == .gptp then none else t.syncMac
    ptm := if src == .ptm then [] else t.ptm })
  if h.time.inUse == s then selectSource h else h

/-- R227: a source that has stayed qualified for 2 s takes over from one of lower priority. -/
def timeTakeover (h : Hub) (src : TimeSrc) : Hub :=
  let s := srcCode src
  let h := qualify h src none
  let ps := priorityOf (getN h Obj.TIME_PRIORITY)
  if following h then h
  else if h.time.inUse == 0 then selectSource h
  else if h.time.qualified.contains s && decide (ps.idxOf s < ps.idxOf h.time.inUse) then
    setN (setTime h (fun t => { t with inUse := s })) Obj.TIME_SOURCE s
  else h

/-- R227: gPTP loses qualification at once when no port of GPTP_MACS is left, or the one at which the Sync comes is none of them or no
longer runs. -/
def gptpFollows (h : Hub) : Hub :=
  let gone := getN h Obj.GPTP_MACS == 0 || h.time.syncMac.any (fun m => !(runningMacs h (getN h Obj.GPTP_MACS)).contains m)
  if gone && (h.time.qualified.contains (srcCode .gptp) || h.time.syncMac.isSome) then timeLost h .gptp else h

/-- R227: a write of GPTP_MACS. -/
def writeGptpMacs (h : Hub) (v : Nat) : Hub := gptpFollows (setN h Obj.GPTP_MACS v)

/-- R228: what a slew adds in one nanosecond, in units of 1e-9 ns: at most TIME_SLEW_MAX parts in a million, and no more than is
left of the offset; with the slew and the ppm remainder after it. (DESIGN CHOICE, log 1) -/
def slewTick (slewMax : Nat) (t : TimeUnit) : Int × Int × Nat :=
  if t.slew == 0 then (0, 0, 0)
  else
    let sign : Int := if 0 < t.slew then 1 else -1
    let r := t.rem + slewMax
    if r < 1000000 then (sign * ((1000 * slewMax : Nat) : Int), t.slew, r)
    else if t.slew == sign then (sign * ((1000 * (1000000 - t.rem) : Nat) : Int), 0, 0)
    else (sign * ((1000 * slewMax : Nat) : Int), t.slew - sign, r - 1000000)

/-- R228, R229, R36: one nanosecond of network time: at the rate last learned from a source, in holdover too, with the slew; never
backwards. (DESIGN CHOICE, log 1) -/
def netTick (h : Hub) : Hub :=
  let t := h.time
  let (gain, slew, rem) := slewTick (getN h Obj.TIME_SLEW_MAX) t
  let f := t.frac + t.rate + gain
  let step : Nat := if 1000000000 ≤ f then 2 else if f ≤ -1000000000 then 0 else 1
  let f := if 1000000000 ≤ f then f - 1000000000 else if f ≤ -1000000000 then f + 1000000000 else f
  setNet (setTime h (fun t => { t with slew := slew, rem := rem, frac := f })) (h.net + step)

/-! MACs -/

/-- R13: the Grate port of a MAC. -/
def macGrate (m : Nat) : Nat := 7 + m

/-- R220: a mode that a MAC supports. -/
def macModeOk (m v : Nat) : Bool := if m < 2 then decide (v ≤ 2) else v == 0 || (decide (3 ≤ v) && decide (v ≤ 7))

/-- R220: LINK_SPEED of a mode once the link is up; what USXGMII negotiates is the PHY's word: a free value of its speeds. -/
def macSpeed (h : Hub) (mode : Nat) : Nat :=
  match mode with
  | 1 => 25000000 | 2 => 10000000
  | 3 => nth [10000000, 5000000, 2500000, 1000000] (Config.freeNat h.fresh % 4) 0
  | 4 => 10000000 | 5 => 5000000 | 6 => 2500000 | 7 => 1000000 | _ => 0

/-- R220, R131, R370: the MAC's link comes up over its lane. R388: while PW53 sleeps, the partner's signal on the lane is a pin event of
it. (DEDUCED, log 47) -/
def macUp (h : Hub) (m : Nat) : Hub :=
  let mode := getN h (Obj.MAC_MODE m)
  if !domOn h 53 then later h (.pinWake 53)
  else if mode == 0 || !inService h (macUnit m) || !laneTrainable h (24 + m) then h
  else
    let v := macSpeed h mode
    let h := laneRun (tick h) (24 + m) (if mode == 1 then 25781250 else 10312500)
    fitAllotted (linkUp (setLineRate (setN h (Obj.LINK_SPEED m) v) (macGrate m) v) (macGrate m)) (macGrate m)

/-- The MAC's link is down: LINK_SPEED and PT_LINE_RATE read 0 and its Grate port goes down. -/
def macStop (h : Hub) (m : Nat) : Hub :=
  let h := setTime h (fun t => { t with announces := merase t.announces m })
  gptpFollows (linkDown (setLineRate (setN (laneDown h (24 + m)) (Obj.LINK_SPEED m) 0) (macGrate m) 0) (macGrate m))

/-- R221: link loss while MAC_MODE is not 0. -/
def macLost (h : Hub) (m : Nat) : Hub :=
  if getN h (Obj.MAC_MODE m) == 0 then h else setFlag (macStop h m) (Obj.LINK_LOST m)

/-- R235: a write of MAC_MODE. -/
def macSetMode (h : Hub) (m v : Nat) : Hub :=
  let h := setN h (Obj.MAC_MODE m) v
  if v == 0 then macStop h m else h

/-- R222: how far a timestamp may lie from the truth: a free value within ±4 ns, ±8 ns on MAC2 to MAC5. (DESIGN CHOICE, log 8; DEDUCED, log 46) -/
def stampError (h : Hub) (m : Nat) : Int :=
  let w := if m < 2 then 4 else 8
  ((Config.freeNat h.fresh % (2 * w + 1) : Nat) : Int) - (w : Nat)

/-- R222: a PTP event message is time-stamped. (DEDUCED, log 46) -/
def stamp (h : Hub) (m : Nat) (tx : Bool) (f : Frame) : Hub :=
  if f.ptpEvent then
    let d : Int := if tx then getN h (Obj.PHY_DELAY_TX m) else - (getN h (Obj.PHY_DELAY_RX m) : Int)
    send (tick h) (.timestamp m tx ((h.net : Int) + stampError h m + d).toNat)
  else h

/-- R221: a received PAUSE frame is counted, and with PAUSE_RX holds the transmit for the time it asks; 0 ends the hold. -/
def macPause (h : Hub) (m quanta : Nat) : Hub :=
  if !macRuns h m then h
  else
    let h := bump h (Obj.RX_PAUSE m)
    if getB h (Obj.PAUSE_RX m) then
      setGrate h (fun g => { g with stalled := if quanta == 0 then g.stalled.filter (· != macGrate m) else insertNew g.stalled (macGrate m) })
    else h

/-- R221: the hold ends. -/
def macPauseEnd (h : Hub) (m : Nat) : Hub := setGrate h (fun g => { g with stalled := g.stalled.filter (· != macGrate m) })

/-! MACsec -/

/-- The key of a secure association in `Macs.keyed`. (DEDUCED, log 30) -/
def saKey (m pos : Nat) : Nat := 8 * m + pos

/-- R232, R21: an SA has a key: it is valid, the slot it bound still holds it, and the key store is in service. -/
def saKeyed (h : Hub) (m pos : Nat) : Bool :=
  getB h (at_ pos (Obj.SA_VALID m)) && (mget? h.macs.keyed (saKey m pos)).isSome && inService h keyStoreUnit

/-- R232, R236: an SA COMMIT: `h'` holds the staged values. A valid SA binds its slot. (DEDUCED, log 30) -/
def saApply (h h' : Hub) (m pos : Nat) : Option Abort × Hub :=
  if getB h' (at_ pos (Obj.SA_VALID m)) then
    let s := getN h' (at_ pos (Obj.SA_KEY_SLOT m))
    match bindMacsec h s, bindMacsec h' s with
    | (some a, h), _ => (some a, h)
    | (none, h), (some a, _) => (some a, h)
    | (none, _), (none, h') => (none, { h' with macs := { h'.macs with keyed := mset h'.macs.keyed (saKey m pos) s } })
  else (none, { h' with macs := { h'.macs with keyed := merase h'.macs.keyed (saKey m pos) } })

/-- R233: PNs end at 2^32, or at 2^64 with XPN. -/
def pnEnd (h : Hub) (m : Nat) : Nat := if getN h (Obj.MS_CIPHER m) == 1 then 2 ^ 64 else 2 ^ 32

/-- R233: an SA's next PN moves; when it reaches MS_PN_THRESHOLD the flag is set. -/
def setPn (h : Hub) (m pos v : Nat) : Hub :=
  let was := getN h (at_ pos (Obj.SA_NEXT_PN m))
  let t := getN h (Obj.MS_PN_THRESHOLD m)
  let h := bump (setN h (at_ pos (Obj.SA_NEXT_PN m)) v) (at_ pos (Obj.SA_FRAMES m))
  if was < t && t ≤ v then setFlag h (Obj.MACSEC_PN_NEAR m) else h

/-- IEEE 802.1AE: the PN of a received frame: with XPN the SecTAG brings its low half, and the high half follows from the lowest PN that
is acceptable. -/
def rxPn (h : Hub) (m nxt pn : Nat) : Nat :=
  let low := pn % 2 ^ 32
  let least := nxt - getN h (Obj.MS_REPLAY_WINDOW m)
  if getN h (Obj.MS_CIPHER m) != 1 then low
  else least / 2 ^ 32 * 2 ^ 32 + low + (if 2 ^ 31 ≤ least % 2 ^ 32 && decide (low < 2 ^ 31) then 2 ^ 32 else 0)

/-- IEEE 802.1AE: a frame belongs to the one receive channel: its SecTAG names the channel's SCI, or none. -/
def sciFits (h : Hub) (m pos : Nat) (t : SecTag) : Bool :=
  match t.sci with
  | some x => x == getBytes h (at_ pos (Obj.SA_PEER_SCI m))
  | none => true

/-- R231, IEEE 802.1AE: what Strict validation makes of a received frame: whether it passes, and the counters. (DEDUCED, log 30) -/
def macsecRx (h : Hub) (m : Nat) (etherType : Nat) (tag : Option SecTag) : Bool × Hub :=
  let mode := getN h (Obj.MS_MODE m)
  if mode == 0 then (true, h)
  else match tag with
    | none => if mode == 2 || etherType == 0x888E then (true, h) else (false, bump h (Obj.MS_RX_UNTAGGED m))
    | some t =>
      let pos := 4 + t.an % 4
      if !saKeyed h m pos || !sciFits h m pos t then (false, bump h (Obj.MS_RX_NO_SA m))
      else
        let nxt := getN h (at_ pos (Obj.SA_NEXT_PN m))
        let pn := rxPn h m nxt t.pn
        if pn + getN h (Obj.MS_REPLAY_WINDOW m) < nxt then (false, bump h (Obj.MS_RX_REPLAY m))
        else if !t.icvOk then (false, bump h (Obj.MS_RX_INVALID m))
        else (true, setPn (bump h (Obj.MS_RX_OK m)) m pos (max nxt (pn + 1)))

/-- R234: what a SecTAG, with or without SCI, and the ICV add to a frame. -/
def secLen (sci : Bool) : Nat := if sci then 32 else 24

/-- R231: a validated frame without its SecTAG and ICV. -/
def stripTag (h : Hub) (m : Nat) (tag : Option SecTag) (f : Frame) : Frame :=
  match tag with
  | some t => if getN h (Obj.MS_MODE m) == 0 then f else { f with len := f.len - secLen t.sci.isSome }
  | none => f

/-- R233: the transmit SA's number and PN for the next frame, or none when it has no key or its PN is exhausted. -/
def txSa (h : Hub) (m : Nat) : Option (Nat × Nat) :=
  let an := getN h (Obj.MS_TX_AN m)
  let pn := getN h (at_ an (Obj.SA_NEXT_PN m))
  if saKeyed h m an && decide (pn < pnEnd h m) then some (an, pn) else none

/-- IEEE 802.1AE: the nonce of a frame: the SCI and the PN, or with XPN the SSCI and the PN, combined with the salt. -/
def nonceOf (h : Hub) (m an pn : Nat) : List Byte :=
  if getN h (Obj.MS_CIPHER m) == 1 then
    (beBytes 4 (getN h (at_ an (Obj.SA_SSCI m))) ++ beBytes 8 pn).zipWith (· ^^^ ·) (getBytes h (at_ an (Obj.SA_SALT m)))
  else getBytes h (Obj.MS_SCI m) ++ beBytes 4 pn

/-- R221, R222, R231: a MAC receives a whole frame; lengths are those without SecTAG and ICV (R144). A gPTP Announce message at a MAC of
GPTP_MACS goes no further than the time unit. (DEDUCED, log 47) -/
def macRx (h : Hub) (m : Nat) (f : Frame) (fcsOk : Bool) (tag : Option SecTag) : Hub :=
  let plain := stripTag h m tag f
  if !macRuns h m then h
  else if !fcsOk then bump h (Obj.RX_FCS_ERRORS m)
  else if plain.len < 64 then bump h (Obj.RX_UNDERSIZE m)
  else if plain.len > getN h (Obj.MAX_FRAME m) then bump h (Obj.RX_OVERSIZE m)
  else
    let h := stamp (addN (bump h (Obj.RX_FRAMES m)) (Obj.RX_BYTES m) plain.len) m false f
    match macsecRx h m f.hdr.etherType tag, f.announce.filter (fun _ => bitOf (getN h Obj.GPTP_MACS) m) with
    | (false, h), _ => h
    | (true, h), some a => takeAnnounce h m a
    | (true, h), none => ingress h (macGrate m) (macGrate m) false false (fromOutside plain)

/-- R231-R234, R222: a MAC sends a frame that the Grate delivered to it; TX_BYTES counts it without SecTAG and ICV (R144). -/
def macTx (h : Hub) (m : Nat) (f : Frame) : Hub :=
  let out (h : Hub) (wire : Frame) (sec : Option Secured) : Hub :=
    stamp (send (addN (bump h (Obj.TX_FRAMES m)) (Obj.TX_BYTES m) f.len) (.egress (macGrate m) wire sec)) m true f
  if getN h (Obj.MS_MODE m) == 0 then out h f none
  else match txSa h m with
    | none => bump h (Obj.MS_TX_NO_SA m)
    | some (an, pn) =>
      let sci := if getB h (Obj.MS_INCLUDE_SCI m) then some (getBytes h (Obj.MS_SCI m)) else none
      out (setPn h m an (pn + 1)) { f with len := f.len + secLen sci.isSome }
        (some { an := an, pn := pn, sci := sci, nonce := nonceOf h m an pn })

end Sys2Proof.Machine
end

