-- ==== Sys2Proof/Machine/Usb4.lean ====
section
/-! DEFINITION. USB4 ports: adapters (R185), router configuration space (R186, R187), paths as wildcards and subscribers
(R188-R192), credits (R194-R196), bandwidth allocation (R197), alternate mode (R199) and link events (R200). -/

namespace Sys2Proof.Machine

/-- Table 10.2: lane adapters, and the USB4 port of one. -/
def isLane (a : Nat) : Bool := decide (1 ≤ a) && decide (a ≤ 8)
def lanePort (a : Nat) : Nat := (a - 1) / 2

/-- Table 1.2: the Grate port of USB4 port k. -/
def usb4Grate (k : Nat) : Nat := if k == 0 then 1 else k + 2

/-- Table 10.2: the Grate port of an adapter. -/
def adapterGrate (a : Nat) : Nat :=
  if isLane a then usb4Grate (lanePort a)
  else if a ≤ 11 then a + 12
  else if a ≤ 15 then 13
  else if a ≤ 19 then 6
  else a - 17

/-- R185: adapters that read as not implemented on the BW-7720. -/
def adapterPresent (p : Part) (a : Nat) : Bool := !(p == .bw7720 && [7, 8, 15, 19, 22].contains a)

def setUsb4 (h : Hub) (f : Usb4 → Usb4) : Hub := { h with usb4 := f h.usb4 }

/-- The key of a path: port and window position. -/
def pathKey (k pos : Nat) : Nat := k * 64 + pos

/-- R188: the port in whose window a path appears. -/
def pathPort (s : PathSpec) : Nat := if isLane s.inAdapter then lanePort s.inAdapter else lanePort s.outAdapter

/-- The path that an arriving packet belongs to, by ingress adapter and HopID. -/
def pathOfHop (h : Hub) (a hop : Nat) : Option (Nat × Path) :=
  h.usb4.paths.find? (fun x => x.2.spec.inAdapter == a && x.2.spec.inHop == hop && x.2.state == 1)

/-- The path that owns a subscriber. -/
def pathOfSub (h : Hub) (u : Nat) : Option (Nat × Path) := h.usb4.paths.find? (fun x => x.2.sub == u && x.2.state == 1)

/-- Every frame that is in the hub, once each: in the Grate, unacknowledged at a port, not yet accepted or on its way back at GP28, in a wait
list or held at an egress. -/
def framesIn (h : Hub) : List Frame :=
  h.grate.frames.map (·.frame) ++ h.grate.atPort.flatMap (fun x => x.2.map (·.frame))
  ++ h.grate.asleep.map (·.2.2.frame) ++ h.grate.reentry.map (·.frame)
  ++ h.usb4.waiting.flatMap (fun w => w.2.map (·.2.frame)) ++ h.usb4.held.flatMap (fun w => w.2.map (·.2.frame))
  ++ h.pcie.waiting.flatMap (fun w => w.2.map (·.frame)) ++ h.pcie.back.flatMap (fun w => w.2.map (·.frame))

/-- Change what every frame in the hub carries. -/
def mapFrames (g : Frame → Frame) (h : Hub) : Hub :=
  let m (x : GFrame) : GFrame := { x with frame := g x.frame }
  let h := setGrate h (fun x => { x with
    frames := x.frames.map m
    asleep := x.asleep.map (fun y => (y.1, y.2.1, m y.2.2))
    reentry := x.reentry.map m
    atPort := x.atPort.map (fun y => (y.1, y.2.map (fun z => { z with frame := g z.frame }))) })
  { h with
    usb4 := { h.usb4 with
      waiting := h.usb4.waiting.map (fun w => (w.1, w.2.map (fun y => (y.1, m y.2))))
      held := h.usb4.held.map (fun w => (w.1, w.2.map (fun y => (y.1, m y.2)))) }
    pcie := { h.pcie with
      waiting := h.pcie.waiting.map (fun w => (w.1, w.2.map m))
      back := h.pcie.back.map (fun w => (w.1, w.2.map m)) } }

/-- R195: packets received on a path that are still in the hub. -/
def pathHeld (h : Hub) (key : Nat) : Nat := ((framesIn h).filter (fun f => f.path == some key)).length

/-- R195: the credits freed and not yet granted: what partner and held leave of PA_CREDITS. -/
def pathOwed (h : Hub) (key : Nat) (x : Path) : Nat := x.spec.credits - x.partner - pathHeld h key

/-- R194: the credits that a path advertises to the link partner at its ingress; a path whose ingress is a protocol adapter has no
partner there (Table 10.5). (DEDUCED, log 29) -/
def advertises (s : PathSpec) : Nat := if s.flowControlled && isLane s.inAdapter then s.credits else 0

/-- R194: CREDITS_ADVERTISED of a port. -/
def creditsAdvertised (h : Hub) (k : Nat) : Nat :=
  sumOf (fun x => if x.1 / 64 == k && x.2.state == 1 then advertises x.2.spec else 0) h.usb4.paths

/-- R188: the lowest free window position of a port. -/
def freePosition (h : Hub) (k : Nat) : Option Nat :=
  (List.range 64).find? (fun i => (mget? h.usb4.paths (pathKey k i)).isNone)

/-- R190: the highest-numbered wildcard position whose W_VALID is 0. -/
def freeWild (h : Hub) : Option Nat := (List.range 256).reverse.find? (fun i => !getB h (at_ i Obj.WC_E_VALID))

/-- R189: the service of a path, by its egress. -/
def pathService (s : PathSpec) : Nat :=
  let n := adapterGrate s.outAdapter
  if isLane s.outAdapter then 8 * n + 7 - s.priority else 8 * n + 7

/-- R189, R193: the priorities that the router gives the services of tunnel egresses when it takes up its first path; what is
written to them while it holds paths it does not undo. (DEDUCED, log 29) -/
def routerPriorities (h : Hub) : Hub :=
  if !h.usb4.paths.isEmpty then h
  else
  let h := forEach [1, 3, 4, 5] h (fun h n => forEach (List.range 8) h (fun h j => setN h (at_ (8 * n + j) Obj.SV_PRIORITY) j))
  forEach [21, 22, 23, 13, 6] h (fun h n => setN h (at_ (8 * n + 7) Obj.SV_PRIORITY) 7)

/-- R189: the values that the router commits for a path's subscriber. -/
def stagePathSub (h : Hub) (u : Nat) (s : PathSpec) (pool : Nat) : Hub :=
  let x := setN h (at_ u Obj.SB_ENABLE) 1
  let x := setN x (at_ u Obj.SB_SERVICE) (pathService s)
  let x := setN x (at_ u Obj.SB_POOL) pool
  let x := setN x (at_ u Obj.SB_WEIGHT) (if s.weight == 0 then 1 else s.weight)
  let x := setN (setN x (at_ u Obj.SB_CIR) 0) (at_ u Obj.SB_CBS) 0
  setN (setN x (at_ u Obj.SB_EIR) 200000000) (at_ u Obj.SB_EBS) 16777216

/-- R189, R318: the pool of a path: its port's, and UP's for the buffering of the USB 3.2 hub. R189 gives every path its port's PORT_POOL,
R318 the hub's buffering UP's: the more particular rule holds for paths that end at the hub. (DEDUCED, log 29) -/
def pathPool (h : Hub) (s : PathSpec) : Nat :=
  let usb (a : Nat) : Bool := 16 ≤ a && a ≤ 19
  getN h (Obj.PORT_POOL (if usb s.inAdapter || usb s.outAdapter then 0 else pathPort s))

/-- R189: the lowest free subscriber of a port's reservation. R142, R168: one whose COMMIT is refused, since it still holds frames or
since another member of its multicast group sits at the path's egress, is not free. (DEDUCED, log 29) -/
def freeSub (h : Hub) (k : Nat) (s : PathSpec) : Option Nat :=
  ((List.range (getN h (Obj.PORT_SUB_COUNT k))).map (getN h (Obj.PORT_SUB_BASE k) + ·)).find?
    (fun u => !(h.usb4.paths.any (fun x => x.2.sub == u)) && (subCheck h (stagePathSub h u s (pathPool h s)) u).isNone)

/-- R189, R206: commit a path's subscriber and its envelope in the supervisor context. A tunnel in bandwidth allocation mode has no
allocation before its first grant. (DEDUCED, log 29) -/
def commitPathSub (h : Hub) (u : Nat) (s : PathSpec) (pool : Nat) : Hub :=
  let h := subApply h (stagePathSub h u s pool) u
  let (lo, hi) := if s.bandwidthMode then (0, 0) else (0, 200000000)
  let h := setN (setN (setN h (at_ u Obj.AS_MODE) 1) (at_ u Obj.AS_MIN) lo) (at_ u Obj.AS_MAX) hi
  setN h (at_ u Obj.AS_DEMAND) 0

/-- R190: commit a path's wildcard entry. -/
def commitPathWild (h : Hub) (pos u : Nat) (s : PathSpec) : Hub :=
  let key : List Byte := [6, 0, 0, 0] ++ beBytes 1 s.inAdapter ++ beBytes 2 s.inHop ++ List.replicate 41 0
  let mask : List Byte := [0xFF, 0, 0xFF, 0, 0xFF, 0x07, 0xFF] ++ List.replicate 41 0
  let k := at_ pos
  let x := setBytes (setBytes (setN h (k Obj.WC_E_VALID) 1) (k Obj.WC_E_KEY) key) (k Obj.WC_W_MASK) mask
  let x := setN (setN (setN x (k Obj.WC_E_ACTION) 0) (k Obj.WC_E_SUBSCRIBER) u) (k Obj.WC_E_CLASS) 7
  let x := setN (setN (setN x (k Obj.WC_E_YELLOW_CLASS) 0xFF) (k Obj.WC_E_POLICER) 0xFFFF) (k Obj.WC_E_MIRROR) 0
  wildApply h (setN x (k Obj.WC_E_PROTECTED) 0) pos

/-- R199: the port's lanes are in DisplayPort alternate mode. -/
def inAltMode (h : Hub) (k : Nat) : Bool := getN h (Obj.LINK_MODE k) == 8

/-- Table 10.3, R185: an adapter accepts the input HopID: 8 to 1,023 at adapters 1, 3, 5 and 7, 8 to 63 at a protocol adapter. -/
def hopAccepted (a hop : Nat) : Bool :=
  if isLane a then a % 2 == 1 && decide (8 ≤ hop) && decide (hop ≤ 1023)
  else decide (9 ≤ a) && decide (a ≤ 22) && decide (8 ≤ hop) && decide (hop ≤ 63)

/-- R185: an adapter that a path can leave at: adapters 1, 3, 5 and 7, and the protocol adapters. -/
def pathEgress (a : Nat) : Bool := if isLane a then a % 2 == 1 else decide (9 ≤ a) && decide (a ≤ 22)

/-- R186, R191, R199: what makes a path write end with the USB4 specification's error status. R188: a port's 65th path is one of these, for
which the manual names no outcome. (DESIGN CHOICE, log 29) -/
def pathRefused (h : Hub) (s : PathSpec) : Bool :=
  let k := pathPort s
  !hopAccepted s.inAdapter s.inHop || !pathEgress s.outAdapter || !adapterPresent h.part s.inAdapter || !adapterPresent h.part s.outAdapter
  || !(isLane s.inAdapter || isLane s.outAdapter)
  || (isLane s.inAdapter && inAltMode h (lanePort s.inAdapter))
  || (isLane s.outAdapter && inAltMode h (lanePort s.outAdapter))
  || (s.flowControlled && decide (creditsAdvertised h k + advertises s > getN h (Obj.CREDIT_TOTAL k)))
  || (freePosition h k).isNone

/-- R191: a path of which the hub has put what it could into force; the write completes in every case. -/
def pathDone (h : Hub) (s : PathSpec) : Hub := send h (.link (usb4Unit 0) "config done" [s.inAdapter, s.inHop])

/-- R188-R191: a path entry that is not in the window yet is enabled. With neither a wildcard position nor a subscriber free, PA_STATE
reads 2. (DESIGN CHOICE, log 29) -/
def pathEnter (h : Hub) (s : PathSpec) : Hub :=
  if pathRefused h s then send h (.link (usb4Unit 0) "config error" [s.inAdapter, s.inHop])
  else
    let k := pathPort s
    let pos := (freePosition h k).getD 0
    let put (h : Hub) (x : Path) : Hub := setUsb4 h (fun u => { u with paths := mset u.paths (pathKey k pos) x })
    let h := routerPriorities h
    let wild := if isLane s.inAdapter then freeWild h else none
    if isLane s.inAdapter && wild.isNone then pathDone (setFlag (put h { spec := s, state := 2 }) (Obj.PATH_SETUP_FAILED k)) s
    else match freeSub h k s with
      | none => pathDone (setFlag (put h { spec := s, state := 3 }) (Obj.PATH_SETUP_FAILED k)) s
      | some u =>
        let h := commitPathSub h u s (pathPool h s)
        let h := match wild with
          | some w => commitPathWild h w u s
          | none => h
        let p : Path := { spec := s, state := 1, wild := wild.getD 0xFFFF, sub := u
                          partner := advertises s }
        let h := underAllotment h (adapterGrate s.outAdapter) (fun h => put h p)
        let h := setN (setN h (at_ pos (Obj.PA_PACKETS_IN k)) 0) (at_ pos (Obj.PA_PACKETS_OUT k)) 0
        let h := if s.flowControlled && isLane s.inAdapter then send h (.link (usb4Unit k) "credit grant" [pos, s.credits]) else h
        pathDone h s

/-- R16, R192: packets of a path that wait for credit, or that its egress holds back, when the path goes: each is discarded and
counted in PT_ASH_DISABLED of its egress port, and the egress is free again. (DEDUCED, log 29) -/
def dropWaiting (h : Hub) (key port : Nat) : Hub :=
  let count (w : SMap (List (Nat × GFrame))) : Nat := sumOf (fun w => (w.2.filter (fun y => y.1 == key)).length) w
  let rest (w : SMap (List (Nat × GFrame))) : SMap (List (Nat × GFrame)) := w.map (fun x => (x.1, x.2.filter (fun y => y.1 != key)))
  let n := count h.usb4.waiting + count h.usb4.held
  let had := h.usb4.held.filter (fun x => !x.2.isEmpty)
  let h := setUsb4 h (fun u => { u with waiting := rest u.waiting, held := rest u.held })
  let freed := (had.filter (fun x => (mget h.usb4.held [] x.1).isEmpty)).map (fun x => usb4Grate x.1)
  let h := setGrate h (fun g => { g with stalled := g.stalled.filter (fun p => !freed.contains p) })
  if n == 0 then h else addN h (at_ port Obj.PT_ASH_DISABLED) n

/-- R192: a path is disabled: its wildcard first, then its subscriber; then position, subscriber and credits are free, and with them
the allocation of its tunnel (R206). -/
def pathDisable (h : Hub) (k pos : Nat) : Hub :=
  match mget? h.usb4.paths (pathKey k pos) with
  | none => h
  | some x =>
    let key := pathKey k pos
    let h := if x.wild < 256 then wildApply h (setN h (at_ x.wild Obj.WC_E_VALID) 0) x.wild else h
    let h := if x.sub < 1024 then subApply h (setN h (at_ x.sub Obj.SB_ENABLE) 0) x.sub else h
    let h := if x.sub < 1024 then setN h (at_ x.sub Obj.AS_MODE) 0 else h
    let h := dropWaiting h key (adapterGrate x.spec.outAdapter)
    let h := mapFrames (fun f => if f.path == some key then { f with path := none } else f) h
    underAllotment h (adapterGrate x.spec.outAdapter) (fun h =>
      setUsb4 h (fun u => { u with paths := merase u.paths key, dpAlloc := merase u.dpAlloc key }))

/-- R188-R191: a configuration write that enables a path. A write to an entry that is enabled already takes its place: each
enabled path has one position. (DEDUCED, log 29) -/
def pathEnable (h : Hub) (s : PathSpec) : Hub :=
  match h.usb4.paths.find? (fun x => x.2.spec.inAdapter == s.inAdapter && x.2.spec.inHop == s.inHop) with
  | none => pathEnter h s
  | some x =>
    let h' := pathDisable h (x.1 / 64) (x.1 % 64)
    if pathRefused h' s then send h (.link (usb4Unit 0) "config error" [s.inAdapter, s.inHop]) else pathEnter h' s

/-- R192: every path of a port's window. -/
def removePaths (h : Hub) (k : Nat) : Hub :=
  forEach ((h.usb4.paths.filter (fun x => x.1 / 64 == k)).map (fun x => x.1 % 64)) h (fun h i => pathDisable h k i)

/-! Credits (R194-R196) -/

/-- R195: a packet may come on a path: a partner sends none on a flow-controlled path for which it holds no credit. (DEDUCED, log 29) -/
def mayArrive (h : Hub) (f : Frame) : Bool :=
  match pathOfHop h f.hdr.adapter f.hdr.hopId with
  | some (_, x) => !x.spec.flowControlled || decide (0 < x.partner)
  | none => true

/-- R195, R202, R203: a packet arrives at a USB4 port: counted, and a flow-controlled path's partner has one credit fewer, which the
packet holds. -/
def noteArrival (h : Hub) (k : Nat) (f : Frame) : Frame × Hub :=
  let h := bump h (Obj.RX_PACKETS k)
  match pathOfHop h f.hdr.adapter f.hdr.hopId with
  | none => (f, h)
  | some (key, x) =>
    let h := bump h (at_ (key % 64) (Obj.PA_PACKETS_IN (key / 64)))
    if x.spec.flowControlled then
      ({ f with path := some key }, setUsb4 h (fun u => { u with paths := mset u.paths key { x with partner := x.partner - 1 } }))
    else (f, h)

/-- R190, R203: a packet that the unit behind a protocol adapter sends on a path: the unit steers it to the path's subscriber. -/
def fromProtocol (h : Hub) (port : Nat) (f : Frame) : Frame × Hub :=
  let x := match f.steer with
    | some u => pathOfSub h u
    | none => if f.hdr.kind == HdrKind.usb4 then pathOfHop h f.hdr.adapter f.hdr.hopId else none
  match x with
  | some (key, x) =>
    if !isLane x.spec.inAdapter && adapterGrate x.spec.inAdapter == port then
      ({ f with steer := some x.sub }, bump h (at_ (key % 64) (Obj.PA_PACKETS_IN (key / 64))))
    else (f, h)
  | none => (f, h)

/-- R203: a packet that came in at the ingress of its path reaches the protocol adapter at which the path ends. -/
def toProtocol (h : Hub) (port q : Nat) (f : GFrame) : Hub :=
  match pathOfSub h (qSub q) with
  | some (key, x) =>
    if !isLane x.spec.outAdapter && adapterGrate x.spec.outAdapter == port && adapterGrate x.spec.inAdapter == bondBase f.firstPort then bump h (at_ (key % 64) (Obj.PA_PACKETS_OUT (key / 64))) else h
  | none => h

/-- R194: the hub grants the link partner what it owes; a path that starts at a protocol adapter has no partner. (DEDUCED, log 29) -/
def creditGrant (h : Hub) (k pos : Nat) : Hub :=
  match mget? h.usb4.paths (pathKey k pos) with
  | none => h
  | some x =>
    let n := pathOwed h (pathKey k pos) x
    if x.state == 1 && x.spec.flowControlled && isLane x.spec.inAdapter && decide (0 < n) then
      send (setUsb4 h (fun u => { u with paths := mset u.paths (pathKey k pos) { x with partner := x.partner + n } }))
        (.link (usb4Unit k) "credit grant" [pos, n])
    else h

/-- R195: after a link re-initialisation, partner is PA_CREDITS − held, granted afresh. What a path's grant at the egress becomes, PA_OUT_GRANT,
the manual does not say: the model keeps it. (DESIGN CHOICE, log 29) -/
def resyncCredits (h : Hub) (k : Nat) : Hub :=
  forEach (h.usb4.paths.filter (fun x => x.2.state == 1 && x.2.spec.flowControlled && isLane x.2.spec.inAdapter && lanePort x.2.spec.inAdapter == k)) h
    (fun h x =>
      let n := x.2.spec.credits - pathHeld h x.1
      send (setUsb4 h (fun u => { u with paths := mset u.paths x.1 { x.2 with partner := n } }))
        (.link (usb4Unit k) "credit grant" [x.1 % 64, n]))

/-- R188: a packet of a path leaves with the egress adapter and HopID that its entry names; the hub's own marks stay behind.
(DEDUCED, log 29) -/
def outPacket (h : Hub) (key : Option Nat) (f : Frame) : Frame :=
  let f := fromOutside f
  match key.bind (mget? h.usb4.paths) with
  | some x => { f with hdr := { f.hdr with adapter := x.spec.outAdapter, hopId := x.spec.outHop } }
  | none => f

/-- R202, R203: a packet leaves at a USB4 port. -/
def txPacket (h : Hub) (k : Nat) (key : Option Nat) (f : GFrame) : Hub :=
  let h := send (bump h (Obj.TX_PACKETS k)) (.egress (usb4Grate k) (outPacket h key f.frame) none)
  match key with
  | some y => bump h (at_ (y % 64) (Obj.PA_PACKETS_OUT (y / 64)))
  | none => h

/-- R196: a packet of a path may leave on its grant: none of the path's packets waits ahead of it. -/
def grantOpen (h : Hub) (k key : Nat) : Bool :=
  !(mget h.usb4.waiting [] k).any (fun y => y.1 == key) && match mget? h.usb4.paths key with
    | some x => decide (0 < x.grant)
    | none => true

/-- R196: a packet of a path leaves on its grant, or the credit wait list has room for it: 256 per port, 16 per path. -/
def waitRoom (h : Hub) (k key : Nat) : Bool :=
  let w := mget h.usb4.waiting [] k
  grantOpen h k key || (decide (w.length < 256) && decide ((w.filter (fun y => y.1 == key)).length < 16))

/-- R196: a packet of a flow-controlled path leaves on its grant, or joins the credit wait list. -/
def sendOrWait (h : Hub) (k key : Nat) (f : GFrame) : Hub :=
  if grantOpen h k key then
    txPacket (setUsb4 h (fun u => { u with paths := mupd u.paths key (fun x => { x with grant := x.grant - 1 }) })) k (some key) f
  else setUsb4 h (fun u => { u with waiting := mset u.waiting k (mget u.waiting [] k ++ [(key, f)]) })

/-- R196: the port withholds acceptance from its egress, once for each frame that would exceed a limit. -/
def holdEgress (h : Hub) (k : Nat) : Hub :=
  bump (setGrate h (fun g => { g with stalled := insertNew g.stalled (usb4Grate k) })) (Obj.CREDIT_STALLS k)

/-- R196: a frame that the Grate delivered to a USB4 port: one whose path ends at the port's DP OUT adapter leaves in its stream (R199), and
is no packet of the link; a flow-controlled path's packet needs a credit, waits in the
credit wait list, or holds the egress; what the Grate still delivers in that step stays behind it. (DEDUCED, log 29) -/
def laneEgress (h : Hub) (k q : Nat) (f : GFrame) : Hub :=
  let held := mget h.usb4.held [] k
  match pathOfSub h (qSub q) with
  | none => txPacket h k none f
  | some (key, x) =>
    let keep (h : Hub) : Hub := setUsb4 h (fun u => { u with held := mset u.held k (held ++ [(key, f)]) })
    if !isLane x.spec.outAdapter then send h (.egress (usb4Grate k) (outPacket h (some key) f.frame) none)
    else if !(x.spec.flowControlled && isLane x.spec.outAdapter) then txPacket h k (some key) f
    else if !held.isEmpty then keep h
    else if waitRoom h k key then sendOrWait h k key f
    else holdEgress (keep h) k

/-- R196: send the waiting packets of a path while its grant lasts. -/
def drainPath (k key : Nat) : Nat → Hub → Hub
  | 0, h => h
  | n + 1, h =>
    match mget? h.usb4.paths key with
    | none => h
    | some x =>
      let w := mget h.usb4.waiting [] k
      match w.find? (fun y => y.1 == key) with
      | none => h
      | some (_, f) =>
        if x.grant == 0 then h
        else
          let h := setUsb4 h (fun u => { u with
            paths := mset u.paths key { x with grant := x.grant - 1 }
            waiting := mset u.waiting k (w.eraseP (fun y => y.1 == key)) })
          drainPath k key n (txPacket h k (some key) f)

/-- R196: the frames that a port holds back go on while the list has room; one that still exceeds a limit is a further hold. -/
def refillHeld (k : Nat) : Nat → Bool → Hub → Hub
  | 0, _, h => h
  | n + 1, moved, h =>
    match mget h.usb4.held [] k with
    | [] => if moved then setGrate h (fun g => { g with stalled := g.stalled.filter (· != usb4Grate k) }) else h
    | (key, f) :: r =>
      if waitRoom h k key then refillHeld k n true (sendOrWait (setUsb4 h (fun u => { u with held := mset u.held k r })) k key f)
      else if moved then holdEgress h k else h

/-- R196: credit arrives from the partner at a path's egress. -/
def creditArrival (h : Hub) (k pos n : Nat) : Hub :=
  let key := pathKey k pos
  match mget? h.usb4.paths key with
  | none => h
  | some x =>
    let e := if isLane x.spec.outAdapter then lanePort x.spec.outAdapter else k
    let h := setUsb4 h (fun u => { u with paths := mset u.paths key { x with grant := x.grant + n } })
    let h := drainPath e key 16 h
    refillHeld e ((mget h.usb4.held [] e).length + 1) false h

/-! Configuration space (R186, R187) -/

/-- The part's number in a configuration key. -/
def cfgNo : CfgPart → Nat
  | .routerBasic => 0 | .laneAdapter => 1 | .path => 2 | .protocolAdapter => 3 | .bandwidthMode => 4
  | .timeManagement => 5 | .adapterCounters => 6 | .vendorCapability => 7 | .nvmOperation => 8 | .dpInAdapter => 9 | .interDomain => 10

/-- Table 10.3: a configuration write that needs no row of its own: supported parts take it, the vendor-specific capability
drops it, an unsupported part completes with an error and changes nothing. -/
def configWrite (h : Hub) (p : CfgPart) (reg v : Nat) : Hub :=
  match p with
  | .vendorCapability => send h (.link (usb4Unit 0) "config done" [cfgNo p, reg])
  | .nvmOperation => send h (.link (usb4Unit 0) "config error" [cfgNo p, reg])
  | .dpInAdapter => send h (.link (usb4Unit 0) "config error" [cfgNo p, reg])
  | .interDomain => send h (.link (usb4Unit 0) "config error" [cfgNo p, reg])
  | p => send (setUsb4 h (fun u => { u with cfg := mset u.cfg (cfgNo p * 0x100000000 + reg) v }))
      (.link (usb4Unit 0) "config done" [cfgNo p, reg])

/-- Table 10.3: the total buffers that an adapter's configuration space reports. -/
def adapterBuffers (a : Nat) : Nat := if isLane a then 1024 else 0

/-- R185, R187, R240: the PCIe tunnel of a USB4 port: active paths in both directions at its adapter, 12 on UP, 13 to 15 on DN1 to DN3.
(DEDUCED, log 17) -/
def tunnelOn (h : Hub) (k : Nat) : Bool :=
  h.usb4.paths.any (fun x => x.2.state == 1 && x.2.spec.inAdapter == 12 + k)
  && h.usb4.paths.any (fun x => x.2.state == 1 && x.2.spec.outAdapter == 12 + k)

/-! Link events (R182-R184, R200) -/

/-- R200: a USB4 link is up at the port; through UP's come the connection manager's writes. -/
def usb4Link (h : Hub) (k : Nat) : Bool := decide (3 ≤ getN h (Obj.LINK_MODE k)) && decide (getN h (Obj.LINK_MODE k) ≤ 7)

/-- The members of a USB4 port's Grate port go down or come up together. R227: without its link UP's time management unit reports no
synchronisation. -/
def usb4Down (h : Hub) (k : Nat) : Hub :=
  forEach (bondMembers (usb4Grate k)) (whenH (k == 0 && h.time.qualified.contains 3) h (fun h => later h (.sourceGone .usb4))) linkDown
def usb4Up (h : Hub) (k : Nat) : Hub := forEach (bondMembers (usb4Grate k)) h linkUp

/-- Set what a port's link reads, and run its lanes: lane, rate, and the pair that runs the other way (R183). (DEDUCED, log 47) -/
def setLinkOn (h : Hub) (k mode : Nat) (ls : List (Nat × Nat × Nat)) (rx tx : Nat) : Hub :=
  let h := forEach [0, 1] h (fun h i => match ls.find? (fun x => x.1 == i) with
    | some x => laneRunRev h (2 * k + i) x.2.1 x.2.2
    | none => if mode == 0 then laneDown h (2 * k + i) else laneLeft h (2 * k + i))
  let h := setN (setN h (Obj.LINK_MODE k) mode) (Obj.LANES_UP k) ls.length
  setLineRate (setN (setN h (Obj.RX_RATE k) rx) (Obj.TX_RATE k) tx) (usb4Grate k) tx

/-- Table 10.1: a USB4 link's rate per lane. -/
def usb4LaneRate (mode : Nat) : Nat := if mode == 3 then 10000000 else if mode == 4 then 20000000 else 40000000

/-- R183: the lanes of a USB4 link; asymmetric, the second pair of the upper lane reverses. -/
def usb4Lanes (mode : Nat) (ls : List Nat) : List (Nat × Nat × Nat) :=
  let rev := if mode == 6 then 1 else if mode == 7 then 2 else 0
  ls.map (fun i => (i, usb4LaneRate mode, if i == 1 then rev else 0))

/-- R366, R370: the lanes of a port over which its link can train at a width: both, or the first that it can train over. -/
def usb4Width (h : Hub) (k lanes : Nat) : Option (List Nat) :=
  let ok := [0, 1].filter (fun i => laneTrainable h (2 * k + i))
  if lanes == 2 && ok.length == 2 then some ok else if lanes == 1 then ok.head?.map (fun i => [i]) else none

/-- Table 10.1: the rates that a USB4 link of a mode and a width receives and sends at. -/
def usb4Rates (mode lanes : Nat) : Nat × Nat :=
  if mode == 6 then (120000000, 40000000) else if mode == 7 then (40000000, 120000000)
  else (lanes * usb4LaneRate mode, lanes * usb4LaneRate mode)

/-- A port without a link. -/
def linkOff (h : Hub) (k : Nat) : Hub := setLinkOn h k 0 [] 0 0

/-- Table 10.1, R201: a link mode that the port offers in training. -/
def modeOffered (h : Hub) (k mode : Nat) : Bool :=
  match mode with
  | 3 => true
  | 4 => decide (3 ≤ getN h (Obj.MAX_GEN k))
  | 5 => getN h (Obj.MAX_GEN k) == 4
  | 6 => k == 0 && getN h (Obj.MAX_GEN k) == 4 && bitOf (getN h (Obj.ASYM_ALLOW k)) 0
  | 7 => k == 0 && getN h (Obj.MAX_GEN k) == 4 && bitOf (getN h (Obj.ASYM_ALLOW k)) 1
  | _ => false

/-- Table 10.1: a USB4 link in a mode that the port offers, at the mode's width and rates. -/
def usb4ModeOk (h : Hub) (k mode lanes rx tx : Nat) : Bool :=
  modeOffered h k mode && (decide (mode ≤ 4) || lanes == 2) && usb4Rates mode lanes == (rx, tx)

/-- R388: the domain of a USB4 port. -/
def usb4Domain (k : Nat) : Nat := if k == 0 then 50 else 51

/-- R336: for USB4 on a port, the hub answers the host's Enter_USB on UP, and sends its own on DN1 to DN3. -/
def enterUsb (h : Hub) (k : Nat) : Hub :=
  if !(pdPort h k).attached then h else if k == 0 then pdSend h 0 "Accept" [] else pdSend h k "Enter_USB" []

/-- R182: a USB4 link comes up over lanes that the port can train over; R204: a rise of the rate waits for the next pass, a fall
does not. R388: a partner that is plugged in is a pin event of the port's domain. -/
def usb4LinkUp (h : Hub) (k mode lanes rx tx : Nat) : Hub :=
  let h := later h (.pinWake (usb4Domain k))
  match usb4Width h k lanes with
  | none => h
  | some ls =>
    if usb4ModeOk h k mode lanes rx tx && domOn h (usb4Domain k) && inService h (usb4Unit k) then
      let p := usb4Grate k
      let h := underAllotment (enterUsb h k) p (fun h =>
        resyncCredits (usb4Up (bump (setLinkOn h k mode (usb4Lanes mode ls) rx tx) (Obj.LINK_UPS k)) k) k)
      fitAllotted h p
    else h

/-- R200, R192: the router's paths and its configuration space go; UP carries no USB4 link. -/
def routerReset (h : Hub) : Hub := setUsb4 (forEach [0, 1, 2, 3] h removePaths) (fun u => { u with cfg := [] })

/-- R200: UP's link is lost, or a reset from upstream. -/
def upLinkLost (h : Hub) : Hub :=
  let h := usb4Down (linkOff (routerReset h) 0) 0
  later (setFlag h (Obj.LINK_DOWN 0)) .tunnelLost

/-- R200: a DN port's link is lost or its partner unplugged. -/
def dnLinkLost (h : Hub) (k : Nat) : Hub :=
  let h := usb4Down (linkOff h k) k
  send (setFlag h (Obj.LINK_DOWN k)) (.link (usb4Unit 0) "hot unplug" [k])

/-- R200: a port's USB4 link or alternate mode is lost. -/
def portLinkLost (h : Hub) (p : Nat) : Hub :=
  if getN h (Obj.LINK_MODE p) == 0 then h
  else if p == 0 then upLinkLost h else dnLinkLost h p

/-- R200, R195, R212: one lane of a two-lane USB4 link loses lock: the link goes on at the lane that keeps it, at Gen 3 x1 at most, and
within MAX_GEN. The lane that goes on is one that has lock and is not taken from the port. (DEDUCED, log 29) -/
def linkNarrowing (h : Hub) (k lane rate : Nat) : Hub :=
  if !usb4Link h k || getN h (Obj.LANES_UP k) != 2 || !laneLocked h (2 * k + lane) then h
  else
    let mode := if rate < 20000000 || getN h (Obj.MAX_GEN k) < 3 then 3 else 4
    let r := usb4LaneRate mode
    underAllotment h (usb4Grate k) (fun h =>
      let h := setLinkOn h k mode [(lane, r, 0)] r r
      resyncCredits (bump (setFlag h (Obj.NARROWED k)) (Obj.MODE_CHANGES k)) k)

/-- R200, R212: an asymmetric transition or width change of a USB4 link; the pass runs while the port holds. (DEDUCED, log 29) -/
def asymmetricTransition (h : Hub) (k mode lanes rx tx : Nat) : Hub :=
  match usb4Width h k lanes with
  | none => h
  | some ls =>
    if usb4Link h k && usb4ModeOk h k mode lanes rx tx then
      underAllotment h (usb4Grate k) (fun h => bump (setLinkOn h k mode (usb4Lanes mode ls) rx tx) (Obj.MODE_CHANGES k))
    else h

/-- Table 10.1: the rate of a USB 3.2 link: 1 Gen 1x1, 2 Gen 2x1; 0 is USB 2.0 only. -/
def usb32Rate (gen : Nat) : Nat := if gen == 0 then 0 else if gen == 1 then 5000000 else 10000000

/-- R184: the partner is not USB4: USB 3.2, over a lane that the port can train over, or USB 2.0 only. On UP no tunnel exists, and the router holds the two paths that
join UP to the USB hub; the manual names no HopID for them, so those are free. (DESIGN CHOICE, log 8; DEDUCED, log 29) Whether the two paths
exist when UP carries its USB 2.0 pair alone the manual does not say: the model holds none then, and takes GP1 down. (DESIGN CHOICE, log 29) -/
def usb4Fallback (h : Hub) (k gen : Nat) : Hub :=
  let h := later h (.pinWake (usb4Domain k))
  let ls := if domOn h (usb4Domain k) then (usb4Width h k 1).getD [] else []
  let gen := if ls.isEmpty then 0 else gen
  let r := usb32Rate gen
  let set (h : Hub) : Hub := setLinkOn h k (if gen == 0 then 1 else 2) (if gen == 0 then [] else ls.map (fun i => (i, r, 0))) r r
  let up (h : Hub) : Hub :=
    let h := whenH (k == 0 && h.time.qualified.contains 3) h (fun h => later h (.sourceGone .usb4))
    bump (fitAllotted (usb4Up h k) (usb4Grate k)) (Obj.LINK_UPS k)
  if k == 0 then
    let h := later (set (routerReset h)) .tunnelLost
    if gen == 0 then usb4Down h 0
    else
      let a : PathSpec := { inAdapter := 1, inHop := 8 + Config.freeNat h.fresh % 56, outAdapter := 16, outHop := 8 + Config.freeNat (h.fresh + 1) % 56
                            priority := 0, weight := 1, flowControlled := false, credits := 0 }
      let b : PathSpec := { a with inAdapter := 16, inHop := a.outHop, outAdapter := 1, outHop := a.inHop }
      pathEnable (pathEnable (up (tick (tick h))) a) b
  else if gen == 0 then usb4Down (set h) k
  else up (set h)

/-- R204, R206: the active main-link paths at a DP OUT adapter whose tunnels use bandwidth allocation mode, by window position. -/
def allocPaths (h : Hub) (adapter : Nat) : List (Nat × Path) :=
  h.usb4.paths.filter (fun x => x.2.state == 1 && x.2.spec.outAdapter == adapter && x.2.spec.bandwidthMode)

/-- R186, R197, R206, R212: a bandwidth allocation request of one of the tunnels at a DP OUT adapter is granted; a decrease's pass
completes before the answer; the output is fitted anew. At any other adapter, or without the tunnel, it ends with an error.
(DEDUCED, log 29) -/
def bandwidthRequest (h : Hub) (adapter rate tunnel : Nat) : Hub :=
  match ([9, 10, 11, 20, 21, 22].contains adapter && adapterPresent h.part adapter, (allocPaths h adapter)[tunnel]?) with
  | (true, some (key, x)) =>
    let h := underAllotment h (adapterGrate adapter) (fun h =>
      let h := setUsb4 h (fun u => { u with dpAlloc := mset u.dpAlloc key rate })
      setN (setN h (at_ x.sub Obj.AS_MIN) rate) (at_ x.sub Obj.AS_MAX) rate)
    let h := send h (.link (usb4Unit 0) "allocation granted" [adapter, rate])
    if 9 ≤ adapter ∧ adapter ≤ 11 then later h (.fit adapter) else h
  | _ => send h (.link (usb4Unit 0) "config error" [adapter, rate])

/-- Table 19.1: the DisplayPort rates of a lane of a DN port. -/
def altRates : List Nat := [1620000, 2700000, 5400000, 8100000, 10000000, 13500000, 20000000]

/-- R199, R183: entry to DisplayPort alternate mode on a DN port that allows it, at a DisplayPort lane rate. Under pin assignment C all
four pairs of the port transmit; under D the lower lane carries two main-link lanes and the upper lane USB 3.2 Gen 2x1. What RX_RATE, TX_RATE
and LANES_UP read in alternate mode the manual does not say: the model sets RX_RATE 0, TX_RATE the rate of the main-link lanes together, so
without the USB 3.2 lane of pin assignment D, and LANES_UP 2. (DESIGN CHOICE, log 29) -/
def altModeEntry (h : Hub) (k : Nat) (pinC : Bool) (rate : Nat) : Hub :=
  if k != 0 && domOn h (usb4Domain k) && getB h (Obj.DP_ALT_ALLOW k) && altRates.contains rate then
    let ls := if pinC then [(0, rate, 2), (1, rate, 2)] else [(0, rate, 2), (1, 10000000, 0)]
    let h := setLinkOn h k 8 ls 0 ((if pinC then 4 else 2) * rate)
    fitAllotted (bump (usb4Up h k) (Obj.LINK_UPS k)) (usb4Grate k)
  else h

/-- R199: the lanes leave alternate mode. -/
def altModeExit (h : Hub) (k : Nat) : Hub := if inAltMode h k then usb4Down (linkOff h k) k else h

end Sys2Proof.Machine
end

