-- ==== Sys2Proof/Machine/Pcie.lean ====
section
/-! DEFINITION. The PCIe switch: functions and their resets (R240), F1's rings (R508, R511), the NVMe ports (R241-R244),
credits (R246, R247) and containment (R248). -/

namespace Sys2Proof.Machine

/-! Functions -/

/-- R88: reset values of BAR 2 of F0. -/
def resetMailbox (h : Hub) : Hub := { h with mbx := {} }

/-- R508: reset values of F1's registers. -/
def resetNic (h : Hub) : Hub := { h with nic := {} }

/-- R65: reset values of F0's BAR 0. -/
def resetBar0 (h : Hub) : Hub := { h with bar0 := {} }

/-! F1 (R508, R511) -/

/-- R508: a queue pair's block exists. -/
def qpExists (h : Hub) (q : Nat) : Bool := decide (q < getN h Obj.NIC_QP_COUNT)

/-- R508: a power of two from 64 to 4,096, or 0. -/
def ringSizeOk (n : Nat) : Bool := [0, 64, 128, 256, 512, 1024, 2048, 4096].contains n

/-- R508: a register of a ring, by its offset in units of 4 bytes. -/
def ringReg (r : Ring) : Nat → Nat
  | 0 => r.baseLo
  | 1 => r.baseHi
  | 2 => r.size
  | 3 => r.tail
  | 4 => r.head
  | 5 => r.control
  | _ => 0

/-- R508: a write of a register of a ring, discarded where the rule says so. -/
def ringWrite (r : Ring) (w v : Nat) : Ring :=
  let on := bitOf r.control 0
  match w with
  | 0 => if on then r else { r with baseLo := v % 2 ^ 32 / 4096 * 4096 }
  | 1 => if on then r else { r with baseHi := v % 2 ^ 32 }
  | 2 => if on || !ringSizeOk v then r else { r with size := v }
  | 3 => if v < r.size then { r with tail := v } else r
  | 5 => { r with control := v &&& 0x3F03 }
  | _ => r

/-- R508: the writes to a ring's registers ahead of its TAIL, then TAIL. -/
def writeRing (r : Ring) (s : RingSetup) (tail : Nat) : Ring :=
  let put (r : Ring) (w : Nat) (v : Option Nat) : Ring := match v with
    | some v => ringWrite r w v
    | none => r
  ringWrite (put (put (put (put r 0 s.baseLo) 1 s.baseHi) 2 s.size) 5 s.control) 3 tail

/-- R511: the host address of a descriptor of a ring. -/
def descAddr (r : Ring) (i : Nat) : Nat := r.baseLo + r.baseHi * 2 ^ 32 + 16 * i

/-- Descriptors that the host placed in its memory. (DEDUCED, log 30) -/
def placeDescs (m : SMap NicDesc) (q : Nat) (l : List (Nat × NicDesc)) : SMap NicDesc :=
  l.foldl (fun m x => mset m (q * 4096 + x.1) x.2) m

/-- R511: MSI-X of a ring with CONTROL[1]. -/
def ringMsix (h : Hub) (r : Ring) : Hub := whenH (bitOf r.control 1) h (fun h => raiseMsix h 1 (bitsOf r.control 13 8))

/-- R511, R113: F1 can hand the Grate a frame: GP13 is up, its stager has room and nothing waits there for it. -/
def nicReady (h : Hub) : Bool := portIsUp h 13 && !stagerFull h 13 && (mget h.grate.atPort [] 13).isEmpty

/-- R511: the frame of a transmit descriptor with the FCS that F1 adds. -/
def txFrame (d : NicDesc) : Frame :=
  let f := fromOutside (d.frame.getD { len := 0 })
  { f with len := d.len + 4, steer := none }

/-- R511: F1 takes transmit descriptors in ring order from HEAD to TAIL, while the Grate takes their frames. -/
def txLoop (q : Nat) : Nat → Hub → Hub
  | 0, h => h
  | n + 1, h =>
    let r := mget h.nic.tx {} q
    if r.head == r.tail || r.size == 0 || !bitOf r.control 0 || !busMaster h 1 || !qpExists h q || !nicReady h then h
    else
      let d := mget h.nic.txDesc { addr := 0, len := 0 } (q * 4096 + r.head)
      let bad := decide (d.len < 60) || decide (d.len > 9596)
      let st := if bad then 2 else 1
      let h := later h (.hostRead 1 (descAddr r r.head) 16)
      let h := if bad then h else later h (.hostRead 1 d.addr d.len)
      let h := { h with nic := { h.nic with
        tx := mset h.nic.tx q { r with head := (r.head + 1) % r.size }
        txDesc := mset h.nic.txDesc (q * 4096 + r.head) { d with status := st } } }
      let h := if bad then h else ingress h 13 13 true false (txFrame d)
      let h := send h (.dma 1 "transmit status" [q, r.head, st] [])
      txLoop q n (ringMsix (later h (.hostWrite 1 (descAddr r r.head + 12) 1 [BitVec.ofNat 8 st])) r)

/-- R511: a write of TXQ_TAIL. (DEDUCED, log 30) -/
def txTail (h : Hub) (q : Nat) (s : RingSetup) (v : Nat) : Hub :=
  if !qpExists h q || h.pcie.inReset.contains 1 || !inService h (fnUnit 1) then h
  else
    let h := { h with nic := { h.nic with
      tx := mset h.nic.tx q (writeRing (mget h.nic.tx {} q) s v)
      txDesc := placeDescs h.nic.txDesc q s.descs } }
    txLoop q 4096 h

/-- R511: a write of RXQ_TAIL. (DEDUCED, log 30) -/
def rxTail (h : Hub) (q : Nat) (s : RingSetup) (v : Nat) : Hub :=
  if !qpExists h q || h.pcie.inReset.contains 1 || !inService h (fnUnit 1) then h
  else { h with nic := { h.nic with
    rx := mset h.nic.rx q (writeRing (mget h.nic.rx {} q) s v)
    rxDesc := placeDescs h.nic.rxDesc q s.descs } }

/-- R223, R511: all transmit rings, once F1 may take from them again. -/
def txAll (h : Hub) : Hub := forEach h.nic.tx h (fun h x => txLoop x.1 4096 h)

/-- R113, R511: GP13's stager may have room again: the frames that the switch holds, then those of F1's rings. -/
def roomAt (h : Hub) (p : Nat) : Hub := if p == 13 then txAll (stagerRoom h p) else stagerRoom h p

/-- R223: the queue pair of a subscriber. -/
def queuePair (h : Hub) (u : Nat) : Option Nat :=
  let b := getN h Obj.NIC_QP_BASE
  if b ≤ u && u < b + getN h Obj.NIC_QP_COUNT then some (u - b) else none

/-- R223, R511: F1 writes a delivered frame into its ring; a full ring, or an F1 that may not write (R224), discards it and
counts it in NIC_RX_RING_FULL. (DEDUCED, log 31) -/
def nicRx (h : Hub) (q : Nat) (f : Frame) : Hub :=
  let r := mget h.nic.rx {} q
  if r.head == r.tail || r.size == 0 || !bitOf r.control 0 || !busMaster h 1 then bump h Obj.NIC_RX_RING_FULL
  else
    let d := mget h.nic.rxDesc { addr := 0, len := 0 } (q * 4096 + r.head)
    let n := f.len - 4
    let h := later h (.hostRead 1 (descAddr r r.head) 16)
    if n > d.len then bump h Obj.NIC_RX_TOO_LONG
    else
      let h := { h with nic := { h.nic with
        rx := mset h.nic.rx q { r with head := (r.head + 1) % r.size }
        rxDesc := mset h.nic.rxDesc (q * 4096 + r.head) { d with status := 1, frameLen := n, frame := some f } } }
      let h := send h (.dma 1 "receive" [q, r.head, d.addr, n] f.bytes)
      let h := later (later h (.hostWrite 1 d.addr n f.bytes)) (.hostWrite 1 (descAddr r r.head + 10) 3 (leBytes 2 n ++ [1]))
      ringMsix h r

/-! TLPs -/

/-- The TLP that a frame is, or that a tunnel packet completes: its header and its length. -/
def tlpParts (f : Frame) : Option (Headers × Nat) := if isTlp f.hdr then some (f.hdr, f.len) else f.tlp.map (fun t => (t.hdr, t.len))

/-- PCI Express: the bytes of data in a TLP, when Fmt says it carries data. -/
def tlpData (x : Headers) (len : Nat) : Nat := if bitOf x.fmtType 6 then len - (if bitOf x.fmtType 5 then 16 else 12) else 0

/-- PCI Express: a TLP's header and data credits: data in units of 16 bytes. -/
def tlpCost (x : Headers) (len : Nat) : Nat × Nat := (1, ceilDiv (tlpData x len) 16)

/-- R241: the switch supports a payload of at most 512 bytes. -/
def payloadOk (f : Frame) : Bool :=
  match tlpParts f with
  | some (x, len) => decide (tlpData x len ≤ 512)
  | none => true

/-! Credits (R246, R247) -/

/-- R246: CR_ADVERTISED of a type. -/
def crAdvertised (t : Nat) : Nat := nth [64, 1024, 64, 64, 127, 2047] t 0

/-- The credit of a type that a TLP takes. -/
def tlpOf (f : Frame) (t : Nat) : Nat :=
  match tlpParts f with
  | some (x, len) => if tlpClass x == t / 2 then (if t % 2 == 0 then (tlpCost x len).1 else (tlpCost x len).2) else 0
  | none => 0

/-- R246: CR_HELD: the credits of a type that TLPs from a link port hold: each from its arrival until it leaves the hub or is discarded. -/
def crHeld (h : Hub) (p t : Nat) : Nat := sumOf (fun f => if f.credit == some p then tlpOf f t else 0) (framesIn h)
def crPartner (h : Hub) (p t : Nat) : Nat := mget h.pcie.partner 0 (8 * p + t)

/-- R246: CR_OWED: what partner and held leave of the advertised amount. -/
def crOwed (h : Hub) (p t : Nat) : Nat := crAdvertised t - crPartner h p t - crHeld h p t
def crOutLimit (h : Hub) (p t : Nat) : Nat := mget h.pcie.outLimit 0 (8 * p + t)

/-- R246: a TLP may come at a link port: a partner sends none for which it holds no credit. (DEDUCED, log 31) -/
def creditFits (h : Hub) (p : Nat) (f : Frame) : Bool :=
  !h.pcie.linkUp.contains p || (List.range 6).all (fun t => decide (tlpOf f t ≤ crPartner h p t))

/-- R246: a TLP arrives: the partner has fewer credits, which the TLP holds. -/
def takeCredit (h : Hub) (p : Nat) (f : Frame) : Frame × Hub :=
  if h.pcie.linkUp.contains p then
    ({ f with credit := some p }, forEach (List.range 6) h (fun h t =>
      setPcie h (fun x => { x with partner := mset x.partner (8 * p + t) (crPartner h p t - tlpOf f t) })))
  else (f, h)

/-- R246: the link of a port goes down: no TLP in the hub holds a credit of it any more. -/
def forgetCredits (h : Hub) (p : Nat) : Hub :=
  let h := setPcie h (fun x => { x with linkUp := x.linkUp.filter (· != p) })
  mapFrames (fun f => if f.credit == some p then { f with credit := none } else f) h

/-- R491, R493: NVk is enabled: its Grate port is, it is in service, and its domain is On. (DEDUCED, log 54) -/
def nvEnabled (h : Hub) (k : Nat) : Bool := inService h (nvUnit k) && domOn h 54 && getB h (Obj.PORT_ENABLE (14 + k))

/-- R491: NVREFk runs while NVk is enabled. (DESIGN CHOICE, log 1) -/
def nvRefTick (h : Hub) : Hub :=
  setPcie h (fun p => { p with nvRef := [0, 1].foldl (fun r k =>
    if !nvEnabled h k then merase r k else if (mget? r k).isSome then r else mset r k h.now) p.nvRef })

/-- R491: NVk_PERST_N is driven low, until NVREFk has run for 100 ms. -/
def nvPerstLow (h : Hub) (k : Nat) : Bool :=
  match mget? h.pcie.nvRef k with
  | some t => decide (h.now < t + 100000000)
  | none => true

/-- R246: freed credits are returned in an UpdateFC. (DESIGN CHOICE, log 1) -/
def returnCredits (h : Hub) : Hub :=
  forEach h.pcie.linkUp h (fun h p => forEach (List.range 6) h (fun h t =>
    let n := crOwed h p t
    if n == 0 then h
    else send (setPcie h (fun x => { x with partner := mset x.partner (8 * p + t) (crPartner h p t + n) }))
      (.link (crUnit p) "UpdateFC" [t, n])))

/-- R246: a link port's link comes up: its partner holds the full amount, and has granted nothing yet. -/
def linkPortUp (h : Hub) (p : Nat) : Hub :=
  forEach (List.range 6) (setPcie h (fun x => { x with linkUp := insertNew x.linkUp p })) (fun h t =>
    setPcie h (fun x => { x with
      partner := mset x.partner (8 * p + t) (crAdvertised t)
      outLimit := mset x.outLimit (8 * p + t) 0
      sent := mset x.sent (8 * p + t) 0 }))

/-- R246, R205: a PCIe tunnel is up. -/
def tunnelUp (h : Hub) (p : Nat) : Hub := if h.pcie.linkUp.contains p then h else linkPortUp h p

/-- PCI Express: the width of a credit count: 8 bits for headers, 12 for data. -/
def crModulus (t : Nat) : Nat := if t % 2 == 0 then 256 else 4096

/-- R247: the partner's credits of a port cover a TLP. -/
def covers (h : Hub) (p : Nat) (f : Frame) : Bool :=
  (List.range 6).all (fun t =>
    let m := crModulus t
    let room := (crOutLimit h p t + m - mget h.pcie.sent 0 (8 * p + t) % m) % m
    tlpOf f t == 0 || (decide (tlpOf f t ≤ room) && decide (room ≤ m / 2)))

/-- The PCIe ordering table: a TLP must be able to pass an earlier one: posted and completions pass non-posted. -/
def mustPass (x y : Headers) : Bool := tlpClass x != 1 && tlpClass y == 1

/-! Link egresses (R243, R247)

Link port 0 is the upstream port, 1 and 2 are NV0 and NV1, 3 to 5 DN1 to DN3 (R250). A TLP for the upstream port or a tunnel waits at
the switch and then crosses the Grate to the port's path subscriber; one for an NV port has crossed it when it waits. -/

def isNv (p : Nat) : Bool := p == 1 || p == 2

/-- R185, R198: the adapter of a PCIe tunnel's end at the switch. -/
def portAdapter (p : Nat) : Nat := if p == 0 then 12 else 10 + p

/-- R243, R190: the path on which the switch sends toward the upstream port or a tunnel port. -/
def pathFrom (h : Hub) (a : Nat) : Option Nat := (h.usb4.paths.find? (fun x => x.2.state == 1 && x.2.spec.inAdapter == a)).map (·.2.sub)

/-- R243: toward F0 to F3: the path subscriber of adapter 12 at GP13. -/
def pathToFunctions (h : Hub) : Option Nat := (h.usb4.paths.find? (fun x => x.2.state == 1 && x.2.spec.outAdapter == 12)).map (·.2.sub)

/-- R243: a TLP that the switch sends into the Grate at GP13. -/
def switchInto (h : Hub) (f : Frame) (sub : Option Nat) : Hub :=
  let (f, h) := fromProtocol h 13 { f with steer := sub }
  ingress h 13 13 false false f

/-- A TLP leaves at a link egress. A non-posted request for a drive is noted until its completion comes back (R248). -/
def linkSend (h : Hub) (p : Nat) (f : GFrame) : Hub :=
  let h := forEach (List.range 6) h (fun h t => setPcie h (fun x => { x with
    sent := mset x.sent (8 * p + t) ((mget x.sent 0 (8 * p + t) + tlpOf f.frame t) % crModulus t) }))
  if isNv p then
    let h := if tlpClass f.frame.hdr == 1 then
        setPcie h (fun x => { x with nonPosted := mset x.nonPosted (p - 1) (mget x.nonPosted [] (p - 1) ++ [f.frame.hdr]) })
      else h
    send h (.egress (13 + p) (fromOutside f.frame) none)
  else switchInto h f.frame (pathFrom h (portAdapter p))

/-- The first TLP of a wait list that may leave now, given those ahead of it. -/
def readyTlp (h : Hub) (p : Nat) : List GFrame → List GFrame → Option GFrame
  | _, [] => none
  | ahead, f :: r =>
    if covers h p f.frame && ahead.all (fun a => mustPass f.frame.hdr a.frame.hdr) then some f
    else readyTlp h p (ahead ++ [f]) r

def waitList (h : Hub) (p : Nat) : List GFrame := mget h.pcie.waiting [] p
def backList (h : Hub) (p : Nat) : List GFrame := mget h.pcie.back [] p
def setWaiting (h : Hub) (p : Nat) (w : List GFrame) : Hub := setPcie h (fun x => { x with waiting := mset x.waiting p w })
def setBack (h : Hub) (p : Nat) (w : List GFrame) : Hub := setPcie h (fun x => { x with back := mset x.back p w })

/-- R247: send what the credits now cover. -/
def linkDrain (p : Nat) : Nat → Hub → Hub
  | 0, h => h
  | n + 1, h =>
    match readyTlp h p [] (waitList h p) with
    | none => h
    | some f => linkDrain p n (linkSend (setWaiting h p ((waitList h p).erase f)) p f)

/-- R247: the Grate port whose egress feeds a link egress. -/
def feedPort (p : Nat) : Nat := if isNv p then 13 + p else 13

/-- R247: a TLP joins the wait list of its link egress and leaves as soon as credit lets it. With 256 in the list the port withholds
acceptance from the Grate egress; what that still delivers in the same step stays behind. -/
def linkEgress (h : Hub) (p : Nat) (f : GFrame) : Hub :=
  if (waitList h p).length < 256 && (backList h p).isEmpty then
    let h := linkDrain p 256 (setWaiting h p (waitList h p ++ [f]))
    if (waitList h p).length == 256 then
      let h := setGrate h (fun g => { g with stalled := insertNew g.stalled (feedPort p) })
      if isNv p then bump h (Obj.NV_CREDIT_STALLS (p - 1)) else h
    else h
  else setBack h p (backList h p ++ [f])

/-- R247: no link egress that a Grate port feeds withholds acceptance. -/
def feedOpen (h : Hub) (g : Nat) : Bool :=
  (List.range 6).all (fun p => feedPort p != g || ((waitList h p).length < 256 && (backList h p).isEmpty))

/-- R247: TLPs that stayed behind a full list join it while it has room. -/
def refillBack (p : Nat) : List GFrame → Hub → Hub
  | [], h => h
  | f :: r, h =>
    if (waitList h p).length < 256 then refillBack p r (linkEgress (setBack h p []) p f)
    else setBack h p (f :: r)

/-- R113: the unit at a Grate port accepts frames again, and those that it has kept waiting first. -/
def portAccepts (h : Hub) (p : Nat) : Hub :=
  let h := setGrate h (fun g => { g with stalled := g.stalled.filter (· != p) })
  whenH (h.grate.asleep.any (fun x => x.1 == p)) h (fun h => later h (.accepts p))

/-- R247: an UpdateFC from the partner of a link port. (DEDUCED, log 31) -/
def updateFc (h : Hub) (p t limit : Nat) : Hub :=
  let h := setPcie h (fun x => { x with outLimit := mset x.outLimit (8 * p + t) (limit % crModulus t) })
  if (waitList h p).isEmpty && (backList h p).isEmpty then h
  else
    let h := linkDrain p 256 h
    let h := refillBack p (backList h p) h
    if feedOpen h (feedPort p) then portAccepts h (feedPort p) else h

/-! Routing (R239, R243) -/

/-- Where the switch takes a TLP. -/
inductive Route where
  /-- a link port -/
  | port (p : Nat)
  /-- every downstream port: a broadcast from the host -/
  | ports
  /-- the internal endpoint, F0 to F3 -/
  | endpoint
  /-- configuration space that the switch itself holds -/
  | config (space : Nat)
  /-- the switch ends it -/
  | ended
  /-- nobody claims it -/
  | unclaimed
deriving DecidableEq, Repr, Inhabited

/-- PCI Express: secondary and subordinate bus number of a port. -/
def busRange (h : Hub) (s : Nat) : Nat × Nat := (bitsOf (cfgGet h s 0x18) 15 8, bitsOf (cfgGet h s 0x18) 23 16)

/-- PCI Express: a downstream port forwards an address: memory space enabled, and inside one of its two windows. -/
def portClaims (h : Hub) (p a : Nat) : Bool :=
  let s := 4 + p
  let w (r hi lo : Nat) : Bool :=
    let v := cfgGet h s r
    decide (bitsOf v 15 4 * 2 ^ 20 + lo * 2 ^ 32 ≤ a) && decide (a < (bitsOf v 31 20 + 1) * 2 ^ 20 + hi * 2 ^ 32)
  bitOf (cfgGet h s 4) 1 && (w 0x20 0 0 || w 0x24 (cfgGet h s 0x2C) (cfgGet h s 0x28))

/-- R240, R23: the function, BAR and offset that an address falls into: the function is in service, not in reset, and its memory space
is enabled. -/
def barOf (h : Hub) (a : Nat) : Option (Nat × Nat × Nat) :=
  let inBar (f b : Nat) : Option (Nat × Nat × Nat) :=
    let base := cfgGet h f (0x10 + 4 * b) / 16 * 16 + cfgGet h f (0x14 + 4 * b) * 2 ^ 32
    if base ≤ a && a < base + barSize f b then some (f, b, a - base) else none
  ((List.range 4).filter (fun f => inService h (fnUnit f) && !h.pcie.inReset.contains f && bitOf (cfgGet h f 4) 1)).findSome?
    (fun f => [0, 2, 4].findSome? (inBar f))

/-- R239: routing by ID: the internal bus, then the buses behind each port, then upstream. -/
def routeId (h : Hub) (src id : Nat) : Route :=
  let bus := id / 256
  let sec := (busRange h 4).1
  if sec != 0 && bus == sec then (if id / 8 % 32 == 0 then .endpoint else .ended)
  else match (List.range 6).find? (fun p => p != 0 && (busRange h (4 + p)).1 != 0
      && decide ((busRange h (4 + p)).1 ≤ bus) && decide (bus ≤ (busRange h (4 + p)).2)) with
    | some p => .port p
    | none => if src == 0 then .unclaimed else .port 0

/-- Routing by address: the functions, then the ports' windows, then upstream. -/
def routeAddr (h : Hub) (src a : Nat) : Route :=
  if (barOf h a).isSome then .endpoint
  else match (List.range 6).find? (fun p => p != 0 && portClaims h p a) with
    | some p => if p == src then .unclaimed else .port p
    | none => if src == 0 then .unclaimed else .port 0

/-- A configuration request from the host: type 0 is the upstream port's own, type 1 goes by bus and device number. -/
def routeConfig (h : Hub) (x : Headers) : Route :=
  let sec := (busRange h 4).1
  let dev := x.destId / 8 % 32
  let fn := x.destId % 8
  if x.fmtType % 32 == 4 then .config 4
  else if sec != 0 && x.destId / 256 == sec then
    if dev == 0 && fn < 4 then .config fn
    else if 1 ≤ dev && dev ≤ 5 && fn == 0 then .config (4 + dev)
    else .unclaimed
  else match routeId h 0 x.destId with
    | .port p => .port p
    | _ => .unclaimed

/-- R239: where a TLP that came from link port `src` (6: from F0 to F3) goes. (PRESUMED, log 54) -/
def route (h : Hub) (src : Nat) (x : Headers) : Route :=
  let ty := x.fmtType % 32
  if [0, 1, 12, 13, 14].contains ty then routeAddr h src x.address
  else if ty == 4 || ty == 5 then (if src == 0 then routeConfig h x else .unclaimed)
  else if ty == 10 || ty == 11 then routeId h src x.destId
  else if 16 ≤ ty && ty < 24 then
    match ty % 8 with
    | 0 => if src == 0 then .ended else .port 0
    | 1 => routeAddr h src x.address
    | 2 => routeId h src x.destId
    | 3 => if src == 0 then .ports else .ended
    | 5 => if src == 0 then .ended else .port 0
    | _ => .ended
  else if src == 0 then .unclaimed else .port 0

/-- A TLP as the switch holds it. -/
def asGFrame (f : Frame) : GFrame :=
  { id := 0, frame := f, inPort := 13, firstPort := 13, cells := ceilDiv f.len 256, pool := 0, cls := 7 }

/-- R16: a TLP of some length that the switch discards: the manual names no counter of the switch's own, so it counts with the frames that
the unit of the Grate port could not take, at the port at which it reached the switch. (DESIGN CHOICE, log 54) -/
def switchAsh (h : Hub) (src len : Nat) : Hub := unitAsh h (if isNv src then 13 + src else 13) (ceilDiv len 256)

/-- R243: a TLP goes to a link port: to a drive by NV_DOWN_SUBSCRIBER, else it waits at the link egress; with no tunnel there it is
discarded. -/
def toPort (h : Hub) (p : Nat) (f : Frame) : Hub :=
  if isNv p then switchInto h f (some (getN h (Obj.NV_DOWN_SUBSCRIBER (p - 1))))
  else if (pathFrom h (portAdapter p)).isSome then linkEgress h p (asGFrame f) else switchAsh h 6 f.len

/-- PCI Express: a completion of a request: 0 successful, 1 unsupported request, 4 completer abort; `lo` is the address of its first byte. -/
def completionOf (x : Headers) (status : Nat) (data : List Byte) (lo : Nat) : Frame :=
  let n := (lo % 4 + data.length + 3) / 4
  { len := 12 + 4 * n, bytes := List.replicate (lo % 4) 0 ++ data
    hdr := { kind := .pcieId, fmtType := if data.isEmpty then 0x0A else 0x4A, tc := x.tc, destId := x.requester, tag := x.tag
             lenDw := n, status := status, byteCount := if data.isEmpty then 4 else data.length, requester := x.destId
             address := lo % 128 } }

/-- The completion of a request that came from a link port goes back there. -/
def complete (h : Hub) (src : Nat) (x : Headers) (status : Nat) (data : List Byte) : Hub :=
  if src == 6 || tlpClass x != 1 then h else toPort h src (completionOf x status data 0)

/-- A request that nobody serves: the space `s` logs it, a non-posted one is answered, any other TLP is discarded. -/
def unsupportedAt (h : Hub) (s src : Nat) (f : Frame) : Hub :=
  if tlpClass f.hdr == 1 then complete (aerAdvisory h s 20 (some f.hdr)) src f.hdr 1 []
  else switchAsh (aerNote h s 20 (some f.hdr)) src f.len

/-- A request that nobody claims: the port at which it came logs it, of one of F0 to F3 nobody. -/
def unsupported (h : Hub) (src : Nat) (f : Frame) : Hub :=
  if src == 6 then (if tlpClass f.hdr == 1 then complete h src f.hdr 1 [] else switchAsh h src f.len) else unsupportedAt h (4 + src) src f

/-- R14, R239, R243: the switch sends a TLP on. Of a broadcast the copies hold the credit that it took once: the first one does. (DEDUCED, log 31) -/
def switchForward (h : Hub) (src : Nat) (f : Frame) : Hub :=
  match route h src f.hdr with
  | .port p => if isNv p || (pathFrom h (portAdapter p)).isSome then toPort h p f else unsupported h src f
  | .ports => forEach [2, 3, 4, 5] (toPort h 1 f) (fun h p => toPort h p { f with credit := none })
  | .endpoint =>
    match pathToFunctions h with
    | some u => switchInto h f (some u)
    | none => unsupported h src f
  | .ended => h
  | _ => unsupported h src f

/-- PCI Express: the byte enables of `n` bytes from an address. -/
def byteEnables (a n : Nat) : Nat :=
  let lo := a % 4
  if lo + n ≤ 4 then 2 ^ lo * (2 ^ n - 1) else 2 ^ lo * (2 ^ (4 - lo) - 1) + 16 * (2 ^ ((lo + n - 1) % 4 + 1) - 1)

/-- R14, R240, R511: a function writes host memory: TLPs of at most the payload that its device control allows, none across a 4 KiB
boundary. (PRESUMED, log 54) -/
def hostWrite (fn : Nat) : Nat → Hub → Nat → Nat → List Byte → Hub
  | 0, h, _, _, _ => h
  | k + 1, h, a, n, bs =>
    if n == 0 || !busMaster h fn then h
    else
      let c := min n (min (min 512 (128 * 2 ^ bitsOf (cfgGet h fn 0x48) 7 5)) (4096 - a % 4096))
      let dw := (a % 4 + c + 3) / 4
      let wide := decide (2 ^ 32 ≤ a)
      let f : Frame := { len := (if wide then 16 else 12) + 4 * dw, bytes := List.replicate (a % 4) 0 ++ bs.take c
                         hdr := { kind := .pcieAddr, fmtType := if wide then 0x60 else 0x40, requester := (busRange h 4).1 * 256 + fn
                                  address := a, lenDw := dw, byteEn := byteEnables a c } }
      hostWrite fn k (switchForward h 6 f) (a + c) (n - c) (bs.drop c)

/-- R14, R240, R511: a function reads host memory, in requests of at most 512 bytes, none across a 4 KiB boundary; their completions come as
TLPs at F0 to F3. (PRESUMED, log 54) -/
def hostRead (fn : Nat) : Nat → Hub → Nat → Nat → Hub
  | 0, h, _, _ => h
  | k + 1, h, a, n =>
    if n == 0 || !busMaster h fn then h
    else
      let c := min n (min (min 512 (128 * 2 ^ bitsOf (cfgGet h fn 0x48) 14 12)) (4096 - a % 4096))
      let wide := decide (2 ^ 32 ≤ a)
      let f : Frame := { len := if wide then 16 else 12
                         hdr := { kind := .pcieAddr, fmtType := if wide then 0x20 else 0, requester := (busRange h 4).1 * 256 + fn
                                  tag := h.fresh % 256, address := a, lenDw := (a % 4 + c + 3) / 4, byteEn := byteEnables a c } }
      hostRead fn k (switchForward (tick h) 6 f) (a + c) (n - c)

/-! Slots of the downstream ports (R241, R424) -/

/-- PCI Express: a slot's interrupt: enabled in Slot Control, with a changed presence or data link state that is enabled there, and not
disabled in the command register. -/
def slotPending (h : Hub) (s : Nat) : Bool :=
  let v := cfgGet h s 0x58
  bitOf v 5 && ((bitOf v 3 && bitOf v 19) || (bitOf v 12 && bitOf v 24)) && !bitOf (cfgGet h s 4) 10

/-- PCI Express: a slot's interrupt goes to the host as it comes and goes: a message of the port, INTA. (PRESUMED, log 54) -/
def followSlot (was h : Hub) (s : Nat) : Hub :=
  let code : Nat := if slotPending h s then 0x20 else 0x24
  if slotPending h s == slotPending was s then h
  else toPort h 0 { len := 16, hdr := { kind := .pcieMsg, fmtType := 0x34, byteEn := code, requester := (busRange h 4).1 * 256 + 8 * (s - 4) } }

/-- R241, R248, R424: a slot's presence or data link state changes (bits 3 and 8 of Slot Status). (PRESUMED, log 54) -/
def slotEvent (h : Hub) (s : Nat) (presence link : Bool) : Hub :=
  followSlot h (cfgPut h s 0x58 (cfgGet h s 0x58 ||| (if presence then 2 ^ 19 else 0) ||| (if link then 2 ^ 24 else 0))) s

/-! NVMe ports -/

/-- R241: kbit/s per lane of a speed. -/
def nvLaneRate (s : Nat) : Nat := nth [0, 2500000, 5000000, 8000000, 16000000, 32000000] s 0

/-- R244: commit one of the port's subscribers. R142, R168: a COMMIT that is refused, since the subscriber holds frames or since another
member of its multicast group sits at the port, leaves it as it is. (DEDUCED, log 29) -/
def commitNvSub (h : Hub) (u svc pool : Nat) : Hub :=
  let x := setN (setN (setN h (at_ u Obj.SB_ENABLE) 1) (at_ u Obj.SB_SERVICE) svc) (at_ u Obj.SB_POOL) pool
  if (subCheck h x u).isSome then h else subApply h x u

/-- R241: what an NV link can run at. -/
def nvModeOk (h : Hub) (k speed width : Nat) : Bool :=
  [1, 2, 4].contains width && decide (1 ≤ speed) && decide (speed ≤ getN h (Obj.NV_MAX_SPEED k)) && decide (width ≤ getN h (Obj.NV_MAX_WIDTH k))

/-- R242, R370: the lanes over which NVk runs at a width: its first ones, or its last where one of those is not usable; none where
neither will do. (DEDUCED, log 47) -/
def nvLanes (h : Hub) (k width : Nat) : Option (List Nat) :=
  let first := (List.range width).map (30 + 4 * k + ·)
  let last := (List.range width).map (fun i => 30 + 4 * k + 3 - i)
  if first.all (laneTrainable h) then some first else if last.all (laneTrainable h) then some last else none

/-- The lanes of NVk run at a rate, those outside the width not at all. -/
def nvRunLanes (h : Hub) (k rate : Nat) (ls : List Nat) : Hub :=
  forEach ((List.range 4).map (30 + 4 * k + ·)) h (fun h l => if ls.contains l then laneRun h l rate else laneLeft h l)

/-- R244, R246: NVk's link comes up at a speed and a width within its maxima; its port has left containment. (DEDUCED, log 47) R388: a drive
that is plugged in is a pin event of PW54. R424: a standby trains no link on a twin-switched port, and the host sees a link that comes up by its
slot. -/
def nvLinkUp (h : Hub) (k speed width : Nat) : Hub :=
  let h := later h (.pinWake 54)
  if !inService h (nvUnit k) || !domOn h 54 || muxedAway h (7 + k) || !nvModeOk h k speed width || !(nvLanes h k width).isSome then h
  else
    let was := h
    let h := setN (setN h (Obj.NV_LINK_SPEED k) speed) (Obj.NV_LINK_WIDTH k) width
    let pool := getN h (Obj.NV_POOL k)
    let h := commitNvSub h (getN h (Obj.NV_DOWN_SUBSCRIBER k)) (8 * (14 + k) + 7) pool
    let h := commitNvSub h (getN h (Obj.NV_UP_SUBSCRIBER k)) 110 pool
    let h := linkPortUp (forgetCredits (cfgPut h (5 + k) 0x158 0) (k + 1)) (k + 1)
    let h := slotEvent h (5 + k) (getN was (Obj.NV_LINK_SPEED k) == 0) (getN was (Obj.NV_LINK_SPEED k) == 0)
    let h := nvRunLanes h k (nvLaneRate speed) ((nvLanes h k width).getD [])
    fitAllotted (linkUp (setLineRate h (14 + k) (nvLaneRate speed * width)) (14 + k)) (14 + k)

/-- R248: the status that DPC Completion Control selects: completer abort, or unsupported request. -/
def dpcStatus (h : Hub) (k : Nat) : Nat := if bitOf (cfgGet h (5 + k) 0x154) 18 then 1 else 4

/-- R248: the switch returns one completion for each of the non-posted requests of a drive. -/
def synthCompletions (h : Hub) (k : Nat) (l : List Headers) : Hub :=
  if l.isEmpty then h
  else
    let h := send (addN h (Obj.NV_COMPLETIONS_SYNTH k) l.length) (.link (nvUnit k) "completions" [l.length, dpcStatus h k])
    forEach l h (fun h x => switchForward h (k + 1) (completionOf x (dpcStatus h k) [] 0))

/-- R248: a non-posted request that is discarded at admission because NVk is down. -/
def npDropped (h : Hub) (port : Nat) (x : Headers) : Hub := synthCompletions h (port - 14) [x]

/-- R248: the non-posted requests that wait at NVk's link egress; those in the Grate are answered as the port flushes them. -/
def nvWaitingNp (h : Hub) (k : Nat) : List Headers :=
  ((waitList h (k + 1) ++ backList h (k + 1)).filter (fun f => isTlp f.frame.hdr && tlpClass f.frame.hdr == 1)).map (·.frame.hdr)

/-- R248: NVk's port triggers DPC. -/
def nvContain (h : Hub) (k : Nat) : Hub := setFlag (cfgPut h (5 + k) 0x158 1) (Obj.NV_REMOVED k)

/-- R131, R248: NVk's link is down: the port flushes, and what waited there is discarded and counted. -/
def nvDown (h : Hub) (k : Nat) : Hub :=
  let lost := (waitList h (k + 1) ++ backList h (k + 1)).length
  let h := setN (setN h (Obj.NV_LINK_SPEED k) 0) (Obj.NV_LINK_WIDTH k) 0
  let h := setPcie h (fun x => { x with
    waiting := merase x.waiting (k + 1)
    back := merase x.back (k + 1)
    nonPosted := merase x.nonPosted k })
  let h := forgetCredits h (k + 1)
  let h := if lost == 0 then h else addN h (Obj.ASH_PORT_DOWN (14 + k)) lost
  let h := setGrate h (fun g => { g with stalled := g.stalled.filter (· != 14 + k) })
  let h := forEach (List.range 4) h (fun h i => laneDown h (30 + 4 * k + i))
  linkDown (setLineRate h (14 + k) 0) (14 + k)

/-- R248: NVk's link goes down: DPC, and one completion for each of its open requests. -/
def nvLost (h : Hub) (k : Nat) : Hub :=
  if getN h (Obj.NV_LINK_SPEED k) == 0 then h
  else
    let open_ := mget h.pcie.nonPosted [] k ++ nvWaitingNp h k
    synthCompletions (slotEvent (nvContain (nvDown h k) k) (5 + k) false true) k open_

/-- R248: NVk's port triggers DPC, with the link that it takes down if there is one. -/
def nvTrigger (h : Hub) (k : Nat) : Hub := if getN h (Obj.NV_LINK_SPEED k) == 0 then nvContain h k else nvLost h k

/-- R248, R388: NVk's drive is pulled, or its link goes down, a pin event of PW54; while the link is down the presence input alone is
left to rise, which triggers DPC too. AER logs it as surprise down (bit 5). -/
def nvRemoval (h : Hub) (k : Nat) : Hub :=
  let h := aerStatus (later h (.pinWake 54)) (5 + k) 5 none
  slotEvent (nvTrigger h k) (5 + k) true false

/-- PCI Express: whether DPC Control has an error trigger containment. -/
def dpcArmed (h : Hub) (k : Nat) (fatal : Bool) : Bool :=
  let t := bitsOf (cfgGet h (5 + k) 0x154) 17 16
  t == 2 || (t == 1 && fatal)

/-- R241: a drive reports an error in a message: at a port whose DPC trigger is enabled for it, DPC, whose status names the message and its
sender. (PRESUMED, log 54) -/
def dpcByMessage (h : Hub) (k : Nat) (x : Headers) : Hub :=
  cfgPut (nvTrigger h k) (5 + k) 0x158 (1 + 2 * (if x.byteEn == 0x33 then 2 else 1) + x.requester % 2 ^ 16 * 2 ^ 16)

/-- R242, R370: the port retrains: at the next lower width that works when a lane is lost, and with a lane that has lock again at a width
that takes it back; with no width left, the link goes down. The errors of the lost lane are a receiver error of the port (AER, bit 0;
PRESUMED, log 54). -/
def nvRetrain (h : Hub) (k width : Nat) : Hub :=
  let was := getN h (Obj.NV_LINK_WIDTH k)
  if was == 0 then h
  else if width == 0 then nvLost (aerStatus h (5 + k) 5 none) k
  else match (if nvModeOk h k (getN h (Obj.NV_LINK_SPEED k)) width then nvLanes h k width else none) with
    | none => h
    | some ls =>
      let h := nvRunLanes (setN h (Obj.NV_LINK_WIDTH k) width) k (nvLaneRate (getN h (Obj.NV_LINK_SPEED k))) ls
      let h := whenH (decide (width < was)) h (fun h => setFlag (aerCorrectable h (5 + k) 0) (Obj.NV_NARROWED k))
      underAllotment h (14 + k) (fun h => setLineRate h (14 + k) (nvLaneRate (getN h (Obj.NV_LINK_SPEED k)) * width))

/-- R241: an unmasked error of a space is signalled: an uncorrectable one at an NV port whose DPC trigger is enabled for it by DPC; any other
by a message to the host, where the space may send one. `severity`: 0 correctable, 1 not fatal, 2 fatal. (PRESUMED, log 54) -/
def errorSignal (h : Hub) (s severity : Nat) : Hub :=
  let bus := (busRange h 4).1
  if (s == 5 || s == 6) && severity != 0 && dpcArmed h (s - 5) (severity == 2) then nvTrigger h (s - 5)
  else if bitOf (cfgGet h s 0x48) severity || (severity != 0 && bitOf (cfgGet h s 4) 8) then
    switchForward h 6 { len := 16, hdr := { kind := .pcieMsg, fmtType := 0x30, byteEn := nth [0x30, 0x31, 0x33] severity 0x33
                                            requester := if s < 4 then bus * 256 + s else if s == 4 then bitsOf (cfgGet h 4 0x18) 7 0 * 256
                                              else bus * 256 + 8 * (s - 4) } }
  else h

/-! TLPs at the Grate ports of the switch (R243, R246, R248) -/

/-- R248: a completion from a drive answers a forwarded request: the last one, or one that is not successful. -/
def noteCompletion (h : Hub) (k : Nat) (x : Headers) : Hub :=
  if tlpClass x == 2 && (x.status != 0 || decide (x.byteCount + x.address % 4 ≤ 4 * x.lenDw) || !bitOf x.fmtType 6) then
    let left := (mget h.pcie.nonPosted [] k).eraseP (fun r => r.requester == x.destId && r.tag == x.tag)
    setPcie h (fun p => { p with nonPosted := mset p.nonPosted k left })
  else h

/-- R243: the subscriber of a TLP that the switch sends, by the port to which it routes the TLP. -/
def steerTlp (h : Hub) (x : Headers) : Option Nat :=
  match route h 6 x with
  | .port p => if isNv p then some (getN h (Obj.NV_DOWN_SUBSCRIBER (p - 1))) else pathFrom h (portAdapter p)
  | .endpoint => pathToFunctions h
  | _ => none

/-- R243, R246: a TLP enters the Grate at a port of the switch. R247: one that the switch sends toward the upstream port or a tunnel port goes
by that port's link egress. At GP14 and GP15 it takes the partner's credits, and one whose payload
is too long is malformed: its port logs it and passes nothing on. An error message that triggers DPC goes no further. -/
def tlpIngress (h : Hub) (port : Nat) (f : Frame) : Hub :=
  if port == 13 then
    let f := if f.steer.isNone && isTlp f.hdr then { f with steer := steerTlp h f.hdr } else f
    match (if isTlp f.hdr then [0, 3, 4, 5].find? (fun p => f.steer.isSome && pathFrom h (portAdapter p) == f.steer) else none) with
    | some p => linkEgress h p (asGFrame f)
    | none =>
      let (f, h) := fromProtocol h 13 f
      ingress h 13 13 false false f
  else
    let k := port - 14
    if !payloadOk f then switchAsh (aerNote h (5 + k) 18 (some f.hdr)) (k + 1) f.len
    else if !creditFits h (k + 1) f then h
    else if f.hdr.kind == .pcieMsg && (f.hdr.byteEn == 0x31 || f.hdr.byteEn == 0x33) && dpcArmed h k (f.hdr.byteEn == 0x33) then dpcByMessage h k f.hdr
    else
      let (f, h) := takeCredit h (k + 1) { f with steer := some (getN h (Obj.NV_UP_SUBSCRIBER k)) }
      ingress (noteCompletion h k f.hdr) port port false false f

/-- R195, R202, R246: a tunnel packet comes at a USB4 port. One whose header does not check is discarded and counted. A TLP that it
completes takes the credits of its tunnel's link port. -/
def packetIngress (h : Hub) (port : Nat) (f : Frame) : Hub :=
  let k := usb4OfPort port
  let p : Option Nat := (pathOfHop h f.hdr.adapter f.hdr.hopId).bind (fun x =>
    let a := x.2.spec.outAdapter
    if f.tlp.isSome && 12 ≤ a && a ≤ 15 then some (if a == 12 then 0 else a - 10) else none)
  if f.badHeader then bump (bump h (Obj.RX_PACKETS k)) (Obj.ASH_HEADER k)
  else if !mayArrive h f || !(p.all (fun p => creditFits h p f)) then h
  else
    let (f, h) := match p with
      | some p => takeCredit h p f
      | none => (f, h)
    let (f, h) := noteArrival h k f
    ingress h port port false false f

end Sys2Proof.Machine
end

