-- ==== Sys2Proof/Machine/PortB.lean ====
section
/-! DEFINITION. Hearth port B (R94-R97) as its masters use it: where it finds a byte (R107), the Guard that judges each request
(R443-R447, R24), and the reads and writes of the heads and the tile lanes. -/

namespace Sys2Proof.Machine

/-! Where port B finds a byte (R107) -/

/-- R107: where port B finds a byte: at its own address, or in the relief row of the partner group. None while a cell still holds
that row, and none with a partner that is out of service too. -/
def physAddr (h : Hub) (a : Nat) : Option Nat :=
  let g := a / 256 % 32
  if groupState h g == 0 then some a
  else
    let p := Nat.xor g 16
    let rr := h.part.rows - 1 - a / 8192
    if groupState h p != 0 || h.hearth.reliefWait.contains (p, rr) || cellAt h p rr then none
    else some (rr * 8192 + p * 256 + a % 256)

/-- A byte that port B reads; one whose group has no relief row for it holds nothing that the manual states: a free value. (DESIGN CHOICE, log 8) -/
def surfaceByte (m : List Host.Cell) (h : Hub) (a : Nat) : Byte :=
  match physAddr h a with
  | some b => liveByte m h b
  | none => Config.freeByte (h.fresh + a)

/-- R97: a write to words drops their write-backs. -/
def dropWritten (h : Hub) (as : List Nat) : Hub :=
  let hit (w : WriteBack) : Bool := as.any (fun a => a / 32 == wordAddr w.group w.bank w.row / 32)
  { h with hearth := { h.hearth with writeBacks := h.hearth.writeBacks.filter (fun w => !hit w) } }

/-- Order a write of bytes, each where port B finds it. -/
def storeSurface (h : Hub) (l : List (Nat × Byte)) : Hub :=
  let w := l.filterMap (fun x => (physAddr h x.1).map (fun a => (a, x.2)))
  { dropWritten h (w.map (·.1)) with stores := h.stores ++ w }

/-- R97: the ECC errors of reads that no command brings errors for: a free value. (DESIGN CHOICE, log 8) -/
def metErrors (h : Hub) : List EccError × Hub :=
  ((Config.eccMet h.fresh).map (fun e => { group := e.1, bank := e.2.1, row := e.2.2.1, bits := e.2.2.2 % 3 + 1 }), tick h)

/-! Guards (R443-R447) -/

/-- Table 24.1: the cluster of a Guard's masters, as a unit number with UNIT 0. -/
def guardCluster (g : Nat) : Option Nat :=
  match g with
  | 0 => some (unitNo 0 0 5 0) | 2 => some (unitNo 0 1 5 0) | 4 => some (unitNo 0 2 5 0) | 6 => some (unitNo 0 3 5 0)
  | 1 => some (unitNo 0 0 6 0) | 3 => some (unitNo 1 3 0 0) | 5 => some (unitNo 1 5 0 0) | 7 => some (unitNo 1 5 1 0)
  | 8 => some (unitNo 0 4 5 0) | 10 => some (unitNo 0 5 5 0) | 12 => some (unitNo 0 6 5 0) | 14 => some (unitNo 0 7 5 0)
  | 9 => some (unitNo 1 4 1 0) | 11 => some (unitNo 1 4 0 0) | _ => none

/-- R444: the masters of a cluster by local number: four engines, eight tile lanes, four functions, or one. -/
def guardMasters (g : Nat) : Nat := match g with
  | 0 | 2 | 4 | 6 | 3 => 4 | 1 => 8 | 13 | 15 => 0 | _ => 1

/-- R28, R24: the Guard that a unit's cluster names; 0xFF none. -/
def guardOf (u : Nat) : Nat := ((List.range 16).find? (fun g => guardCluster g == some (u - uUnit u))).getD 0xFF

/-- A unit that is a port B master. -/
def isMaster (u : Nat) : Bool := match (List.range 16).find? (fun g => guardCluster g == some (u - uUnit u)) with
  | some g => decide (uUnit u < guardMasters g)
  | none => false

/-- R445: the valid operational region that holds a granule. -/
def regionAt (h : Hub) (g n : Nat) : Option Nat :=
  (List.range 32).find? (fun i => getB h (at_ i (Obj.RG_OPER_VALID g)) && decide (getN h (at_ i (Obj.RG_OPER_BASE g)) ≤ n)
    && decide (n ≤ getN h (at_ i (Obj.RG_OPER_LIMIT g))))

/-- R445: a region allows a master. -/
def regionAllows (h : Hub) (g i local_ : Nat) (write : Bool) : Bool :=
  bitOf (getN h (at_ i (if write then Obj.RG_OPER_WRITE g else Obj.RG_OPER_READ g))) local_

/-- R445: the granules of a request. -/
def granules (r : PortBRequest) : List Nat :=
  let a := r.addr / 64
  (List.range ((r.addr + 32 * r.words - 1) / 64 - a + 1)).map (a + ·)

/-- R447: why a request is a violation: 0 allowed, 1 no region, 2 permission, 3 straddle, 4 above the Hearth. (DEDUCED, log 44) -/
def judge (h : Hub) (g : Nat) (r : PortBRequest) : Nat :=
  let l := uUnit r.master
  let ok (n : Nat) : Bool := match regionAt h g n with
    | some i => regionAllows h g i l r.write
    | none => false
  if h.part.hearthBytes < r.addr + 32 * r.words then 4
  else if (granules r).all ok then 0
  else match regionAt h g (r.addr / 64) with
    | none => 1
    | some _ => if ok (r.addr / 64) then 3 else 2

/-- R446, R447: a violation: counted, flagged and recorded. (DEDUCED, log 44) -/
def recordViolation (h : Hub) (g reason : Nat) (r : PortBRequest) : Hub :=
  let h := setFlag (bump h (Obj.G_VIOLATIONS g)) (Obj.G_VIOLATION g)
  let v : Violation := {
    guard := g, master := r.master, write := r.write, addr := r.addr, length := 32 * r.words
    region := (regionAt h g (r.addr / 64)).getD 0xFF, reason := reason, epoch := getN h (Obj.G_EPOCH g), time := h.net }
  if h.guards.records.length < 16 then { h with guards := { h.guards with records := h.guards.records ++ [v] } }
  else bump h (Obj.VL_DROPPED 0)

/-- R443, R446, R451, R23: the check of one request: a master or a Guard out of service gets the error completion of its isolation
stage, a violation is suppressed and recorded, any other request is let through. -/
def guardCheck (h : Hub) (r : PortBRequest) : Passage × Hub :=
  let g := guardOf r.master
  if outOfService h r.master || outOfService h (guardUnit g) then (.error, h)
  else
    let h := bump h (Obj.G_CHECKS g)
    let why := judge h g r
    if why != 0 then (.suppressed, recordViolation h g why r)
    else match regionAt h g (r.addr / 64) with
      | some i => (.allowed, bump h (at_ i (Obj.RG_HITS g)))
      | none => (.allowed, h)

/-! Reads and writes of the hub's own masters (R24, R94) -/

/-- Byte addresses as runs of consecutive bytes: the first address and the length of each. -/
def runsOf : List Nat → List (Nat × Nat)
  | [] => []
  | a :: r => match runsOf r with
    | (b, n) :: rest => if a + 1 == b then (a, n + 1) :: rest else (a, 1) :: (b, n) :: rest
    | [] => [(a, 1)]

/-- R443: the request for a run of bytes: the words that hold it. -/
def requestOf (master : Nat) (write : Bool) (run : Nat × Nat) : PortBRequest where
  master := master
  write := write
  addr := run.1 / 32 * 32
  words := (run.1 + run.2 - 1) / 32 - run.1 / 32 + 1

/-- The groups whose banks a request touches, each where port B finds it. -/
def requestGroups (h : Hub) (r : PortBRequest) : List Nat :=
  ((List.range r.words).filterMap (fun i => (physAddr h (r.addr + 32 * i)).map (fun a => a / 256 % 32))).eraseDups

/-! Works of the hub's masters (R42, R446, R449) -/

/-- The verdict on a request of a work: the one that it has, or the check. While the work is only gone through, the request is noted. -/
def passOf (h : Hub) (r : PortBRequest) : Passage × Hub :=
  if h.guards.dry then (.allowed, { h with guards := { h.guards with asked := h.guards.asked ++ [r] } })
  else match h.guards.judged.find? (fun x => x.req == r) with
    | some x => (x.pass, { h with guards := { h.guards with judged := h.guards.judged.erase x } })
    | none => guardCheck h r

/-- The requests that a work makes in the present state. -/
def asksOf (h : Hub) (work : Hub → Hub) : List PortBRequest :=
  (work { h with guards := { h.guards with dry := true, asked := [], judged := [] } }).guards.asked

/-- R443, R449: before a work is done, each of its requests that has no verdict yet is judged; with every bank group On a work waits for
none, and its requests are judged as it makes them. (DEDUCED, log 44) -/
def judgeWork (h : Hub) (ps : List Judged) (work : Hub → Hub) : List Judged × Hub :=
  if ps.isEmpty && (List.range 32).all (domOn h) then ([], h)
  else ((ps.map (·.req)).foldl List.erase (asksOf h work)).foldl (fun (x : List Judged × Hub) r =>
    let g := guardOf r.master
    let epoch := getN x.2 (Obj.G_EPOCH g)
    let (p, h) := guardCheck x.2 r
    (x.1 ++ [⟨g, epoch, r, p⟩], h)) (ps, h)

/-- A work is done under the verdicts on its requests. -/
def runJudged (h : Hub) (ps : List Judged) (work : Hub → Hub) : Hub :=
  let h := work { h with guards := { h.guards with judged := ps } }
  { h with guards := { h.guards with judged := [] } }

/-- The bank groups that allowed requests touch. -/
def passGroups (h : Hub) (ps : List Judged) : List Nat :=
  ((ps.filter (fun x => x.pass == .allowed)).flatMap (fun x => requestGroups h x.req)).eraseDups

/-- R42, R446, R451: those of them that are not On. A violation or an error completion is no wake trigger. -/
def sleepingFor (h : Hub) (ps : List Judged) : List Nat := (passGroups h ps).filter (fun d => !domOn h d)

/-- R42, R388: an access to a sleeping group wakes it. -/
def wakeGroups (h : Hub) (ds : List Nat) : Hub := forEach ds h (fun h d => wakeDomain h d .grate)

/-- R24, R94, R97: a read of a head or a tile lane: the bytes, or none on an error completion or a poisoned one. -/
def masterRead (m : List Host.Cell) (h : Hub) (master : Nat) (as : List Nat) (ecc : List EccError) : Option (List Byte) × Hub :=
  (runsOf as).foldl (fun (x : Option (List Byte) × Hub) run =>
    let (pass, h) := passOf x.2 (requestOf master false run)
    match pass with
    | .error => (none, h)
    | .suppressed => (x.1.map (· ++ List.replicate run.2 0), h)
    | .allowed =>
      let bytes := (List.range run.2).map (run.1 + ·)
      let words := ((bytes.filterMap (physAddr h)).map (· / 32)).eraseDups
      let (e, h) := eccErrors h (ecc.filter (fun e => words.contains (wordAddr e.group e.bank e.row / 32))) true (liveWord m h)
      let got := bytes.map (fun a => e.byte ((physAddr h a).getD a) (surfaceByte m h a))
      (if e.bad then none else x.1.map (· ++ got), h)) (some [], h)

/-- R24, R94: a write of a tile lane; one that is suppressed or completes with an error writes nothing. -/
def masterWrite (h : Hub) (master : Nat) (l : List (Nat × Byte)) : Hub :=
  forEach (runsOf (l.map (·.1))) h (fun h run =>
    match passOf h (requestOf master true run) with
    | (.allowed, h) => storeSurface h (l.filter (fun x => decide (run.1 ≤ x.1) && decide (x.1 < run.1 + run.2)))
    | (_, h) => h)

end Sys2Proof.Machine
end

