-- ==== Sys2Proof/Machine/Tile.lean ====
section
/-! DEFINITION. The tile codec (R251-R258, R265): records as bits, the fixed-length and the adaptive payload, the coder's
choice, the decoder and its checks, and the shape of a surface (R260, R277). Pure functions of samples. -/

namespace Sys2Proof.Machine

/-! Bounds and sizes (R252, R253) -/

/-- R252: the bound of an E_CODE. -/
def boundOf (ec : Nat) : Nat := nth [0, 1, 2, 4, 8, 16] ec 0

/-- The least b with 2^b at least n. -/
def clog2From (n : Nat) : Nat → Nat → Nat
  | 0, b => b
  | fuel + 1, b => if n ≤ 2 ^ b then b else clog2From n fuel (b + 1)

/-- R253: bits of one fixed-length code. -/
def codeBits (d e : Nat) : Nat := clog2From (ceilDiv (2 ^ d + 2 * e) (2 * e + 1)) 16 0

/-- R253: G(d, e). -/
def guaranteed (d e : Nat) : Nat := 8 + 32 * codeBits d e

/-! Bits (R255) -/

/-- A field of n bits, most significant first. -/
def bitsMsb (n v : Nat) : List Bool := (List.range n).reverse.map (bitOf v)

/-- The value of a bit list, most significant first. -/
def bitsVal (bs : List Bool) : Nat := bs.foldl (fun a b => 2 * a + b.toNat) 0

/-- Bits to bytes, the last byte filled with zero bits. -/
def packBits : Nat → List Bool → List Byte
  | 0, _ => []
  | n + 1, bs =>
    if bs.isEmpty then []
    else
      let a := bs.take 8
      BitVec.ofNat 8 (bitsVal (a ++ List.replicate (8 - a.length) false)) :: packBits n (bs.drop 8)

def toBytes (bs : List Bool) : List Byte := packBits (bs.length + 1) bs

/-- Bytes to bits. -/
def unpackBits (l : List Byte) : List Bool := l.flatMap (fun b => bitsMsb 8 b.toNat)

/-! Fixed-length payload (R256) -/

def fixedBits (d e : Nat) (xs : List Nat) : List Bool :=
  xs.flatMap (fun x => bitsMsb (codeBits d e) ((x + e) / (2 * e + 1)))

/-- R256: the sample of a code, none for an invalid one. -/
def fixedSample (d e q : Nat) : Option Nat :=
  if q ≤ (2 ^ d - 1 + e) / (2 * e + 1) then some (min (q * (2 * e + 1)) (2 ^ d - 1)) else none

/-! Adaptive payload (R257) -/

/-- R257: the prediction of sample (i, j) from the row above (none for row 0) and this row's samples so far, newest first. -/
def predict (d : Nat) (above : Option (List Nat)) (left : List Nat) : Int :=
  let j := left.length
  match above, left with
  | none, [] => ((2 ^ (d - 1) : Nat) : Int)
  | none, a :: _ => (a : Int)
  | some r, [] => ((nth r 0 0 : Nat) : Int)
  | some r, a :: _ =>
    let b : Nat := nth r j 0
    let c : Nat := nth r (j - 1) 0
    if c ≥ max a b then ((min a b : Nat) : Int) else if c ≤ min a b then ((max a b : Nat) : Int) else (a : Int) + b - c

/-- R257: the quantised residual. -/
def quantise (e : Nat) (r : Int) : Int := r.sign * (((r.natAbs + e) / (2 * e + 1) : Nat) : Int)

/-- R257: the decoded sample of a quantised residual. -/
def rebuild (d e : Nat) (p q : Int) : Nat := (min (max (p + q * ((2 * e + 1 : Nat) : Int)) 0) ((2 ^ d - 1 : Nat) : Int)).toNat

/-- R257: the mapping of residuals to naturals and back. -/
def mapRes (q : Int) : Nat := if q ≥ 0 then (2 * q).toNat else (-2 * q - 1).toNat
def unmapRes (u : Nat) : Int := if u % 2 == 0 then ((u / 2 : Nat) : Int) else -(((u + 1) / 2 : Nat) : Int)

/-- R257: one row: decoded samples (newest first) and residual codes (newest first). -/
def codeRow (d e : Nat) (above : Option (List Nat)) : List Nat → List Nat × List Nat → List Nat × List Nat
  | [], acc => acc
  | x :: r, (dec, us) =>
    let p := predict d above dec
    let q := quantise e ((x : Int) - p)
    codeRow d e above r (rebuild d e p q :: dec, mapRes q :: us)

/-- R257: a Rice code of u with parameter k. -/
def rice (d k u : Nat) : List Bool :=
  let m := u / 2 ^ k
  if m < 24 then List.replicate m true ++ [false] ++ bitsMsb k (u % 2 ^ k)
  else List.replicate 24 true ++ bitsMsb (d + 1) u

/-- R258: the row group with the parameter that takes the fewest bits, the lowest on ties. -/
def bestGroup (d : Nat) (us : List Nat) : List Bool :=
  let group (k : Nat) : List Bool := bitsMsb 4 k ++ us.flatMap (rice d k)
  (List.range d).foldl (fun b k => if (group (k + 1)).length < b.length then group (k + 1) else b) (group 0)

/-- R257: the row groups of a tile. -/
def adaptiveRows (d e : Nat) : Option (List Nat) → List (List Nat) → List Bool
  | _, [] => []
  | above, row :: r =>
    let (dec, us) := codeRow d e above row ([], [])
    bestGroup d us.reverse ++ adaptiveRows d e (some dec.reverse) r

/-- The rows of a tile. -/
def rowsOfTile (xs : List Nat) : List (List Nat) := (List.range 16).map (fun i => (xs.drop (16 * i)).take 16)

def adaptiveBits (d e : Nat) (xs : List Nat) : List Bool := adaptiveRows d e none (rowsOfTile xs)

/-! Records (R254) -/

/-- R254: D_CODE of a depth. -/
def depthCode (d : Nat) : Nat := (d - 8) / 2

/-- R254: the header of a record. -/
def recordHeader (mode ec d len ov value check : Nat) : List Byte :=
  leBytes 8 (mode + ec * 4 + depthCode d * 32 + len * 2 ^ 8 + ov * 2 ^ 17 + value * 2 ^ 32 + check * 2 ^ 48)

/-- R254: a record of mode 0 or 1 with its payload. -/
def recordOf (mode ec d : Nat) (payload : List Byte) : List Byte :=
  recordHeader mode ec d payload.length 0 0 (crc32 polyC payload % 65536) ++ payload

/-- R254: a constant record, and a redirect. -/
def constantRecord (d v : Nat) : List Byte := recordHeader 2 0 d 0 0 v 0
def redirectRecord (ec d ov : Nat) : List Byte := recordHeader 3 ec d 0 ov 0 0

/-- R258: the candidates of a surface. -/
def candidates' (eMin eMax : Nat) : List Nat :=
  if eMax == 0 then [0] else 0 :: ((List.range 6).filter (fun e => decide (eMin ≤ e) && decide (e ≤ eMax)))

/-- R258: `choose`: E_CODE and bytes of the first record that fits. -/
def chooseRecord (d eMin eMax limit : Nat) (xs : List Nat) : Option (Nat × List Byte) :=
  match xs with
  | [] => none
  | x :: _ =>
    if xs.all (· == x) then some (0, constantRecord d x)
    else (candidates' eMin eMax).findSome? (fun ec =>
      let e := boundOf ec
      let a := toBytes (adaptiveBits d e xs)
      let r := if a.length ≤ 32 * codeBits d e then recordOf 1 ec d a else recordOf 0 ec d (toBytes (fixedBits d e xs))
      if r.length ≤ limit then some (ec, r) else none)

/-! Decoding (R254-R257, R271) -/

/-- The fields of a header. -/
structure RecordHead where
  mode : Nat
  ec : Nat
  dc : Nat
  len : Nat
  ov : Nat
  value : Nat
  check : Nat
deriving DecidableEq, Repr, Inhabited

/-- R254: the header of a record, none when a reserved bit is set or E_CODE or D_CODE is invalid. -/
def readHead (bs : List Byte) : Option RecordHead :=
  let v := leNat (bs.take 8)
  if decide (bs.length < 8) || bitOf v 7 || bitsOf v 47 44 != 0 then none
  else
    let x : RecordHead := { mode := bitsOf v 1 0, ec := bitsOf v 4 2, dc := bitsOf v 6 5, len := bitsOf v 16 8
                            ov := bitsOf v 31 17, value := bitsOf v 43 32, check := bitsOf v 63 48 }
    if decide (x.ec > 5) || x.dc == 3 then none else some x

/-- One Rice code off the front of the stream: its u and what is left. -/
def unrice (d k : Nat) (bs : List Bool) : Option (Nat × List Bool) :=
  let m := (bs.take 24).findIdx (fun b => !b)
  let m := if (bs.take 24).all id then 24 else m
  if m == 24 then
    if bs.length < 24 + d + 1 then none else some (bitsVal ((bs.drop 24).take (d + 1)), bs.drop (25 + d))
  else
    let r := bs.drop (m + 1)
    if bs.length < m + 1 + k then none else some (m * 2 ^ k + bitsVal (r.take k), r.drop k)

/-- R257: n samples of a row; samples are newest first. -/
def decodeRow (d e k : Nat) (above : Option (List Nat)) : Nat → List Bool → List Nat → Option (List Nat × List Bool)
  | 0, bs, dec => some (dec, bs)
  | n + 1, bs, dec =>
    match unrice d k bs with
    | none => none
    | some (u, bs) =>
      let p := predict d above dec
      let q := unmapRes u
      let x := rebuild d e p q
      let clamped := p + q * ((2 * e + 1 : Nat) : Int) != (x : Int)
      if clamped && quantise e ((x : Int) - p) != q then none else decodeRow d e k above n bs (x :: dec)

/-- R257: the rows of an adaptive payload. -/
def decodeRows (d e : Nat) : Nat → Option (List Nat) → List Bool → List Nat → Option (List Nat × List Bool)
  | 0, _, bs, acc => some (acc, bs)
  | n + 1, above, bs, acc =>
    let k := bitsVal (bs.take 4)
    if decide (bs.length < 4) || decide (k > d) then none
    else match decodeRow d e k above 16 (bs.drop 4) [] with
      | none => none
      | some (dec, bs) => decodeRows d e n (some dec.reverse) bs (acc ++ dec.reverse)

/-- R256: the samples of a fixed-length payload. -/
def decodeFixed (d e : Nat) : Nat → List Bool → Option (List Nat)
  | 0, _ => some []
  | n + 1, bs =>
    let b := codeBits d e
    match fixedSample d e (bitsVal (bs.take b)), decodeFixed d e n (bs.drop b) with
    | some x, some r => some (x :: r)
    | _, _ => none

/-- R254-R257: a record without redirect: its header and its 256 samples, none for an invalid one. -/
def decodeRecord (bs : List Byte) : Option (RecordHead × List Nat) :=
  match readHead bs with
  | none => none
  | some x =>
    let d := 8 + 2 * x.dc
    let e := boundOf x.ec
    let pay := (bs.drop 8).take x.len
    if x.mode == 2 then
      if x.len == 0 && x.ov == 0 && x.ec == 0 && x.check == 0 && decide (x.value < 2 ^ d) then some (x, List.replicate 256 x.value)
      else none
    else if decide (x.mode ≥ 2) || x.ov != 0 || x.value != 0 || pay.length != x.len || crc32 polyC pay % 65536 != x.check then none
    else if x.mode == 0 then
      if x.len != 32 * codeBits d e then none
      else (decodeFixed d e 256 (unpackBits pay)).map (fun s => (x, s))
    else match decodeRows d e 16 none (unpackBits pay) [] with
      | some (s, rest) => if rest.length < 8 && rest.all (fun b => !b) then some (x, s) else none
      | none => none

/-! Chroma subsampling (R265) -/

/-- R265: 4:2:2 and 4:2:0 conversion of a tile's source: rows of 33 samples, the columns from one left of the tile's span on, 16 rows,
or 32 for 4:2:0. `w` and `n` are the columns and rows of the plane from the span's first on; a sample outside the plane, which
F2 does not read (R270), is the nearest one inside it: to the right, below, and to the left of the plane's first column. -/
def subsample (v420 : Bool) (w n : Nat) (first : Bool) (src : List Nat) : List Nat :=
  let c (x y : Nat) : Nat := nth src (33 * min y (n - 1) + max (min x w) (if first then 1 else 0)) 0
  let hf (x y : Nat) : Nat := (c (2 * x) y + 2 * c (2 * x + 1) y + c (2 * x + 2) y + 2) / 4
  (List.range 256).map (fun i =>
    let x := i % 16
    let y := i / 16
    if v420 then (hf x (2 * y) + hf x (2 * y + 1) + 1) / 2 else hf x y)

/-- R251: samples past the plane's right and bottom edge repeat the last column and row; `cols` and `rows` of the tile lie
inside the plane. -/
def padTile (cols rows : Nat) (xs : List Nat) : List Nat :=
  (List.range 256).map (fun i => nth xs (16 * min (i / 16) (rows - 1) + min (i % 16) (cols - 1)) 0)

/-! Surfaces (R260, R277) -/

/-- A surface's format, size and coding parameters, read from the surface window. -/
structure SurfaceShape where
  model : Nat
  depth : Nat
  chroma : Nat
  semi : Bool
  width : Nat
  height : Nat
  mode : Nat
  eMin : Nat
  eMax : Nat
  slot : Nat
  ovBlocks : Nat
deriving DecidableEq, Repr, Inhabited

/-- R278, R302: the shape of a surface. -/
def shapeOf (h : Hub) (s : Nat) : SurfaceShape :=
  let f := getN h (at_ s Obj.SF_FORMAT)
  let d := getN h (at_ f Obj.FD_DEPTH)
  let eMax := getN h (at_ s Obj.SF_E_MAX)
  let slot := getN h (at_ s Obj.SF_SLOT)
  { model := getN h (at_ f Obj.FD_MODEL), depth := d, chroma := getN h (at_ f Obj.FD_CHROMA)
    semi := getB h (at_ f Obj.FD_SOURCE)
    width := getN h (at_ s Obj.SF_WIDTH), height := getN h (at_ s Obj.SF_HEIGHT)
    mode := getN h (at_ s Obj.SF_MODE), eMin := getN h (at_ s Obj.SF_E_MIN), eMax := eMax
    slot := if slot == 0 then ceilDiv (guaranteed d (boundOf eMax)) 16 * 16 else slot
    ovBlocks := getN h (at_ s Obj.SF_OV_BLOCKS) }

/-- R277: planes of a model. -/
def planesOf (model : Nat) : Nat := if model == 0 then 1 else if model == 2 || model == 4 then 4 else 3

/-- R277: a plane is subsampled chroma. -/
def isChroma (x : SurfaceShape) (p : Nat) : Bool := (x.model == 3 || x.model == 4) && (p == 1 || p == 2)

/-- R277: width and height of a plane. -/
def planeW (x : SurfaceShape) (p : Nat) : Nat := if isChroma x p && x.chroma != 0 then ceilDiv x.width 2 else x.width
def planeH (x : SurfaceShape) (p : Nat) : Nat := if isChroma x p && x.chroma == 2 then ceilDiv x.height 2 else x.height

/-- R251: tiles across, down and in all of a plane. -/
def tilesW (x : SurfaceShape) (p : Nat) : Nat := ceilDiv (planeW x p) 16
def tilesH (x : SurfaceShape) (p : Nat) : Nat := ceilDiv (planeH x p) 16
def tilesOf (x : SurfaceShape) (p : Nat) : Nat := tilesW x p * tilesH x p

/-- R260: the size of an overflow block, and chunks of planes and of the surface. -/
def blockSize (x : SurfaceShape) : Nat := ceilDiv (guaranteed x.depth (boundOf x.eMax)) 16 * 16
def planeChunks (x : SurfaceShape) (p : Nat) : Nat := ceilDiv (tilesOf x p * x.slot) 4096
def planesChunks (x : SurfaceShape) (n : Nat) : Nat := sumOf (planeChunks x) (List.range n)
def surfaceChunks (x : SurfaceShape) : Nat := planesChunks x (planesOf x.model) + ceilDiv (x.ovBlocks * blockSize x) 4096

end Sys2Proof.Machine
end

