-- ==== Sys2Proof/Machine/Coder.lean ====
section
/-! DEFINITION. The surface coder (R260-R275): where a tile lies in the Hearth, writing records, deferral and the retry
store, escalations, the tile-row interlock, surfaces, and F2's ingest. -/

namespace Sys2Proof.Machine

def setCoder (h : Hub) (f : Coder → Coder) : Hub := { h with coder := f h.coder }

/-! Where a tile lies (R260) -/

/-- The byte address of an offset from a chunk of a surface: its chunks follow in ascending order. -/
def chunkByte (cs : List Nat) (first off : Nat) : Nat := nth cs (first + off / 4096) 0 * 4096 + off % 4096

/-- The byte addresses of `n` bytes of a tile's slot. -/
def slotAddrs (x : SurfaceShape) (cs : List Nat) (p t n : Nat) : List Nat :=
  (List.range n).map (fun i => chunkByte cs (planesChunks x p) (t * x.slot + i))

/-- The byte addresses of `n` bytes of an overflow block. -/
def blockAddrs (x : SurfaceShape) (cs : List Nat) (b n : Nat) : List Nat :=
  (List.range n).map (fun i => chunkByte cs (planesChunks x (planesOf x.model)) (b * blockSize x + i))

/-- R254: the bytes of the record that a tile holds, a redirect followed. -/
def tileRecord (m : List Host.Cell) (h : Hub) (s p t : Nat) : List Byte :=
  let x := shapeOf h s
  let cs := chunksOf h s
  let rd (as : List Nat) : List Byte := as.map (surfaceByte m h)
  let head := rd (slotAddrs x cs p t 8)
  match readHead head with
  | some r =>
    if r.mode == 3 then rd (blockAddrs x cs r.ov (blockSize x))
    else rd (slotAddrs x cs p t (8 + r.len))
  | none => head

/-- The record at the front of a slot or a block, as a header gives its length. -/
def trimRecord (bs : List Byte) : List Byte := match readHead (bs.take 8) with
  | some r => bs.take (8 + r.len)
  | none => bs.take 8

/-- R24, R94: the record of a tile as a head reads it: its slot in one request, and the block of a redirect in a second; none on
an error completion or a poisoned one. How a head cuts its reads into requests the manual leaves open. (DESIGN CHOICE, log 55) -/
def loadTile (m : List Host.Cell) (h : Hub) (master s p t : Nat) (ecc : List EccError) : Option (List Byte) × Hub :=
  let x := shapeOf h s
  let cs := chunksOf h s
  match masterRead m h master (slotAddrs x cs p t x.slot) ecc with
  | (none, h) => (none, h)
  | (some bs, h) => match readHead (bs.take 8) with
    | some r => if r.mode == 3 then masterRead m h master (blockAddrs x cs r.ov (blockSize x)) ecc else (some bs, h)
    | none => (some bs, h)

/-! Tiles -/

def tileKey (s p t : Nat) : Nat := s * 0x100000 + p * 0x40000 + t

def tileInfo (h : Hub) (s p t : Nat) : TileInfo := mget h.coder.tiles {} (tileKey s p t)

def putTile (h : Hub) (s p t : Nat) (x : TileInfo) : Hub :=
  setCoder h (fun c => { c with tiles := mset c.tiles (tileKey s p t) x })

/-- The tiles of a surface that the coder has an entry for. -/
def surfaceTiles (h : Hub) (s : Nat) : List (Nat × TileInfo) := h.coder.tiles.filter (fun x => x.1 / 0x100000 == s)

/-- R261: SF_STATE. -/
def surfaceState (h : Hub) (s : Nat) : Nat :=
  if h.coder.deferredFree.contains s then 2 else if getB h (at_ s Obj.SF_VALID) then 1 else 0

/-- R262: the addresses that a tile's record may take: its slot, and the block that it holds. -/
def tileAddrs (h : Hub) (s p t : Nat) : List Nat :=
  let x := shapeOf h s
  let cs := chunksOf h s
  slotAddrs x cs p t x.slot ++ (match (tileInfo h s p t).ov with
    | some b => blockAddrs x cs b (blockSize x)
    | none => [])

/-- R260: the constant record of a new tile is not written yet, since its lane waits. -/
def freshWaits (h : Hub) (s p t : Nat) : Bool :=
  h.coder.waits.any (fun w => w.work == .fresh && w.surface == s && w.plane == p && w.tile == t)

/-- R272, R260, R284: the samples of a tile as a head decodes them. A tile whose content is lost, or one of whose pieces has no relief row,
shows 0, and so does one whose first record still waits. What a head shows
for a record that is not valid, or that its read did not return, the manual does not say: free values. (DESIGN CHOICE, log 8) -/
def headTile (m : List Host.Cell) (h : Hub) (hd : Nat) (ecc : List EccError) (s p t : Nat) : List Nat × Hub :=
  let d := (shapeOf h s).depth
  if (tileInfo h s p t).lost || freshWaits h s p t || (tileAddrs h s p t).any (fun a => (physAddr h a).isNone) then (List.replicate 256 0, h)
  else
    let (bs, h) := loadTile m h (headUnit hd) s p t ecc
    match bs.bind decodeRecord with
    | some (_, xs) => (xs, h)
    | none => ((List.range 256).map (fun i => Config.freeNat (h.fresh + i) % 2 ^ d), ticks h 256)

/-- R262: the block of a staged record that waits for its row. -/
def stagedBlock : LaneWork → Option Nat
  | .staged _ _ ov _ => ov
  | _ => none

/-- R262: overflow blocks that a tile holds, stored or staged. -/
def blockTaken (h : Hub) (s b : Nat) : Bool :=
  (surfaceTiles h s).any (fun x => x.2.ov == some b) || h.coder.held.any (fun r => r.surface == s && r.ov == some b)
  || h.coder.waits.any (fun w => w.surface == s && stagedBlock w.work == some b)
def freeBlock (h : Hub) (s : Nat) : Option Nat := (List.range (shapeOf h s).ovBlocks).find? (fun b => !blockTaken h s b)

/-- R264: the census of a bound: tiles whose stored record has it; tiles never written hold a constant. -/
def census (h : Hub) (s ec : Nat) : Nat :=
  if surfaceState h s == 0 then 0
  else
    let x := shapeOf h s
    let others := ((surfaceTiles h s).filter (fun y => y.2.e != 0)).length
    if ec == 0 then sumOf (tilesOf x) (List.range (planesOf x.model)) - others
    else ((surfaceTiles h s).filter (fun y => y.2.e == ec)).length

/-- R262, R263: the entry of a tile leaves the retry store, and a lane that waits to code it again has nothing to do. -/
def dropRetry (h : Hub) (s p t : Nat) : Hub :=
  let mine (x y z : Nat) : Bool := x == s && y == p && z == t
  setCoder h (fun c => { c with
    retry := c.retry.filter (fun r => !mine r.surface r.plane r.tile)
    waits := c.waits.filter (fun w => !(w.work == .retry && mine w.surface w.plane w.tile)) })

/-- R262: the entry of a tile in the retry store. -/
def retryOf (h : Hub) (s p t : Nat) : Option Retry := h.coder.retry.find? (fun r => r.surface == s && r.plane == p && r.tile == t)

/-- R262: where a place of the retry store lies: 384 bytes each, end to end in its six chunks. How a source lies there the manual leaves
open: samples of 12 bits, or the payload of a record. (DESIGN CHOICE, log 32) -/
def retryAddrs (h : Hub) (at_ n : Nat) : List Nat := (List.range n).map (fun i => chunkByte (chunksOf h 256) 0 (384 * at_ + i))

/-- The 256 samples of a tile in 384 bytes, two in three bytes, and back. -/
def packTile (xs : List Nat) : List Byte :=
  (List.range 384).map (fun i =>
    let a := nth xs (i / 3 * 2) 0
    let b := nth xs (i / 3 * 2 + 1) 0
    BitVec.ofNat 8 (match i % 3 with | 0 => a | 1 => a / 256 % 16 + b % 16 * 16 | _ => b / 16))
def unpackTile (bs : List Byte) : List Nat :=
  let f (i : Nat) : Nat := (nth bs i 0).toNat
  (List.range 256).map (fun k =>
    let i := k / 2 * 3
    if k % 2 == 0 then f i + 256 * (f (i + 1) % 16) else f (i + 1) / 16 + 16 * f (i + 2))

/-- The bytes of a source that lie in the store. -/
def retryLength : RetrySource → Nat
  | .samples => 384
  | .record _ n => n
  | .twin _ n => n

/-- R264: an escalation is counted and logged, at the position that follows the last entry's. -/
def escalate (h : Hub) (s p t ec : Nat) : Hub :=
  let pos := getN h Obj.ESC_TOTAL % 256
  let h := setFlag (bump (bump h (at_ s Obj.SF_ESCALATIONS)) Obj.ESC_TOTAL) Obj.ESCALATED
  let h := setN (setN (setN h (at_ pos Obj.LG_SURFACE) s) (at_ pos Obj.LG_PLANE) p) (at_ pos Obj.LG_TILE) t
  setN (setN (setN h (at_ pos Obj.LG_E) ec) (at_ pos Obj.LG_TIME) h.net) (at_ pos Obj.LG_SEQ) (getN h Obj.ESC_TOTAL)

/-- R417: the descriptor for which a tile's record is staged: its number in TW_ING_SEQ, on a hub that is paired. -/
def holdFor (h : Hub) (s p t : Nat) : Option Nat :=
  match h.coder.current with
  | some g => if isPaired h && g.desc.surface == s && g.left.contains (p, t) then some (getN h Obj.TW_ING_SEQ) else none
  | none => none

/-- R23: the tile lanes in service. -/
def tileLanesIn (h : Hub) : List Nat := (List.range 8).filter (fun i => inService h (tileLaneUnit i))

def laneUnits (h : Hub) : List Nat := (tileLanesIn h).map tileLaneUnit

/-- The lane that does a tile's work, which the manual leaves open: a free value among those in service. (DESIGN CHOICE, log 8) -/
def someLane (h : Hub) : Nat :=
  let ls := tileLanesIn h
  tileLaneUnit (nth ls (Config.freeNat h.fresh % ls.length) 0)

/-- R262, R268: store a record for a tile in its slot, or in block `ov` with a redirect; the payload, or the overflow record, is
written before the header. A tile with a piece that has no relief stays marked (R107). R412: the active of a pair mirrors a
record that no descriptor staged. -/
def storeRecord (h : Hub) (s p t ec : Nat) (bytes : List Byte) (ov : Option Nat) (mirror : Bool) : Hub :=
  let x := shapeOf h s
  let cs := chunksOf h s
  let lane := h.coder.lane
  let slot (bs : List Byte) : List (Nat × Byte) := (slotAddrs x cs p t bs.length).zip bs
  let h := match ov with
    | none => masterWrite (masterWrite h lane ((slot bytes).drop 8)) lane ((slot bytes).take 8)
    | some b => masterWrite (masterWrite h lane ((blockAddrs x cs b bytes.length).zip bytes)) lane (slot (redirectRecord ec x.depth b))
  let h := putTile (dropRetry h s p t) s p t { st := 0, e := ec, bytes := bytes.length, ov := ov }
  let h := if (tileAddrs h s p t).any (fun a => (physAddr h a).isNone) then
      putTile h s p t { tileInfo h s p t with st := 2 } else h
  if mirror && decide (2 ≤ getN h Obj.TW_STATE) && h.twin.token then later h (.mirrored (.record s p t bytes)) else h

/-- R417, R268: a record is staged for descriptor `n`: an overflow record is written at once, its redirect is held; in a slot nothing may stand
under the header that a head may still read. (DEDUCED, log 32) -/
def stageRecord (h : Hub) (s p t ec : Nat) (bytes : List Byte) (ov : Option Nat) (n : Nat) (maker : RecordMaker) : Hub :=
  let h := dropRetry h s p t
  let h := match ov with
    | some b => masterWrite h h.coder.lane ((blockAddrs (shapeOf h s) (chunksOf h s) b bytes.length).zip bytes)
    | none => h
  setCoder h (fun c => { c with held := c.held ++ [⟨n, s, p, t, ec, bytes, ov, maker⟩] })

/-- R264: a record of this hub's own has been stored: it is counted, and logged where its E_CODE lies above SF_E_MIN. -/
def countRecord (h : Hub) (s p t ec : Nat) (maker : RecordMaker) : Hub :=
  if maker == .twin then h
  else
    let h := bump h Obj.CODER_TILES
    let h := if maker == .precoded then bump h Obj.CODER_PRECODED else h
    if ec > (shapeOf h s).eMin then escalate h s p t ec else h

/-- R264, R417: a record of an update: staged for the descriptor that waits for its apply time, or stored. -/
def putRecord (h : Hub) (s p t ec : Nat) (bytes : List Byte) (ov : Option Nat) (maker : RecordMaker) : Hub :=
  match holdFor h s p t with
  | some n => stageRecord h s p t ec bytes ov n maker
  | none => countRecord (storeRecord h s p t ec bytes ov true) s p t ec maker

/-- R262: an update that finds no block is deferred: pending with its source in the retry store, or, where the store has no
room, to be sent again. -/
def deferTile (h : Hub) (s p t : Nat) (source : RetrySource) (bytes : List Byte) : Hub :=
  let h := dropRetry h s p t
  let h := setFlag (bump h (at_ s Obj.SF_DEFERRALS)) Obj.TILE_DEFERRED
  let info := tileInfo h s p t
  match (List.range 64).find? (fun i => h.coder.retryHeld && !h.coder.retry.any (fun r => r.at_ == i)) with
  | some i =>
    let h := masterWrite h h.coder.lane ((retryAddrs h i bytes.length).zip bytes)
    setCoder (putTile h s p t { info with st := 1 }) (fun c => { c with retry := c.retry ++ [⟨s, p, t, i, source⟩] })
  | none => setFlag (putTile h s p t { info with st := 2 }) Obj.TILE_RESEND

/-- R417: a record that came from the twin, staged for descriptor `n` or written now: in its slot, or in a free
block, for want of which it is deferred (R262). -/
def storeTwinRecord (h : Hub) (s p t : Nat) (bytes : List Byte) (hold : Option Nat) : Hub :=
  let x := shapeOf h s
  let put (ec : Nat) (ov : Option Nat) : Hub := match hold with
    | some n => stageRecord h s p t ec bytes ov n .twin
    | none => storeRecord h s p t ec bytes ov false
  match readHead (bytes.take 8) with
  | some r =>
    if bytes.length ≤ x.slot then put r.ec none
    else match freeBlock h s with
      | some b => put r.ec (some b)
      | none => deferTile h s p t (.twin (bytes.take 8) (bytes.length - 8)) (bytes.drop 8)
  | none => h

/-- R262: code a raw tile: the result says 0 written, 1 deferred. -/
def codeTile (h : Hub) (s p t : Nat) (xs : List Nat) : Nat × Hub :=
  let x := shapeOf h s
  match chooseRecord x.depth x.eMin x.eMax x.slot xs with
  | some (ec, bytes) => (0, putRecord h s p t ec bytes none .coder)
  | none =>
    match freeBlock h s, chooseRecord x.depth x.eMin x.eMax (blockSize x) xs with
    | some b, some (ec, bytes) => (0, putRecord h s p t ec bytes (some b) .coder)
    | _, _ => (1, deferTile h s p t .samples (packTile xs))

/-- R271: a pre-coded record: 0 written, 1 deferred, 2 refused. One that no slot or block of its surface could ever hold is
refused. (DEDUCED, log 32) -/
def codePrecoded (h : Hub) (s p t pitch : Nat) (bs : List Byte) : Nat × Hub :=
  let x := shapeOf h s
  match decodeRecord bs with
  | none => (2, bump h Obj.CODER_REFUSED)
  | some (r, _) =>
    let bytes := bs.take (8 + r.len)
    if 8 + 2 * r.dc != x.depth || (r.ec != 0 && !(decide (x.eMin ≤ r.ec) && decide (r.ec ≤ x.eMax))) || decide (8 + r.len > pitch) then
      (2, bump h Obj.CODER_REFUSED)
    else if bytes.length ≤ x.slot then (0, putRecord h s p t r.ec bytes none .precoded)
    else if blockSize x < bytes.length || x.mode == 0 then (2, bump h Obj.CODER_REFUSED)
    else match freeBlock h s with
      | some b => (0, putRecord h s p t r.ec bytes (some b) .precoded)
      | none => (1, deferTile h s p t (.record (bytes.take 8) (bytes.length - 8)) (bytes.drop 8))

/-- R260, R272: a constant record of value 0 in a tile's slot, which the active of a pair mirrors (R412). -/
def storeConstant (h : Hub) (s p t : Nat) : Hub :=
  let x := shapeOf h s
  let bytes := constantRecord x.depth 0
  let h := masterWrite h h.coder.lane ((slotAddrs x (chunksOf h s) p t 8).zip bytes)
  if decide (2 ≤ getN h Obj.TW_STATE) && h.twin.token then later h (.mirrored (.record s p t bytes)) else h

/-- R272: a tile that lost its content: a constant record of 0, to be sent again. -/
def loseTile (h : Hub) (s p t : Nat) : Hub :=
  let was := dropRetry h s p t
  setFlag (putTile (storeConstant was s p t) s p t { st := 2, lost := true }) Obj.TILE_RESEND

/-! The interlock (R267) -/

/-- R267: some head holds a tile row. -/
def rowHeld (h : Hub) (s p row : Nat) : Bool := h.heads.any (fun x => x.2.rows.any (fun r => r.held.contains (s, p, row)))

/-- R267: fetched rows without a hold. -/
def unheld (rs : List FetchedRow) (hold : Nat × Nat × Nat) : List FetchedRow :=
  rs.map (fun r => { r with held := r.held.filter (· != hold) })

/-- The tile row of a tile. -/
def tileRowOf (h : Hub) (s p t : Nat) : Nat := t / tilesW (shapeOf h s) p

/-- R417: a paired hub has completed its next descriptor: it holds a copy of its records. -/
def describe (h : Hub) : Hub :=
  if isPaired h then
    let n := getN h Obj.TW_ING_SEQ
    later (setN h Obj.TW_ING_SEQ ((n + 1) % 2 ^ 32)) (.described n)
  else h

/-- R270: a tile of the descriptor under way is done: written, deferred (1) or refused (2); the last completes it. (DEDUCED, log 32) -/
def ingestDone (h : Hub) (s p t res : Nat) : Hub :=
  match h.coder.current with
  | none => h
  | some g =>
    if g.desc.surface != s || !g.left.contains (p, t) then h
    else
      let g := { g with
        left := g.left.filter (· != (p, t))
        deferred := g.deferred + (if res == 1 then 1 else 0)
        refused := g.refused + (if res == 2 then 1 else 0) }
      if !g.left.isEmpty then setCoder h (fun c => { c with current := some g })
      else
        let st := if g.refused > 0 then 3 else if g.deferred > 0 then 2 else 1
        let d := { g.desc with status := st, deferred := g.deferred, refused := g.refused }
        let h := setCoder h (fun c => { c with ring := mset c.ring g.at_ d, consumer := (g.at_ + 1) % 256, current := none })
        let h := describe h
        whenH (bitOf h.coder.control 1) h (fun h => raiseMsix h 2 0)

/-- R23: a tile that no lane in service can take is refused. -/
def refuseTile (h : Hub) (s p t : Nat) : Hub := ingestDone (bump h Obj.CODER_REFUSED) s p t 2

/-- R263: a pending tile is coded again from its source, which the lane reads in the retry store. A source that does not come back leaves the
tile to be sent again. (DESIGN CHOICE, log 32) -/
def codeAgain (m : List Host.Cell) (h : Hub) (s p t : Nat) : Hub :=
  match retryOf h s p t with
  | none => h
  | some r =>
    let (ecc, h) := metErrors h
    match masterRead m h h.coder.lane (retryAddrs h r.at_ (retryLength r.source)) ecc with
    | (none, h) => setFlag (putTile (dropRetry h s p t) s p t { tileInfo h s p t with st := 2 }) Obj.TILE_RESEND
    | (some bs, h) => match r.source with
      | .samples => (codeTile h s p t (unpackTile bs)).2
      | .record head _ => (codePrecoded h s p t (8 + bs.length) (head ++ bs)).2
      | .twin head _ => storeTwinRecord h s p t (head ++ bs) none

/-- R412: the constant record of a tile never written says nothing of it. -/
def saysNothing (h : Hub) (s p t : Nat) (bytes : List Byte) : Bool :=
  (tileInfo h s p t).st == 3 && bytes == constantRecord (shapeOf h s).depth 0

/-- Do what a tile lane was to do for a tile. A surface whose free is deferred takes no update, and still shows the constants of
tiles that lost their content (R272, R297). With no tile lane in service (R23) a retry stays in the store, and any other record is
refused. (DEDUCED, log 32) -/
def laneWork (m : List Host.Cell) (h : Hub) (w : LaneWait) : Hub :=
  let s := w.surface
  let st := surfaceState h s
  let idle := (tileLanesIn h).isEmpty
  match w.work with
  | .lost => if st == 0 || !(tileInfo h s w.plane w.tile).lost then h else loseTile h s w.plane w.tile
  | .fresh => if st == 0 then h else storeConstant h s w.plane w.tile
  | .raw xs =>
    if st != 1 then ingestDone h s w.plane w.tile 2
    else if idle then refuseTile h s w.plane w.tile
    else
      let (r, h) := codeTile h s w.plane w.tile xs
      ingestDone h s w.plane w.tile r
  | .precoded pitch bs =>
    if st != 1 then ingestDone h s w.plane w.tile 2
    else if idle then refuseTile h s w.plane w.tile
    else
      let (r, h) := codePrecoded h s w.plane w.tile pitch bs
      ingestDone h s w.plane w.tile r
  | .retry => if st != 1 || idle then h else codeAgain m h s w.plane w.tile
  | .staged ec bytes ov maker =>
    if st != 1 then h
    else if idle then bump h Obj.CODER_REFUSED
    else countRecord (storeRecord h s w.plane w.tile ec bytes ov false) s w.plane w.tile ec maker
  | .twin bytes =>
    if st != 1 || saysNothing h s w.plane w.tile bytes then h
    else if idle then bump h Obj.CODER_REFUSED
    else storeTwinRecord h s w.plane w.tile bytes none

/-- The coder runs: PW40 is On and the part has it. -/
def coderOn (h : Hub) : Bool := h.part != .bw7720 && domOn h 40

/-- R269, R263: a lane takes a tile after those that came before it for the same tile. -/
def sameTile (w x : LaneWait) : Bool := w.surface == x.surface && w.plane == x.plane && w.tile == x.tile

/-- R267: a lane that waits is let go or goes on waiting: for one that came before it, for the heads that hold its row, for the coder's domain, or
for a bank group that one of its requests asks for, which it wakes (R42, R388). Its Guard has judged a request once, whatever it waits for
afterwards (R449). -/
def laneTry (m : List Host.Cell) (h : Hub) (w : LaneWait) : Hub :=
  if (h.coder.waits.takeWhile (· != w)).any (sameTile w) then h
  else if rowHeld h w.surface w.plane (tileRowOf h w.surface w.plane w.tile) then
    if w.held then h
    else bump (setCoder h (fun c => { c with waits := c.waits.map (fun x => if x == w then { x with held := true } else x) })) Obj.INTERLOCK_WAITS
  else if !domOn h 40 then wakeDomain h 40 .grate
  else
    let work (h : Hub) : Hub := laneWork m (setCoder h (fun c => { c with waits := c.waits.erase w, lane := w.lane })) w
    let (ps, h) := judgeWork h w.passes work
    let asleep := sleepingFor h ps
    if asleep.isEmpty then runJudged h ps work
    else wakeGroups (setCoder h (fun c => { c with waits := c.waits.map (fun x => if x == w then { x with passes := ps } else x) })) asleep

/-- R267, R42: a tile lane takes a tile. -/
def laneDo (m : List Host.Cell) (h : Hub) (w : LaneWait) : Hub :=
  let w := { w with lane := someLane h }
  laneTry m (setCoder (tick h) (fun c => { c with waits := c.waits ++ [w] })) w

/-- R267, R42: lanes that nothing holds up any more resume, in the order in which they came. -/
def resumeLanes (m : List Host.Cell) (h : Hub) : Hub :=
  forEach h.coder.waits h (fun h w => if h.coder.waits.contains w then laneTry m h w else h)

/-- The surface and tile exist. -/
def tileInside (h : Hub) (s p t : Nat) : Bool := decide (p < planesOf (shapeOf h s).model) && decide (t < tilesOf (shapeOf h s) p)
def tileExists (h : Hub) (s p t : Nat) : Bool := surfaceState h s == 1 && tileInside h s p t

/-- R279: plane p of one interleaved source row by row: Cb at even positions, Cr at odd ones. -/
def deinterleave (p : Nat) (src : List Nat) : List Nat := (List.range (src.length / 2)).map (fun i => nth src (2 * i + (p - 1)) 0)

/-- R270: of a tile of a descriptor, what F2 reads of the host's memory: the address and the bytes of each source row, or of the record. A semi-planar
source has both chroma samples side by side (R279); with conversion the span is the full-resolution one and a sample beyond it on each side, inside
the plane. -/
def sourceRows (x : SurfaceShape) (d : IngDesc) (p t : Nat) : List (Nat × Nat) :=
  let (i, j) := (t % tilesW x p, t / tilesW x p)
  if bitOf d.flags 0 then [(d.srcAddr + d.srcPitch * ((j - d.tileY0) * d.tilesW + (i - d.tileX0)), d.srcPitch)]
  else
    let conv := bitOf d.flags 1
    let cx := if conv then 2 else 1
    let cy := if conv && x.chroma == 2 then 2 else 1
    let beyond := if conv then 1 else 0
    let bytes := (if x.depth == 8 then 1 else 2) * (if x.semi && isChroma x p then 2 else 1)
    let x0 := 16 * cx * i - beyond
    let x1 := min (16 * cx * (i + 1) + beyond) (if conv then x.width else planeW x p)
    let y0 := 16 * cy * j - beyond
    let y1 := min (16 * cy * (j + 1) + beyond) (if conv then x.height else planeH x p)
    (List.range (y1 - y0)).map (fun k =>
      (d.srcAddr + d.srcPitch * (y0 + k) + bytes * x0 - (d.srcPitch * (16 * cy * d.tileY0) + bytes * (16 * cx * d.tileX0)), bytes * (x1 - x0)))

/-- R14, R270: F2 reads a tile's source and sends it on to the coder, from GP13 to GP16: whether it came there. Of a tile that no descriptor
under way has, it reads nothing. -/
def fetchSource (h : Hub) (s p t bytes : Nat) : Bool × Hub :=
  match h.coder.current.filter (fun g => g.desc.surface == s && g.left.contains (p, t)) with
  | none => (true, h)
  | some g =>
    let h := forEach (sourceRows (shapeOf h s) g.desc p t) h (fun h r => later h (.hostRead 2 r.1 r.2))
    crossGrate h 13 16 bytes

/-- R258, R262, R263: a raw tile of an update, as F2 read it from the source of the descriptor under way: upper bits of a sample are
ignored (R270), a semi-planar source is taken apart (R279), a full-resolution chroma source is converted (R265), and the edge
is padded (R251). A surface that takes no update has it refused (R269). -/
def tileCode (m : List Host.Cell) (h : Hub) (s p t : Nat) (src : List Nat) : Hub :=
  if h.part == .bw7720 then h
  else if !tileExists h s p t then ingestDone h s p t 2
  else
    let x := shapeOf h s
    let desc := (h.coder.current.filter (fun g => g.desc.surface == s && g.left.contains (p, t))).map (·.desc)
    let flags := (desc.map (·.flags)).getD 0
    let src := src.map (· % 2 ^ x.depth)
    let src := if desc.isSome && x.semi && isChroma x p then deinterleave p src else src
    let w := tilesW x p
    let src := if bitOf flags 1 then subsample (x.chroma == 2) (x.width - 32 * (t % w))
        (x.height - (if x.chroma == 2 then 32 else 16) * (t / w)) (t % w == 0) src else src
    let cols := min 16 (planeW x p - 16 * (t % w))
    let rows := min 16 (planeH x p - 16 * (t / w))
    match fetchSource h s p t ((if x.depth == 8 then 1 else 2) * src.length) with
    | (true, h) => laneDo m h { surface := s, plane := p, tile := t, work := .raw (padTile cols rows src) }
    | (false, h) => h

/-- R271: a pre-coded record of an update. -/
def precodedRecord (m : List Host.Cell) (h : Hub) (s p t pitch : Nat) (bs : List Byte) : Hub :=
  if h.part == .bw7720 then h
  else if !tileExists h s p t then ingestDone h s p t 2
  else match fetchSource h s p t bs.length with
    | (true, h) => laneDo m h { surface := s, plane := p, tile := t, work := .precoded pitch bs }
    | (false, h) => h

/-- R263: with a free overflow block, the surface's oldest pending tile is coded again, but for those whose lanes wait to do so. -/
def tileRetry (m : List Host.Cell) (h : Hub) (s : Nat) : Hub :=
  let waits (r : Retry) : Bool := h.coder.waits.any (fun w => w.work == .retry && w.surface == s && w.plane == r.plane && w.tile == r.tile)
  match h.coder.retry.find? (fun r => r.surface == s && !waits r) with
  | none => h
  | some r => if (freeBlock h s).isNone then h else laneDo m h { surface := s, plane := r.plane, tile := r.tile, work := .retry }

/-- R267: the holds of heads on a tile row end, since its last tile is decoded. -/
def interlockResume (m : List Host.Cell) (h : Hub) (s p row : Nat) : Hub :=
  resumeLanes m { h with heads := h.heads.map (fun x => (x.1, { x.2 with rows := unheld x.2.rows (s, p, row) })) }

/-- R272, R107: the tiles of all surfaces with bytes at addresses that a test names. -/
def tilesWhere (h : Hub) (at_ : Nat → Bool) : List (Nat × Nat × Nat) :=
  ((h.hearth.chunks.map (·.2)).eraseDups.filter (fun s => s < 256 && surfaceState h s != 0)).flatMap (fun s =>
    let x := shapeOf h s
    let cs := chunksOf h s
    (List.range (planesOf x.model)).flatMap (fun p =>
      ((List.range (tilesOf x p)).filter (fun t =>
        (slotAddrs x cs p t x.slot).any at_
        || (match (tileInfo h s p t).ov with
            | some b => (blockAddrs x cs b (blockSize x)).any at_
            | none => false))).map (fun t => (s, p, t))))

/-- R272: tiles lose their content: heads show 0 from now on, and lanes write the constants. A tile that holds no record yet has none to lose
(R260). -/
def loseWhere (m : List Host.Cell) (h : Hub) (at_ : Nat → Bool) : Hub :=
  let ts := (tilesWhere h at_).filter (fun t => !freshWaits h t.1 t.2.1 t.2.2)
  let h := forEach ts h (fun h t => putTile h t.1 t.2.1 t.2.2 { tileInfo h t.1 t.2.1 t.2.2 with lost := true })
  forEach ts h (fun h t => laneDo m h { surface := t.1, plane := t.2.1, tile := t.2.2, work := .lost })

/-- R272, R107: a group's content is lost: its own pieces, and those of a partner out of service that lie in its relief rows. -/
def groupLost (m : List Host.Cell) (h : Hub) (g : Nat) : Hub :=
  loseWhere m h (fun a => a / 256 % 32 == g || (physAddr h a).any (fun b => b / 256 % 32 == g))

/-- R107: a relief row of group `g` is taken once what held it is freed; the tiles of the piece that it serves get their constants. -/
def reliefTake (m : List Host.Cell) (h : Hub) (g r : Nat) : Hub :=
  if h.hearth.reliefWait.contains (g, r) && !rowBusy h g r && slotFree h g && groupState h g == 0 then
    let h := { h with hearth := { h.hearth with
      reliefWait := h.hearth.reliefWait.filter (· != (g, r))
      relief := h.hearth.relief ++ [(g, r)] } }
    let h := setFree h g (groupFree h g - 1)
    loseWhere m h (fun a => a / 256 % 32 == Nat.xor g 16 && a / 8192 == h.part.rows - 1 - r)
  else h

/-! Surfaces (R260, R261, R297) -/

/-- R297: a head holds a surface. -/
def headHolds (h : Hub) (hd s : Nat) : Bool :=
  (getB h (Obj.H_ENABLE hd) && (List.range 4).any (fun l => getN h (Obj.L_SURFACE hd l) == s))
  || (mget h.heads {} hd).sources.any (fun r => r.1 == s)

def anyHolds (h : Hub) (s : Nat) : Bool := h.part != .bw7720 && (List.range 4).any (fun hd => headHolds h hd s)

/-- R269: what the descriptor under way had still to write to a surface is refused. -/
def refuseLeft (h : Hub) (s : Nat) : Hub :=
  match h.coder.current with
  | some g => if g.desc.surface == s then forEach g.left h (fun h t => ingestDone h s t.1 t.2 2) else h
  | none => h

/-- R261, R102: the free of a surface takes effect. -/
def freeSurface (h : Hub) (s : Nat) : Hub :=
  let h := refuseLeft h s
  let h := setN (freeChunks h s) (at_ s Obj.SF_VALID) 0
  setCoder h (fun c => { c with
    deferredFree := c.deferredFree.filter (· != s)
    tiles := c.tiles.filter (fun x => x.1 / 0x100000 != s)
    retry := c.retry.filter (fun r => r.surface != s)
    waits := c.waits.filter (fun w => w.surface != s)
    held := c.held.filter (fun r => r.surface != s) })

/-- R297: every deferred free is checked. -/
def checkFrees (h : Hub) : Hub :=
  forEach h.coder.deferredFree h (fun h s => if anyHolds h s then h else freeSurface h s)

/-- R260: the constant records of a new surface's tiles. -/
def initTiles (m : List Host.Cell) (h : Hub) (s : Nat) : Hub :=
  let x := shapeOf h s
  forEach (List.range (planesOf x.model)) h (fun h p =>
    forEach (List.range (tilesOf x p)) h (fun h t => laneDo m h { surface := s, plane := p, tile := t, work := .fresh }))

/-- The fields of a surface that its COMMIT may not change while it is valid. -/
def surfaceFields : List Nat := [Obj.SF_FORMAT, Obj.SF_WIDTH, Obj.SF_HEIGHT, Obj.SF_POOL, Obj.SF_MODE, Obj.SF_E_MIN,
  Obj.SF_E_MAX, Obj.SF_SLOT, Obj.SF_OV_BLOCKS]

/-- R261: the refusals of a surface COMMIT that do not need the allocator. -/
def surfaceCheck (h h' : Hub) (s : Nat) : Option Abort :=
  let x := shapeOf h' s
  if surfaceState h s == 2 then some (.table 0x85)
  else if getB h (at_ s Obj.SF_VALID) && surfaceFields.any (fun k => getN h (at_ s k) != getN h' (at_ s k)) then some (.table 0x82)
  else if !getB h' (at_ (getN h' (at_ s Obj.SF_FORMAT)) Obj.FD_VALID) then some (.table 0x84)
  else if (x.eMin > x.eMax && x.eMax != 0) || (x.ovBlocks != 0 && x.mode == 0) then some (.table 0x81)
  else if x.mode == 0 && decide (x.slot < guaranteed x.depth (boundOf x.eMax)) then some (.table 0x80)
  else none

/-- R261: a surface COMMIT: `h'` holds the staged values. -/
def surfaceApply (m : List Host.Cell) (h h' : Hub) (s : Nat) : Option Abort × Hub :=
  match surfaceCheck h h' s with
  | some a => (some a, h)
  | none =>
    let was := getB h (at_ s Obj.SF_VALID)
    let is := getB h' (at_ s Obj.SF_VALID)
    if was == is then (none, h')
    else if is then
      match allocChunks h' (getN h' (at_ s Obj.SF_POOL)) s (surfaceChunks (shapeOf h' s)) with
      | (false, h'') => (some (.table 0x83), setN h (Obj.CHUNK_REFUSED (getN h' (at_ s Obj.SF_POOL)))
          (getN h'' (Obj.CHUNK_REFUSED (getN h' (at_ s Obj.SF_POOL)))))
      | (true, h'') => (none, initTiles m h'' s)
    else if anyHolds h s then
      (some .pending, setCoder h (fun c => { c with deferredFree := c.deferredFree ++ [s] }))
    else (none, freeSurface h s)

/-! F2 (R262, R269, R270) -/

/-- R262: the retry store's six chunks, as owner 256. -/
def allocRetry (h : Hub) : Hub :=
  if h.coder.retryHeld then h
  else match allocChunks h (getN h Obj.RETRY_POOL) 256 6 with
    | (true, h) => setCoder h (fun c => { c with retryHeld := true })
    | (false, h) => h

/-- R262: the store is freed: its tiles are to be sent again. -/
def freeRetry (h : Hub) : Hub :=
  if !h.coder.retryHeld then h
  else
    let gone := h.coder.retry
    let h := forEach gone h (fun h r =>
      setFlag (putTile h r.surface r.plane r.tile { tileInfo h r.surface r.plane r.tile with st := 2 }) Obj.TILE_RESEND)
    setCoder (freeChunks h 256) (fun c => { c with retryHeld := false, retry := [], waits := c.waits.filter (fun w => w.work != .retry) })

/-- R484, R240: F2 answers: the part has it and it is not in reset. -/
def f2On (h : Hub) : Bool := inService h (fnUnit 2) && !h.pcie.inReset.contains 2

/-- R262: a write of ING_CONTROL. -/
def ingControl (h : Hub) (v : Nat) : Hub :=
  if !f2On h then h
  else
    let was := bitOf h.coder.control 0
    let h := setCoder h (fun c => { c with control := v % 4 })
    if !was && bitOf v 0 then allocRetry h else h

/-- R8, Table 14.4: a descriptor of 32 bytes; FLAGS[7:2] is reserved and stores nothing. -/
def ingDescOf (bs : List Byte) : IngDesc :=
  let f (a n : Nat) : Nat := leNat ((bs.drop a).take n)
  { srcAddr := f 0 8, srcPitch := f 8 4, surface := f 12 1, plane := f 13 1, tileX0 := f 14 2, tileY0 := f 16 2
    tilesW := f 18 2, tilesH := f 20 2, flags := f 22 1 % 4, status := f 23 1, deferred := f 24 4, refused := f 28 4 }

/-- R269: the host writes descriptors into the ring and then ING_PRODUCER. -/
def ingProducer (h : Hub) (ds : List (Nat × List Byte)) (v : Nat) : Hub :=
  if !f2On h then h
  else setCoder h (fun c => { c with ring := ds.foldl (fun m x => mset m x.1 (ingDescOf x.2)) c.ring, producer := v % 256 })

/-- R271: a descriptor is refused whole. -/
def descRefused (h : Hub) (d : IngDesc) : Bool :=
  let x := shapeOf h d.surface
  let sub := isChroma x d.plane && x.chroma != 0
  surfaceState h d.surface != 1 || decide (d.plane ≥ planesOf x.model)
  || d.tilesW == 0 || d.tilesH == 0
  || decide (d.tileX0 + d.tilesW > tilesW x d.plane) || decide (d.tileY0 + d.tilesH > tilesH x d.plane)
  || (bitOf d.flags 1 && (bitOf d.flags 0 || !sub || (x.semi && d.plane == 2)))
  || (!bitOf d.flags 0 && x.semi && isChroma x d.plane && d.plane == 2)

/-- R270: the tiles of a descriptor's rectangle, of planes 1 and 2 for a semi-planar source (R279). -/
def descTiles (h : Hub) (d : IngDesc) : List (Nat × Nat) :=
  let x := shapeOf h d.surface
  let planes := if !bitOf d.flags 0 && x.semi && isChroma x d.plane then [1, 2] else [d.plane]
  planes.flatMap (fun p => (List.range d.tilesH).flatMap (fun j => (List.range d.tilesW).map (fun i =>
    (p, (d.tileY0 + j) * tilesW x p + d.tileX0 + i))))

/-- R269, R270: F2 takes the next descriptor of its ring, once the coder that it asks for is awake (R42); one whose records the twin has sent is done without coding (R417). -/
def ingestDescriptor (h : Hub) : Hub :=
  let c := h.coder
  if !f2On h || !bitOf c.control 0 || !busMaster h 2 || h.part == .bw7720 || c.producer == c.consumer || c.current.isSome then h
  else if !domOn h 40 then wakeDomain h 40 .grate
  else
    let d := mget c.ring {} c.consumer
    if isPaired h && h.twin.copies.contains (getN h Obj.TW_ING_SEQ) then
      let n := getN h Obj.TW_ING_SEQ
      let d := { d with status := 1, deferred := 0, refused := 0 }
      let h := setCoder h (fun c => { c with ring := mset c.ring c.consumer d, consumer := (c.consumer + 1) % 256 })
      let h := setN { h with twin := { h.twin with copies := h.twin.copies.filter (· != n) } } Obj.TW_ING_SEQ ((n + 1) % 2 ^ 32)
      whenH (bitOf h.coder.control 1) h (fun h => raiseMsix h 2 0)
    else if descRefused h d then
      let d := { d with status := 3, deferred := 0, refused := d.tilesW * d.tilesH }
      let h := setCoder h (fun c => { c with ring := mset c.ring c.consumer d, consumer := (c.consumer + 1) % 256 })
      whenH (bitOf h.coder.control 1) (checkFrees (describe h)) (fun h => raiseMsix h 2 0)
    else setCoder h (fun c => { c with current := some { at_ := c.consumer, desc := d, left := descTiles h d } })

/-- R240: F2's registers return to their reset values, its transfers end. -/
def resetIngest (h : Hub) : Hub :=
  setCoder h (fun c => { c with
    control := 0
    producer := 0
    consumer := 0
    current := none
    ring := [] })

/-- R240: a reset of function `f`: configuration space and the registers of its BARs return to their reset values, and every
transfer on its BARs ends. R227: a function that is reset holds no PTM context; with the last one PTM is lost. -/
def functionReset (h : Hub) (f : Nat) : Hub :=
  let h := setPcie h (fun p => { p with
    cfg := p.cfg.filter (fun x => x.1 / 0x10000 != f)
    msix := p.msix.filter (fun x => x.1 / 256 != f)
    pba := p.pba.filter (fun x => x / 64 != f) })
  let held := h.time.ptm.contains f
  let h := setTime h (fun t => { t with ptm := t.ptm.filter (· != f) })
  let h := whenH (held && h.time.ptm.isEmpty) h (fun h => later h (.sourceGone .ptm))
  match f with
  | 0 =>
    let h := { h with jdp := { h.jdp with xfers := h.jdp.xfers.filter (fun x => x.id.peer.ctx != .bar2)
                                          waiting := h.jdp.waiting.filter (fun x => x.src.ctx != .bar2) } }
    resetBar0 (resetMailbox h)
  | 1 => resetNic h
  | 2 => resetIngest h
  | _ => h

/-- R262: PW40 goes Off. -/
def coderOff (h : Hub) : Hub := freeRetry h

end Sys2Proof.Machine
end

