-- ==== Sys2Proof/Machine/Outputs.lean ====
section
/-! DEFINITION. The display outputs (R304-R315): stream slots and their fit, training, hot plug, relinks, AUX, and
passthrough streams. -/

namespace Sys2Proof.Machine

def setOutputs (h : Hub) (f : Outputs → Outputs) : Hub := { h with outputs := f h.outputs }

/-- R305: the slots of an output, and the output of a slot. -/
def slotsOf (o : Nat) : List Nat := if o == 2 then [8] else (List.range 4).map (4 * o + ·)
def outputOf (p : Nat) : Nat := if p == 8 then 2 else p / 4

/-- Table 16.1: the lane of an output's DisplayPort lane. -/
def outLane (o i : Nat) : Nat := 8 + 4 * o + i

/-- R312, R366: the widest of 4, 2 and 1 lanes whose lanes from 0 are all in service and not taken from the port, within a limit; 0 when
lane 0 is out. -/
def usableWidth (h : Hub) (o limit : Nat) : Nat :=
  ([4, 2, 1].find? (fun w => decide (w ≤ limit) && (List.range w).all (fun i => laneTrainable h (outLane o i)))).getD 0

/-- R314: LINK_CODING of a rate. -/
def linkCoding (rate : Nat) : Nat := if rate == 0 then 0 else if rate ≥ 10000000 then 2 else 1

/-- R306, R313: the payload of a link in kbit/s. -/
def linkPayload (rate lanes : Nat) : Nat := if rate ≥ 10000000 then rate * lanes * 128 / 132 else rate * lanes * 8 / 10

def outPayload (h : Hub) (o : Nat) : Nat := linkPayload (getN h (Obj.LINK_RATE o)) (getN h (Obj.LINK_LANES o))

/-- DisplayPort: the time slots of a link: 64, one of which is the header in 8b/10b. (PRESUMED, log 33) -/
def timeSlots (rate : Nat) : Nat := if rate ≥ 10000000 then 64 else 63

/-- R305: the passthrough stream of a source code, as adapter * 4 + stream. -/
def streamOf (src : Nat) : Option Nat := if 0x10 ≤ src && src ≤ 0x18 then some (36 + (src - 0x10)) else none

/-- R306: the payload of a slot's source; none when no source sends. -/
def sourcePayload (h : Hub) (p : Nat) : Option Nat :=
  let src := getN h (at_ p Obj.SL_SOURCE)
  if 1 ≤ src && src ≤ 4 then
    let t := getN h (Obj.H_TIMING (src - 1))
    some (getN h (at_ t Obj.TM_PIXEL_CLOCK) * 3 * getN h (Obj.H_OUT_DEPTH (src - 1)))
  else (streamOf src).bind (fun s => (mget? h.outputs.streams s).map (·.rate))

/-- R306: the time slots that a payload takes. -/
def slotsNeeded (h : Hub) (o pay : Nat) : Nat :=
  let cap := outPayload h o
  if cap == 0 then 65 else ceilDiv (pay * 64) cap

/-- R306: descending SL_PRIORITY, then ascending position. -/
def fitOrder (h : Hub) (o : Nat) : List Nat :=
  (List.range 8).reverse.flatMap (fun q => (slotsOf o).filter (fun p => getN h (at_ p Obj.SL_PRIORITY) == q))

/-- R306: whether an output uses a slot. -/
def slotUsed (h : Hub) (p : Nat) : Bool :=
  let o := outputOf p
  getN h (at_ p Obj.SL_SOURCE) != 0 && (p == 8 || p % 4 == 0 || getB h (Obj.OUT_MST o))

/-- The passthrough stream that a slot names, as the host sends it. -/
def streamAt (h : Hub) (p : Nat) : StreamAttrs :=
  mget h.outputs.streams { rate := 0 } ((streamOf (getN h (at_ p Obj.SL_SOURCE))).getD 0)

/-- R310: the lines that a slot has sent as black or fill since it starved or was last placed, by the duration of a line; of a stream whose
attributes give none, a free value. (DESIGN CHOICE, log 8) -/
def linesStarved (h : Hub) (p : Nat) : Nat :=
  match mget? h.outputs.starvedAt p with
  | none => 0
  | some t0 =>
    let t := (streamAt h p).lineNs
    if t == 0 then Config.freeNat h.fresh else (h.now - t0) / t

/-- R310: SL_STARVED_LINES. -/
def starvedLines (h : Hub) (p : Nat) : Nat := getN h (at_ p Obj.SL_STARVED_LINES) + linesStarved h p

/-- R310: a starved slot sends no more lines, for now: those it has sent stay counted. -/
def pauseStarved (h : Hub) (p : Nat) : Hub :=
  if (mget? h.outputs.starvedAt p).isNone then h
  else setOutputs (addN (tick h) (at_ p Obj.SL_STARVED_LINES) (linesStarved h p)) (fun x => { x with starvedAt := merase x.starvedAt p })

/-- R310: a slot is starved no longer. -/
def endStarved (h : Hub) (p : Nat) : Hub := setOutputs (pauseStarved h p) (fun x => { x with starved := x.starved.filter (· != p) })

/-- A slot has no placement. -/
def unplace (h : Hub) (p : Nat) : Hub :=
  setOutputs (pauseStarved h p) (fun x => { x with slots := merase x.slots p, payload := merase x.payload p })

/-- R309: the transmitter takes a passthrough stream's timing over as the host sends it, its Adaptive-Sync timing among it. -/
def sendTiming (h : Hub) (p : Nat) : Hub :=
  if (streamOf (getN h (at_ p Obj.SL_SOURCE))).isNone then h
  else
    let a := streamAt h p
    send h (.display (outputOf p) "timing" ([p, a.rate, a.lineNs] ++ (match a.adaptive with
      | some (lo, hi) => [lo, hi]
      | none => [])))

/-- R306, R309: place one stream if enough time slots remain; at each fit that does not, SLOT_DROPPED is set. (PRESUMED, log 33) -/
def placeSlot (h : Hub) (o p : Nat) : Hub :=
  match sourcePayload h p with
  | none => h
  | some pay =>
    let taken := (slotsOf o).flatMap (fun q => mget h.outputs.slots [] q)
    let all := timeSlots (getN h (Obj.LINK_RATE o))
    let free := ((List.range 64).reverse.take all).reverse.filter (fun i => !taken.contains i)
    let n := slotsNeeded h o pay
    if n ≤ free.length then
      let h := setOutputs h (fun x => { x with
        slots := mset x.slots p (free.take n)
        payload := mset x.payload p pay
        dropped := x.dropped.filter (· != p)
        starvedAt := if x.starved.contains p then mset x.starvedAt p h.now else x.starvedAt })
      sendTiming h p
    else setFlag (setOutputs h (fun x => { x with dropped := insertNew x.dropped p })) (Obj.SLOT_DROPPED o)

/-- R306: a fit of an output: streams that stay placed keep their time slots; those whose payload changed give theirs up
first; the others are placed in order. (PRESUMED, log 33) -/
def fitOutput (h : Hub) (o : Nat) : Hub :=
  let up := getB h (Obj.OUT_ENABLE o) && getB h (Obj.SINK_PRESENT o) && getN h (Obj.LINK_RATE o) != 0 && inService h (outputUnit o)
  let keep (p : Nat) : Bool := up && slotUsed h p && sourcePayload h p == mget? h.outputs.payload p
  let h := forEach (slotsOf o) h (fun h p => if keep p then h else unplace h p)
  let h := forEach (slotsOf o) h (fun h p => if up && slotUsed h p && (sourcePayload h p).isSome then h
    else setOutputs (endStarved h p) (fun x => { x with dropped := x.dropped.filter (· != p) }))
  if up then forEach ((fitOrder h o).filter (fun p => slotUsed h p && (mget? h.outputs.slots p).isNone)) h (fun h p => placeSlot h o p)
  else h

/-- R315: SL_STATE. -/
def slotState (h : Hub) (p : Nat) : Nat :=
  let o := outputOf p
  if !slotUsed h p || (sourcePayload h p).isNone then 0
  else if !getB h (Obj.SINK_PRESENT o) || getN h (Obj.LINK_RATE o) == 0 then 1
  else if h.outputs.dropped.contains p then 3
  else if h.outputs.starved.contains p then 4
  else if (mget? h.outputs.slots p).isSome then 2 else 1

/-- R315: SL_TIMESLOTS and SL_PAYLOAD. -/
def slotTimes (h : Hub) (p : Nat) : Nat := (mget h.outputs.slots [] p).length
def slotPayload (h : Hub) (p : Nat) : Nat := mget h.outputs.payload 0 p

/-- R311, R313: the host is told: for each passthrough adapter with a stream on the output, its notify and the bandwidth
that the heads leave. -/
def tellHost (h : Hub) (o : Nat) : Hub :=
  let heads := sumOf (fun p => if (streamOf (getN h (at_ p Obj.SL_SOURCE))).isSome then 0 else mget h.outputs.payload 0 p) (slotsOf o)
  forEach (slotsOf o) h (fun h p => match streamOf (getN h (at_ p Obj.SL_SOURCE)) with
    | some s => send h (.display o "host told" [s / 4, s % 4, if getB h (Obj.SINK_PRESENT o) then 1 else 0, outPayload h o - heads])
    | none => h)

/-- R304, R311: the highest rate and width that both ends support within OUT_MAX_RATE and OUT_MAX_LANES; 0 for none. -/
def bestRate (h : Hub) (o : Nat) (c : SinkCaps) : Nat :=
  ((Tab.laneRates (outLane o 0)).filter (fun r => decide (r ≤ c.maxRate) && decide (r ≤ getN h (Obj.OUT_MAX_RATE o)))).foldl max 0
def bestWidth (h : Hub) (o : Nat) (c : SinkCaps) : Nat := usableWidth h o (min c.maxLanes (getN h (Obj.OUT_MAX_LANES o)))

/-- R311: the rate and width at which training ends. -/
def trainable (h : Hub) (o rate lanes : Nat) : Bool := match mget? h.outputs.caps o with
  | none => false
  | some c => rate != 0 && lanes != 0 && rate == bestRate h o c && lanes == bestWidth h o c

/-- R312: a rate that a relink may take: one that both ends support within OUT_MAX_RATE. -/
def relinkRateOk (h : Hub) (o rate : Nat) (c : SinkCaps) : Bool :=
  (Tab.laneRates (outLane o 0)).contains rate && decide (rate ≤ bestRate h o c)

/-- R311: an AUX transaction of the hub's own towards a sink starts: none of its retries is used yet. -/
def auxStart (h : Hub) (o : Nat) : Hub := setOutputs h (fun x => { x with auxTries := merase x.auxTries o })

/-- R311, R419: training of an output starts, but for an output whose mux selects the other hub of a pair. -/
def startTraining (h : Hub) (o : Nat) : Hub :=
  let h := auxStart (setOutputs h (fun x => { x with training := insertNew x.training o })) o
  if muxedAway h o then h else send h (.display o "train" [])

/-- R304: on adapters 20 to 22 training, AUX and hot-plug pass between the host and the sink unchanged, while the port is in alternate mode. -/
def altAux (h : Hub) (a : Nat) : Bool := 20 ≤ a && a ≤ 22 && getN h (Obj.LINK_MODE (a - 19)) == 8

/-- R304: what the hub passes on as it comes. -/
def altPass (h : Hub) (a : Nat) (what : String) (data : List Nat) : Hub := if altAux h a then send h (.display a what data) else h

/-- R308: a sink's capabilities: DSC, Adaptive-Sync, colour. -/
def capsOf (c : SinkCaps) : List Nat := [c.dsc.toNat, c.adaptiveSync.toNat, c.colour]

/-- R311, step 1, R388: a sink is plugged in, a pin event of PW52: capabilities read, training starts. -/
def hotPlug (h : Hub) (o : Nat) (c : SinkCaps) : Hub :=
  if 20 ≤ o then altPass h o "hot plug passed" ([c.maxRate, c.maxLanes] ++ capsOf c) else
  atPin h 52 (.hotPlug o c) (fun h =>
  if !inService h (outputUnit o) then h
  else
    let h := setFlag (setN h (Obj.SINK_PRESENT o) 1) (Obj.HOT_PLUG o)
    let h := auxStart (setOutputs h (fun x => { x with caps := mset x.caps o c })) o
    if getB h (Obj.OUT_ENABLE o) then startTraining h o else h)

/-- The link of an output is set, and with it PT_LINE_RATE of its Grate port: the rates of its lanes together; a rate that
falls takes effect after the decreases it needs (R212). (DEDUCED, log 26) -/
def setOutLink (h : Hub) (o rate lanes : Nat) : Hub :=
  let h := setOutputs h (fun x => { x with relinking := x.relinking.filter (· != o) })
  let h := underAllotment h (21 + o) (fun h => setLineRate h (21 + o) (rate * lanes))
  let h := forEach (List.range 4) h (fun h i =>
    if i < lanes && rate != 0 then laneRun h (outLane o i) rate
    else laneUnlit h (outLane o i))
  setN (setN (setN h (Obj.LINK_RATE o) rate) (Obj.LINK_LANES o) (if rate == 0 then 0 else lanes)) (Obj.LINK_CODING o) (linkCoding rate)

/-- Every placement of an output is given up, since the link it was made for is gone. -/
def unplaceAll (h : Hub) (o : Nat) : Hub := forEach (slotsOf o) h unplace

/-- R311, step 2: training done: a fit runs and the host is told. (DEDUCED, log 47) R419: a standby does not train a
twin-switched output: it sends at the active's rate and width. (DEDUCED, log 38) -/
def trainingDone (h : Hub) (o rate lanes : Nat) : Hub :=
  if 20 ≤ o then altPass h o "training passed" [rate, lanes] else
  if !h.outputs.training.contains o || !trainable h o rate lanes || !domOn h 52
    || (muxedAway h o && !h.twin.peer.any (fun r => r.links.contains (o, rate, lanes))) then h
  else
    let h := setOutputs h (fun x => { x with training := x.training.filter (· != o) })
    let h := setOutLink (unplaceAll h o) o rate lanes
    tellHost (fitOutput (whenH (!muxedAway h o) h (fun h => bump h (Obj.TRAININGS o))) o) o

/-- R311, step 3: the sink is unplugged. -/
def hotUnplug (h : Hub) (o : Nat) : Hub :=
  if 20 ≤ o then altPass h o "hot unplug passed" [] else
  if !domOn h 52 then { h with pins := h.pins ++ [(52, .hotUnplug o)] } else
  if !getB h (Obj.SINK_PRESENT o) then h
  else
    let h := setFlag (setN h (Obj.SINK_PRESENT o) 0) (Obj.HOT_PLUG o)
    let h := setOutputs (unplaceAll h o) (fun x => { x with
      caps := merase x.caps o, training := x.training.filter (· != o) })
    tellHost (fitOutput (setOutLink h o 0 0) o) o

/-- R312: a relink of a trained output starts: its streams pause until it has ended. -/
def startRelink (h : Hub) (o : Nat) : Hub :=
  if getN h (Obj.LINK_RATE o) == 0 then h
  else send (setOutputs (forEach (slotsOf o) (auxStart h o) pauseStarved) (fun x => { x with relinking := insertNew x.relinking o })) (.display o "relink" [])

/-- R312, R366: a lane of an output is mapped out, or taken from it. -/
def outLaneLost (h : Hub) (l : Nat) : Hub := if 8 ≤ l && l < 20 then startRelink h ((l - 8) / 4) else h

/-- R312: a relink: the hub retrains at the widest width whose lanes are in service and fits again. An output whose lane 0
is out carries no stream. R313: of a head's stream that is lost with it nobody is told, so SLOT_DROPPED is set. -/
def relink (h : Hub) (o rate : Nat) : Hub :=
  if getN h (Obj.LINK_RATE o) == 0 then h
  else
    let c := mget h.outputs.caps { maxRate := 0, maxLanes := 0 } o
    let w := bestWidth h o c
    let r := if w == 0 || !relinkRateOk h o rate c then 0 else rate
    let h := bump (setFlag h (Obj.RELINKED o)) (Obj.RELINKS o)
    let heads := (slotsOf o).filter (fun p => (mget? h.outputs.slots p).isSome && (streamOf (getN h (at_ p Obj.SL_SOURCE))).isNone)
    let h := fitOutput (bump (setOutLink (unplaceAll h o) o r w) (Obj.TRAININGS o)) o
    let lost := heads.any (fun p => (mget? h.outputs.slots p).isNone && !h.outputs.dropped.contains p)
    tellHost (whenH lost h (fun h => setFlag h (Obj.SLOT_DROPPED o))) o

/-- R311, step 4: an HPD pulse: the sink's interrupt vector is read: a link status failure starts a relink, other interrupts go to the host, on
each adapter that has a stream on the output. -/
def hpdIrq (h : Hub) (o : Nat) (v : IrqVector) : Hub :=
  if 20 ≤ o then altPass h o "irq passed" [v.linkFailure.toNat, v.others.toNat]
  else if !domOn h 52 then { h with pins := h.pins ++ [(52, .hpdIrq o v)] }
  else if !getB h (Obj.SINK_PRESENT o) then h
  else
    let h := auxStart h o
    let h := if v.linkFailure then startRelink h o else h
    let adapters := ((slotsOf o).filterMap (fun p => (streamOf (getN h (at_ p Obj.SL_SOURCE))).map (· / 4))).eraseDups
    if v.others then forEach adapters h (fun h a => send h (.display o "irq" [a])) else h

/-- R308: the slot that carries a stream, if any. -/
def slotOfStream (h : Hub) (s : Nat) : Option Nat := (List.range 9).find? (fun p => streamOf (getN h (at_ p Obj.SL_SOURCE)) == some s)

/-- R308: the branch ports of an adapter that a slot maps, as a mask: the others report themselves disconnected. -/
def mappedPorts (h : Hub) (adapter : Nat) : Nat :=
  sumOf (fun n => if (slotOfStream h (adapter * 4 + n)).isSome then 2 ^ n else 0) (List.range 4)

/-- R308: what the sink behind the slot of a stream reports; none while the stream has no slot or the slot no sink. -/
def sinkBehind (h : Hub) (s : Nat) : Option SinkCaps :=
  (slotOfStream h s).bind (fun p => if getB h (Obj.SINK_PRESENT (outputOf p)) then mget? h.outputs.caps (outputOf p) else none)

/-- R308: what a branch port presents: DSC, Adaptive-Sync and colour of the sink behind the slot of its stream, absent while it has none. -/
def portCaps (h : Hub) (adapter n : Nat) : List Nat := ((sinkBehind h (adapter * 4 + n)).map capsOf).getD [0, 0, 0]

/-- R308, R304: a byte of the hub's own DPCD: whether the adapter is a branch device, its ports and the Adaptive-Sync of the sink behind
stream 0, MST, DSC, the colour capability of each port, Panel Self Refresh and Panel Replay, at the addresses that DisplayPort gives them; every
other byte is a free value. (PRESUMED, log 33; DESIGN CHOICE, log 8) -/
def dpcdByte (h : Hub) (a addr : Nat) : Nat :=
  let c := sinkBehind h (a * 4)
  let branch := a == 9 || a == 10
  match addr with
  | 0x005 => branch.toNat * 0x11
  | 0x007 => (if branch then 4 else 0) + (if c.any (·.adaptiveSync) then 0x40 else 0)
  | 0x021 => branch.toNat
  | 0x060 => (c.any (·.dsc)).toNat
  | 0x070 => 0
  | 0x0B0 => 0
  | 0x082 | 0x086 | 0x08A | 0x08E => nth (portCaps h a ((addr - 0x082) / 4)) 2 0 % 256
  | _ => Config.freeNat h.fresh % 256

/-- The words of an AUX transaction that passes unchanged. -/
def auxWords : AuxKind → List Nat
  | .nativeRead a => [0, a]
  | .nativeWrite => [1]
  | .i2c n => [2, n]
  | .remoteDpcd n => [3, n]
  | .remoteI2c n => [4, n]

/-- R308, R311: an AUX transaction of the host on an adapter: native ones are answered from the hub's own DPCD, with which goes what its ports
present; the others go to the sink behind the stream's slot, or are answered with a NAK. On adapters 20 to 22 every one passes to the sink as
it is, while the port is in alternate mode. -/
def auxRequest (h : Hub) (adapter : Nat) (k : AuxKind) : Hub :=
  let fwd (n kind : Nat) : Hub :=
    match slotOfStream h (adapter * 4 + n) with
    | none => send h (.display 9 "aux nak" [adapter, n])
    | some p =>
      let o := outputOf p
      if getB h (Obj.SINK_PRESENT o) then send (auxStart h o) (.display o "aux forwarded" [adapter, n, kind])
      else send h (.display o "aux nak" [adapter, n])
  if 20 ≤ adapter then altPass h adapter "aux passed" (auxWords k)
  else if !(9 ≤ adapter && adapter ≤ 11) then h
  else match k with
    | .nativeRead a =>
      send (tick h) (.display 9 "aux dpcd" ([adapter, mappedPorts h adapter, a, dpcdByte h adapter a] ++ (List.range 4).flatMap (portCaps h adapter)))
    | .nativeWrite => send h (.display 9 "aux ack" [adapter])
    | .i2c n => fwd n 0
    | .remoteDpcd n => fwd n 1
    | .remoteI2c n => fwd n 2

/-- R311: an AUX transaction towards a sink times out: counted, and retried up to 7 times. -/
def auxTimeout (h : Hub) (o : Nat) : Hub :=
  let n := mget h.outputs.auxTries 0 o
  let h := bump h (Obj.AUX_TIMEOUTS o)
  if n < 7 then send (setOutputs h (fun x => { x with auxTries := mset x.auxTries o (n + 1) })) (.display o "aux retry" [n + 1])
  else setOutputs h (fun x => { x with auxTries := merase x.auxTries o })

/-- R310: a placed passthrough stream's buffer empties: the transmitter goes on with its timing, black lines or, of a compressed stream,
fill in its time slots. -/
def streamStarved (h : Hub) (p : Nat) : Hub :=
  if slotState h p == 2 && (streamOf (getN h (at_ p Obj.SL_SOURCE))).isSome then
    send (setOutputs h (fun x => { x with starved := insertNew x.starved p, starvedAt := mset x.starvedAt p h.now }))
      (.display (outputOf p) (if (streamAt h p).compressed then "fill" else "black") [p])
  else h

/-- R310: data returned, and the stream's next frame starts. -/
def streamResume (h : Hub) (p : Nat) : Hub := if h.outputs.starved.contains p then endStarved h p else h

/-- R310: a stream absent for longer than STREAM_HOLD is ended; its time slots carry idle, until a fit of the output gives them to
another stream. (DEDUCED, log 33) -/
def streamHoldExpiry (h : Hub) (p : Nat) : Hub :=
  if h.outputs.starved.contains p then
    let s := (streamOf (getN h (at_ p Obj.SL_SOURCE))).getD 0
    let h := setOutputs (endStarved h p) (fun x => { x with streams := merase x.streams s })
    send (bump h (at_ p Obj.SL_ENDS)) (.display (outputOf p) "idle" [p])
  else h

/-- R310, R306, R309: the host sends a passthrough stream; the output of its slot is fitted, and takes its timing over as it is, when it is
placed, or at once if it keeps its time slots. -/
def streamStart (h : Hub) (adapter n : Nat) (a : StreamAttrs) : Hub :=
  let s := adapter * 4 + n
  match slotOfStream h s with
  | some p =>
    let starts := (mget? h.outputs.starvedAt p).isSome
    let h := pauseStarved h p
    let h := setOutputs h (fun x => { x with
      streams := mset x.streams s a
      starvedAt := if starts then mset x.starvedAt p h.now else x.starvedAt })
    let kept := (mget? h.outputs.slots p).isSome && sourcePayload h p == mget? h.outputs.payload p
    let h := fitOutput h (outputOf p)
    if kept && (mget? h.outputs.slots p).isSome then sendTiming h p else h
  | none => setOutputs h (fun x => { x with streams := mset x.streams s a })

/-- R305, R309, R312: what the Grate delivers at GP21 to GP23: the cells of a head whose slot is on that output, and the data of the streams
of an adapter, which leaves unchanged in the time slots of the stream's slot, on whichever output that is. A stream without a
placed slot, or of an output that relinks, is discarded: the manual names no counter for it, so the frame counts with those that the unit of
the port could not take. (DEDUCED, log 33; DESIGN CHOICE, log 25) -/
def displayTakes (h : Hub) (port : Nat) (f : GFrame) : Hub :=
  let head := 17 ≤ f.firstPort && f.firstPort ≤ 20
  let slot := if head then (slotsOf (port - 21)).find? (fun p => getN h (at_ p Obj.SL_SOURCE) == f.firstPort - 16)
    else slotOfStream h ((port - 12) * 4 + f.frame.dpStream)
  match slot.filter (fun p => slotState h p == 2 && !h.outputs.relinking.contains (outputOf p)) with
  | some p => send h (.egress (21 + outputOf p) { fromOutside f.frame with dpStream := p } none)
  | none => unitAsh h port f.cells

/-- R315: the refusals of a slot COMMIT: `h'` holds the staged values. -/
def slotCheck (h' : Hub) (p : Nat) : Option Abort :=
  let src := getN h' (at_ p Obj.SL_SOURCE)
  let o := outputOf p
  let head := decide (1 ≤ src) && decide (src ≤ 4)
  if src != 0 && (List.range 9).any (fun q => q != p && getN h' (at_ q Obj.SL_SOURCE) == src) then some (.table 0x80)
  else if p != 8 && p % 4 != 0 && !getB h' (Obj.OUT_MST o) then some (.table 0x81)
  else if head && o == 2 && getN h' (Obj.H_OUT_DEPTH (src - 1)) == 12 then some (.table 0x82)
  else if head && !h'.part.has (headUnit (src - 1)) then some (.table 0x83)
  else none

/-- R315: a slot COMMIT is followed by a fit; a slot whose source changed gives up its time slots, and nothing of the old one stays. -/
def slotApply (h h' : Hub) (p : Nat) : Except Abort Hub :=
  match slotCheck h' p with
  | some a => .error a
  | none =>
    let lines := linesStarved h p
    let gone (x : Hub) : Hub :=
      let x := setOutputs (addN x (at_ p Obj.SL_STARVED_LINES) lines) (fun y => { y with
        dropped := y.dropped.filter (· != p), starved := y.starved.filter (· != p), starvedAt := merase y.starvedAt p })
      unplace x p
    let h' := if getN h (at_ p Obj.SL_SOURCE) != getN h' (at_ p Obj.SL_SOURCE) then gone h' else h'
    .ok (fitOutput h' (outputOf p))

/-- R313: the outputs whose slots name a head. -/
def outputsOfHead (h : Hub) (hd : Nat) : List Nat :=
  ((List.range 9).filter (fun p => getN h (at_ p Obj.SL_SOURCE) == hd + 1)).map outputOf

/-- R313: an object that decides a head's payload changed: fit. -/
def fitHead (h : Hub) (hd : Nat) : Hub := forEach (outputsOfHead h hd) h fitOutput

/-- R197, R313: a bandwidth allocation request concerns the outputs of the adapter's streams. -/
def fitAdapter (h : Hub) (a : Nat) : Hub :=
  forEach ((List.range 9).filter (fun p => match streamOf (getN h (at_ p Obj.SL_SOURCE)) with
    | some s => s / 4 == a
    | none => false)) h (fun h p => tellHost (fitOutput h (outputOf p)) (outputOf p))

end Sys2Proof.Machine
end

