-- ==== Sys2Proof/Machine/Heads.lean ====
section
/-! DEFINITION. The display heads (R276-R303): raster, frame ends, row fetches, the pixel stages, underrun, and the objects
with an effect of their own. -/

namespace Sys2Proof.Machine

def headOfHub (h : Hub) (hd : Nat) : Head := mget h.heads {} hd
def putHead (h : Hub) (hd : Nat) (x : Head) : Hub := { h with heads := mset h.heads hd x }
def updHead (h : Hub) (hd : Nat) (f : Head → Head) : Hub := putHead h hd (f (headOfHub h hd))

/-! Timing (R280) -/

def tim (h : Hub) (hd k : Nat) : Nat := getN h (at_ (getN h (Obj.H_TIMING hd)) k)

/-- R280, R282: active lines, end of the programmed front porch, and V_total of a head's entry. -/
def vActive (h : Hub) (hd : Nat) : Nat := tim h hd Obj.TM_V_ACTIVE
def porchEnd (h : Hub) (hd : Nat) : Nat := vActive h hd + tim h hd Obj.TM_V_FRONT
def vTotal (h : Hub) (hd : Nat) : Nat := porchEnd h hd + tim h hd Obj.TM_V_SYNC + tim h hd Obj.TM_V_BACK

/-- R282: the limit of an extended frame. -/
def vLimit (h : Hub) (hd : Nat) : Nat :=
  let m := tim h hd Obj.TM_V_TOTAL_MAX
  if m == 0 then vTotal h hd else m

/-- R282: the head feeds eDP-C. -/
def feedsC (h : Hub) (hd : Nat) : Bool := getN h (at_ 8 Obj.SL_SOURCE) == hd + 1

/-! Pixel stages (R276) -/

/-- R289: stage 2. -/
def widen (model d plane x : Nat) : Nat :=
  if d == 12 then x
  else if (model == 3 || model == 4) && plane < 3 then x * 2 ^ (12 - d)
  else (x * 2 ^ (12 - d)) ||| (x / 2 ^ (2 * d - 12))

/-- A sample of a fetched plane, by row in the fetched tile row and column; coordinates outside take the nearest. Chroma that came
with the row before widens from its own depth (R289). -/
def fetched (r : FetchedRow) (p row col : Nat) : Nat :=
  let rows := nth r.planes p []
  let line := nth rows (min row (rows.length - 1)) []
  widen r.model (if p == 1 || p == 2 then r.chromaDepth.getD r.depth else r.depth) p (nth line (min col (line.length - 1)) 0)

/-- R290: a chroma sample at source column `sx` and line `sy`: vertical filter for 4:2:0, then horizontal. -/
def chromaAt (r : FetchedRow) (p sx sy : Nat) : Nat :=
  let v (c : Nat) : Nat :=
    if r.chroma == 2 then
      let y := (sy - r.srcY - 16 * (r.k - r.k % 2)) / 2
      let near := if sy % 2 == 0 then y - 1 else y + 1
      (3 * fetched r p y c + fetched r p near c + 2) / 4
    else fetched r p (sy - r.srcY - 16 * r.k) c
  if r.chroma == 0 then v sx
  else if sx % 2 == 0 then v (sx / 2)
  else (v (sx / 2) + v (sx / 2 + 1) + 1) / 2

/-- Table 15.4. -/
def presetMatrix (p : Nat) : List Int :=
  match p with
  | 1 => [4787, 0, 6561, 4787, -1611, -3342, 4787, 8293, 0, -3580, 2177, -4446]
  | 2 => [4787, 0, 7370, 4787, -877, -2191, 4787, 8684, 0, -3984, 1235, -4641]
  | 3 => [4787, 0, 6901, 4787, -770, -2674, 4787, 8805, 0, -3750, 1423, -4702]
  | _ => [4096, 0, 0, 0, 4096, 0, 0, 0, 4096, 0, 0, 0]

/-- R301: the coefficients that L_MATRIX holds. -/
def matrixOf (bs : List Byte) : List Int :=
  (List.range 12).map (fun i => (BitVec.ofNat 16 (leNat ((bs.drop (2 * i)).take 2))).toInt)

/-- R291: stage 4 for output channel i. -/
def matrixOut (m : List Int) (i : Nat) (a b c : Nat) : Nat :=
  let k (j : Nat) : Int := (m[3 * i + j]?).getD 0
  let sum := k 0 * a + k 1 * b + k 2 * c + 2048
  (min (max (sum / 4096 + (m[9 + i]?).getD 0) 0) 4095).toNat

/-- R292: stage 5. -/
def coverage (r : FetchedRow) (sx row : Nat) : Nat :=
  if r.alphaMode == 1 && (r.model == 2 || r.model == 4) then
    let x := fetched r 3 row sx
    ((x + x / 2048) * r.alpha + 2048) / 4096
  else r.alpha

/-- R292: stage 6 of one channel. -/
def blend (a src dst : Nat) : Nat := (a * src + (4096 - a) * dst + 2048) / 4096

/-- The layer's pixel at an output position: its coverage and colour. -/
def layerPixel (r : FetchedRow) (x y : Nat) : Nat × Nat × Nat × Nat :=
  let sx := r.srcX + (x - r.dstX)
  let sy := r.srcY + (y - r.dstY)
  let row := y - r.dstY - 16 * r.k
  let p0 := fetched r 0 row sx
  let ycc := r.model == 3 || r.model == 4
  let in1 := if r.model == 0 then p0 else if ycc then chromaAt r 1 sx sy else fetched r 1 row sx
  let in2 := if r.model == 0 then p0 else if ycc then chromaAt r 2 sx sy else fetched r 2 row sx
  (coverage r sx row, matrixOut r.matrix 0 p0 in1 in2, matrixOut r.matrix 1 p0 in1 in2, matrixOut r.matrix 2 p0 in1 in2)

/-- R283: the values of a head's own objects at a line's start. -/
def headRegs (h : Hub) (hd : Nat) : HeadRegs where
  background := getBytes h (Obj.H_BACKGROUND hd)
  bypass := getB h (Obj.H_LUT_BYPASS hd)
  depth := getN h (Obj.H_OUT_DEPTH hd)
  dither := getN h (Obj.H_DITHER hd)
  lut := h.dict.filter (fun x => x.1 % 0x1000000 == Obj.LUT_VALUE hd)

/-- R293: entry i of channel c; every entry defaults to 4i. -/
def lutEntry (r : HeadRegs) (hd c i : Nat) : Nat :=
  ((mget? r.lut (at_ (1025 * c + i) (Obj.LUT_VALUE hd))).map (fun v => v.toInt.toNat)).getD (4 * i)

/-- R293: stage 7 of channel c. -/
def gammaOut (r : HeadRegs) (hd c v : Nat) : Nat :=
  let t (i : Nat) : Nat := lutEntry r hd c i
  let i := v / 4
  let f := v % 4
  min ((t i * (4 - f) + t (i + 1) * f + 2) / 4) 4095

/-- R294: the ordered thresholds. -/
def bayer (x y : Nat) : Nat := nth [0, 8, 2, 10, 12, 4, 14, 6, 3, 11, 1, 9, 15, 7, 13, 5] (4 * (y % 4) + x % 4) 0

/-- R294: stage 8. -/
def reduceOut (depth dither x y v : Nat) : Nat :=
  if depth == 12 then v
  else
    let n := 12 - depth
    let add := if dither == 0 then 2 ^ n / 2 else bayer x y * 2 ^ n / 16
    min ((v + add) / 2 ^ n) (2 ^ depth - 1)

/-- The fetched row of a layer that covers an output line. -/
def rowFor (x : Head) (l y : Nat) : Option FetchedRow :=
  if x.off.contains l then none
  else (x.rows.filter (fun r => !r.next && !r.pending && r.layer == l && decide (r.dstY + 16 * r.k ≤ y) && decide (y < r.dstY + 16 * r.k + 16)
    && decide (y < r.dstY + r.height))).getLast?

/-- R276: one pixel of an active line. -/
def pixelOut (h : Hub) (hd x y : Nat) : List Nat :=
  let regs := (headOfHub h hd).regs
  let bg := regs.background
  let base := (leNat (bg.take 2), leNat ((bg.drop 2).take 2), leNat ((bg.drop 4).take 2))
  let (r, g, b) := (List.range 4).foldl (fun (acc : Nat × Nat × Nat) l =>
    match rowFor (headOfHub h hd) l y with
    | some row =>
      if row.dstX ≤ x && x < row.dstX + row.width then
        let (a, sr, sg, sb) := layerPixel row x y
        (blend a sr acc.1, blend a sg acc.2.1, blend a sb acc.2.2)
      else acc
    | none => acc) base
  let gam (c v : Nat) : Nat := if regs.bypass then v else gammaOut regs hd c v
  let out (c v : Nat) : Nat := reduceOut regs.depth regs.dither x y (gam c v)
  [out 0 r, out 1 g, out 2 b]

/-- R276: an active line as the head hands it on. -/
def lineOut (h : Hub) (hd y : Nat) : List Nat := (List.range (tim h hd Obj.TM_H_ACTIVE)).flatMap (fun x => pixelOut h hd x y)

/-- R305, R306, R312: an active line goes from the head's Grate port to that of the output whose slot names the head, while the stream is placed
there; it is discarded otherwise, and by an output that relinks. -/
def sendLine (h : Hub) (hd y : Nat) : Hub :=
  match (List.range 9).find? (fun p => getN h (at_ p Obj.SL_SOURCE) == hd + 1) with
  | some p =>
    let line := lineOut h hd y
    if slotState h p != 2 then h
    else match crossGrate h (17 + hd) (21 + outputOf p) (2 * line.length) with
      | (true, h) =>
        if h.outputs.relinking.contains (outputOf p) then unitAsh h (21 + outputOf p) (ceilDiv (2 * line.length) 256)
        else send h (.display (outputOf p) "line" (hd :: y :: line))
      | (false, h) => h
  | none => h

/-! Row fetches (R284-R288) -/

/-- R286: the sampled values of a layer are in order. -/
def layerOk (h : Hub) (hd l : Nat) : Bool :=
  let v (k : Nat → Nat → Nat) : Nat := getN h (k hd l)
  let s := v Obj.L_SURFACE
  let x := shapeOf h s
  let sub := (x.model == 3 || x.model == 4) && x.chroma != 0
  surfaceState h s == 1
  && decide (v Obj.L_SRC_X + v Obj.L_WIDTH ≤ x.width) && decide (v Obj.L_SRC_Y + v Obj.L_HEIGHT ≤ x.height)
  && decide (v Obj.L_DST_X + v Obj.L_WIDTH ≤ tim h hd Obj.TM_H_ACTIVE) && decide (v Obj.L_DST_Y + v Obj.L_HEIGHT ≤ vActive h hd)
  && v Obj.L_SRC_Y % (if sub && x.chroma == 2 then 32 else 16) == 0
  && !(sub && v Obj.L_SRC_X % 2 == 1)

/-- R284: the tile row of a plane that layer row k takes, none where an odd row of 4:2:0 takes none. -/
def tileRowFor (x : SurfaceShape) (srcY k p : Nat) : Option Nat :=
  if isChroma x p && x.chroma == 2 then (if k % 2 == 0 then some (srcY / 32 + k / 2) else none)
  else some (srcY / 16 + k)

/-- R284: the first and the last tile of a plane's row that a fetch decodes: those that cover its columns, for subsampled chroma with
one further column on each side. -/
def tileSpan (x : SurfaceShape) (p srcX width : Nat) : Nat × Nat :=
  if isChroma x p && x.chroma != 0 then
    ((srcX / 2 - 1) / 16, min (planeW x p - 1) ((srcX + width - 1) / 2 + 1) / 16)
  else (srcX / 16, (srcX + width - 1) / 16)

def tilesFetched (x : SurfaceShape) (p srcX width : Nat) : Nat :=
  let s := tileSpan x p srcX width
  s.2 - s.1 + 1

/-- R251, R24: the samples of one tile row of a plane as a head reads it: up to 16 rows of the plane's columns, those of the tiles that
the fetch takes. -/
def tileRowSamples (m : List Host.Cell) (h : Hub) (hd : Nat) (ecc : List EccError) (s p row : Nat) (span : Nat × Nat) :
    List (List Nat) × Hub :=
  let x := shapeOf h s
  let w := tilesW x p
  let (tiles, h) := (List.range w).foldl (fun (a : List (List Nat) × Hub) t =>
    if span.1 ≤ t ∧ t ≤ span.2 then
      let (xs, h) := headTile m a.2 hd ecc s p (row * w + t)
      (a.1 ++ [xs], h)
    else (a.1 ++ [List.replicate 256 0], a.2)) ([], h)
  ((List.range (min 16 (planeH x p - 16 * row))).map (fun i => (tiles.flatMap (fun t => (t.drop (16 * i)).take 16)).take (planeW x p)), h)

/-- R284: the row fetched before an odd row of 4:2:0, whose chroma it takes. -/
def rowBefore (h : Hub) (hd : Nat) (r : FetchedRow) : Option FetchedRow :=
  (headOfHub h hd).rows.reverse.find? (fun o => o.layer == r.layer && o.k + 1 == r.k && o.next == r.next && !o.pending && o.chroma == 2)

/-- R284: the chroma rows that an odd row of 4:2:0 takes: those fetched with the row before it, of whichever surface that was. Where
none were, the manual states no value: free values. (DESIGN CHOICE, log 8) -/
def oddChroma (h : Hub) (hd : Nat) (r : FetchedRow) (p : Nat) : List (List Nat) × Hub :=
  match rowBefore h hd r with
  | some o => (nth o.planes p [], h)
  | none =>
    let w := planeW (shapeOf h r.surface) p
    ((List.range 16).map (fun i => (List.range w).map (fun j => Config.freeNat (h.fresh + i * w + j) % 2 ^ r.depth)), ticks h (16 * w))

/-- R284, R285: a row's planes are read. -/
def readPlanes (m : List Host.Cell) (h : Hub) (hd : Nat) (ecc : List EccError) (r : FetchedRow) : FetchedRow × Hub :=
  let x := shapeOf h r.surface
  let (ps, h) := (List.range (planesOf x.model)).foldl (fun (a : List (List (List Nat)) × Hub) p =>
    let (q, h) := match tileRowFor x r.srcY r.k p with
      | some row => tileRowSamples m a.2 hd ecc r.surface p row (tileSpan x p r.srcX r.width)
      | none => oddChroma a.2 hd r p
    (a.1 ++ [q], h)) ([], h)
  let odd := r.chroma == 2 && r.k % 2 == 1
  let depth := if odd then (rowBefore h hd r).map (fun o => o.chromaDepth.getD o.depth) else none
  ({ r with planes := ps, pending := false, chromaDepth := depth }, h)

/-- R42, R449: the reads of a fetched row, once the bank groups that they ask for are awake; the Guard judges each of them once. -/
def readRow (m : List Host.Cell) (h : Hub) (hd : Nat) (ecc : List EccError) (r : FetchedRow) : Hub :=
  let work (h : Hub) : Hub :=
    let (r', h) := readPlanes m h hd ecc r
    updHead h hd (fun x => { x with rows := x.rows.map (fun y => if y == r then { r' with passes := [] } else y) })
  let (ps, h) := judgeWork h r.passes work
  let asleep := sleepingFor h ps
  if asleep.isEmpty then runJudged h ps work
  else wakeGroups (updHead h hd (fun x => { x with rows := x.rows.map (fun y => if y == r then { y with passes := ps } else y) })) asleep

/-- R285, R286, R288: a layer's row k is fetched at its fetch point, for this frame or the next. Reads that reach a sleeping bank group
wake it and wait (R42). -/
def fetchRow (m : List Host.Cell) (h : Hub) (hd : Nat) (ecc : List EccError) (l k : Nat) (next : Bool) : Hub :=
  let shown (x : Head) : Bool := if next then x.configErrorNext else x.configError
  if !layerOk h hd l then
    if shown (headOfHub h hd) then h
    else setFlag (updHead h hd (fun x => if next then { x with configErrorNext := true } else { x with configError := true }))
      (Obj.H_CONFIG_ERROR hd)
  else
    let v (f : Nat → Nat → Nat) : Nat := getN h (f hd l)
    let s := v Obj.L_SURFACE
    let x := shapeOf h s
    let held := (List.range (planesOf x.model)).filterMap (fun p => (tileRowFor x (v Obj.L_SRC_Y) k p).map (fun r => (s, p, r)))
    let pre := v Obj.L_MATRIX_PRESET
    let row : FetchedRow := {
      layer := l, k := k, next := next, surface := s, srcX := v Obj.L_SRC_X, srcY := v Obj.L_SRC_Y
      width := v Obj.L_WIDTH, height := v Obj.L_HEIGHT, dstX := v Obj.L_DST_X, dstY := v Obj.L_DST_Y
      alpha := v Obj.L_ALPHA, alphaMode := v Obj.L_ALPHA_MODE
      matrix := if pre == 4 then matrixOf (getBytes h (Obj.L_MATRIX hd l)) else presetMatrix pre
      model := x.model, depth := x.depth, chroma := if x.model == 3 || x.model == 4 then x.chroma else 0
      planes := [], held := held, pending := true }
    let n := sumOf (fun y => tilesFetched x y.2.1 (v Obj.L_SRC_X) (v Obj.L_WIDTH)) held
    let h := readRow m (updHead h hd (fun y => { y with rows := y.rows ++ [row], sources := y.sources ++ [(s, next)] })) hd ecc row
    let h := addN h (Obj.H_TILES_DECODED hd) n
    bump (setN (setN h (Obj.L_FETCH_SURFACE hd l) s) (Obj.L_FETCH_ROW hd l) k) (Obj.L_ROWS_FETCHED hd l)

/-- R42: reads of fetched rows whose bank groups have woken are done. -/
def resumeFetches (m : List Host.Cell) (h : Hub) : Hub :=
  forEach (List.range 4) h (fun h hd =>
    forEach ((headOfHub h hd).rows.filter (·.pending)) h (fun h r =>
      let (ecc, h) := metErrors h
      readRow m h hd ecc r))

/-- R284: the rows whose fetch point is the start of a line, with whether they belong to the next frame. -/
def fetchesAt (h : Hub) (hd l n total : Nat) : List (Nat × Bool) :=
  let dst := getN h (Obj.L_DST_Y hd l)
  (List.range (ceilDiv (getN h (Obj.L_HEIGHT hd l)) 16)).filterMap (fun k =>
    let a := dst + 16 * k
    if 8 ≤ a then (if a - 8 == n then some (k, false) else none)
    else if n == total + a - 8 then some (k, true) else none)

/-- R285: fetches at the start of line n. -/
def fetchLine (m : List Host.Cell) (h : Hub) (hd : Nat) (ecc : List EccError) (n : Nat) : Hub :=
  let total := vTotal h hd + (headOfHub h hd).ext
  forEach (List.range 4) h (fun h l =>
    if !getB h (Obj.L_ENABLE hd l) then h
    else forEach (fetchesAt h hd l n total) h (fun h f =>
      if (headOfHub h hd).off.contains l && !f.2 then h else fetchRow m h hd ecc l f.1 f.2))

/-- R288: the deadline of a plane of a fetched row. -/
def deadline (r : FetchedRow) (p : Nat) : Nat :=
  let chroma := r.chroma == 2 && (p == 1 || p == 2)
  r.dstY + 16 * r.k - (if chroma && decide (2 ≤ r.k) then 1 else 0)

/-- R288, R267: at a plane's deadline its tiles are decoded, and the head holds its row no longer. -/
def releaseDecoded (m : List Host.Cell) (h : Hub) (hd n : Nat) : Hub :=
  let due (r : FetchedRow) (y : Nat × Nat × Nat) : Bool := !r.next && deadline r y.2.1 == n
  if (headOfHub h hd).rows.any (fun r => r.held.any (due r)) then
    resumeLanes m (updHead h hd (fun x => { x with rows := x.rows.map (fun r => { r with held := r.held.filter (fun y => !due r y) }) }))
  else h

/-! Underrun (R295) -/

/-- R295: a layer is switched off from the line in progress, at whose start a deadline of plane `p` passed. The line goes out again as it
is without the layer. (DESIGN CHOICE, log 39) -/
def switchOff (m : List Host.Cell) (h : Hub) (hd l p : Nat) : Hub :=
  let x := headOfHub h hd
  let h := updHead h hd (fun x => { x with
    off := x.off ++ [l]
    rows := x.rows.map (fun r => if r.layer == l && !r.next then { r with held := [], pending := false, passes := [] } else r) })
  let h := if x.line < vActive h hd then sendLine h hd x.line else h
  let h := bump (bump (setFlag h (Obj.H_UNDERRUN hd)) (Obj.H_UNDERRUNS hd)) (Obj.L_UNDERRUNS hd l)
  let h := setN (setN (setN h (Obj.UR_LAYER hd) l) (Obj.UR_PLANE hd) p) (Obj.UR_LINE hd) x.line
  let h := setN (setN h (Obj.UR_FRAME hd) (getN h (Obj.H_FRAME hd))) (Obj.UR_TIME hd) h.net
  let h := setN h (Obj.UR_SEQ hd) (getN h (Obj.H_UNDERRUNS hd))
  -- R420: in Lockstep the lines of the two hubs now differ for the rest of the frame
  let h := whenH (getN h Obj.TW_STATE == 4) h (fun h => bump h Obj.TW_DIVERGENCES)
  later (resumeLanes m h) (.flare .underrun)

/-- R288: a deadline of plane `p` of a row of the layer was the start of the line in progress. -/
def deadlineNow (x : Head) (l p : Nat) : Bool :=
  x.rows.any (fun r => r.layer == l && !r.next && decide (p < r.planes.length) && deadline r p == x.line
    && !(r.chroma == 2 && (p == 1 || p == 2) && r.k % 2 == 1))

/-- R295: a tile of plane `p` is not decoded at its row's deadline, the start of the line in progress. -/
def layerUnderrun (m : List Host.Cell) (h : Hub) (hd l p : Nat) : Hub :=
  let x := headOfHub h hd
  if !x.running || x.off.contains l || !deadlineNow x l p then h else switchOff m h hd l p

/-- R295: rows whose reads still wait at the deadline of one of their planes; the record names the first such plane. -/
def missedReads (m : List Host.Cell) (h : Hub) (hd n : Nat) : Hub :=
  let late (r : FetchedRow) : Option (Nat × Nat) :=
    if r.pending && !r.next then (r.held.find? (fun y => deadline r y.2.1 == n)).map (fun y => (r.layer, y.2.1)) else none
  forEach ((headOfHub h hd).rows.filterMap late) h (fun h x =>
    if (headOfHub h hd).off.contains x.1 then h else switchOff m h hd x.1 x.2)

/-! The raster (R280, R282, R298) -/

/-- R282: the sync mode takes effect at the front porch; a latched trigger does not carry over to another mode. -/
def enterPorch (h : Hub) (hd : Nat) : Hub :=
  let want := getN h (Obj.H_SYNC_MODE hd)
  let bad := want == 2 && !feedsC h hd
  let mode := if bad then 0 else want
  let h := if bad then setFlag h (Obj.H_CONFIG_ERROR hd) else h
  updHead h hd (fun x => { x with mode := mode, latched := x.latched && x.mode == mode, off := [] })

/-- R298, R297: the start of a line: frame events, the deferred frees, fetches, and the pixels of an active line. -/
def startLine (m : List Host.Cell) (h : Hub) (hd : Nat) (ecc : List EccError) (n : Nat) : Hub :=
  let regs := headRegs h hd
  let h := updHead h hd (fun x => { x with line := n, lineAt := h.net, regs := regs })
  let h := if n == 0 then
      let h := updHead h hd (fun x => { x with
        rows := (x.rows.filter (·.next)).map (fun r => { r with next := false })
        sources := (x.sources.filter (·.2)).map (fun r => (r.1, false))
        configError := x.configErrorNext, configErrorNext := false })
      let h := setFlag (bump (setN h (Obj.H_FRAME hd) ((getN h (Obj.H_FRAME hd) + 1) % 2 ^ 32)) (Obj.H_FRAMES hd)) (Obj.H_SOF hd)
      checkFrees h
    else h
  let h := if n == vActive h hd then enterPorch (setFlag h (Obj.H_SOB hd)) hd else h
  let h := if n == getN h (Obj.H_LINE_MATCH hd) then setFlag h (Obj.H_LINE_MATCHED hd) else h
  let h := missedReads m (fetchLine m h hd ecc n) hd n
  let h := releaseDecoded m h hd n
  if n < vActive h hd then sendLine h hd n else h

/-- R280, R282: the head's next line starts. At the end of the front porch a trigger or the limit lets the sync start;
otherwise the porch is extended by a line. -/
def headLineStart (m : List Host.Cell) (h : Hub) (hd : Nat) (ecc : List EccError) : Hub :=
  let x := headOfHub h hd
  if !x.running || !inService h (headUnit hd) || !domOn h (36 + hd) then h
  else
    let n := x.line + 1
    if n == porchEnd h hd + x.ext && x.mode != 0 then
      if x.latched then startLine m (updHead h hd (fun y => { y with latched := false })) hd ecc n
      else if vTotal h hd + x.ext + 1 > vLimit h hd then startLine m (bump h (Obj.H_PRESENT_TIMEOUTS hd)) hd ecc n
      else startLine m (updHead h hd (fun y => { y with ext := y.ext + 1 })) hd ecc n
    else if n == vTotal h hd + x.ext then startLine m (updHead h hd (fun y => { y with ext := 0 })) hd ecc 0
    else startLine m h hd ecc n

/-- R283: the raster stops and the holds end; a disabled head has no current frame, and holds no surface (R297). -/
def stopHead (h : Hub) (hd : Nat) : Hub :=
  checkFrees (later (updHead h hd (fun x => { x with running := false, rows := [], sources := [], off := [], latched := false })) .lanesResume)

/-- R283: the raster restarts at the first line of vertical sync: every hold ends, and the sync mode stays what it was until the next
front porch. The surfaces of rows fetched for the current frame stay held (R297). -/
def restartHead (m : List Host.Cell) (h : Hub) (hd : Nat) : Hub :=
  if getB h (Obj.H_ENABLE hd) && inService h (headUnit hd) then
    let h := resumeLanes m (updHead h hd (fun x => { x with running := true, rows := [], off := [], ext := 0, latched := false }))
    let (ecc, h) := metErrors h
    startLine m h hd ecc (porchEnd h hd)
  else h

/-! Triggers -/

/-- R282: a trigger in the mode of the object, latched unless one is. -/
def trigger (h : Hub) (hd mode : Nat) : Hub :=
  if getN h (Obj.H_SYNC_MODE hd) == mode && (headOfHub h hd).running then updHead h hd (fun x => { x with latched := true }) else h

/-- R282: a write of 1 to H_PRESENT, and a rising edge at TE_C. -/
def present (h : Hub) (hd : Nat) : Hub := trigger h hd 1
def teEdge (h : Hub) : Hub := forEach (List.range 4) h (fun h hd => if feedsC h hd then trigger h hd 2 else h)

/-! Objects with an effect of their own -/

/-- R281: the pixel clocks of enabled heads. -/
def clockSum (h : Hub) : Nat := sumOf (fun hd => if getB h (Obj.H_ENABLE hd) then tim h hd Obj.TM_PIXEL_CLOCK else 0) (List.range 4)

/-- R281, R283: a write of H_ENABLE. -/
def writeEnable (m : List Host.Cell) (h : Hub) (hd v : Nat) : Except Abort Hub :=
  let h' := setN h (Obj.H_ENABLE hd) v
  if v == 1 then
    if clockSum h' > 6000000 then .error (.value 0x81) else .ok (restartHead m h' hd)
  else .ok (stopHead h' hd)

/-- R283, R313: a write of H_TIMING. -/
def writeTiming (m : List Host.Cell) (h : Hub) (hd v : Nat) : Hub :=
  fitHead (restartHead m (setN h (Obj.H_TIMING hd) v) hd) hd

/-- R297: a write of L_SURFACE. -/
def writeSurface (h : Hub) (hd l v : Nat) : Except Abort Hub :=
  if surfaceState h v != 1 then .error (.value 0x80) else .ok (checkFrees (setN h (Obj.L_SURFACE hd l) v))

/-- R281: a timing COMMIT: `h'` holds the staged values. -/
def timingApply (m : List Host.Cell) (h h' : Hub) (pos : Nat) : Except Abort Hub :=
  let t (k : Nat) : Nat := getN h' (at_ pos k)
  let total := t Obj.TM_V_ACTIVE + t Obj.TM_V_FRONT + t Obj.TM_V_SYNC + t Obj.TM_V_BACK
  let pc := t Obj.TM_PIXEL_CLOCK
  if decide (pc < 25000) || decide (pc > 2400000) || t Obj.TM_H_ACTIVE % 2 == 1 then .error (.table 0x80)
  else if decide (t Obj.TM_V_SYNC + t Obj.TM_V_BACK < 8) || t Obj.TM_V_FRONT == 0 then .error (.table 0x81)
  else if t Obj.TM_V_TOTAL_MAX != 0 && decide (t Obj.TM_V_TOTAL_MAX < total) then .error (.table 0x82)
  else if clockSum h' > 6000000 && clockSum h' > clockSum h then .error (.table 0x83)
  else
    let fields := (List.range 11).map (fun i => Obj.TM_PIXEL_CLOCK + i)
    let changed := fields.any (fun k => getN h (at_ pos k) != getN h' (at_ pos k))
    .ok (if changed then
        forEach ((List.range 4).filter (fun hd => getN h' (Obj.H_TIMING hd) == pos)) h' (fun h hd => fitHead (restartHead m h hd) hd)
      else h')

/-- R302: a format COMMIT. -/
def formatApply (h h' : Hub) (pos : Nat) : Except Abort Hub :=
  let f (x : Hub) (k : Nat) : Nat := getN x (at_ pos k)
  let ycc := f h' Obj.FD_MODEL == 3 || f h' Obj.FD_MODEL == 4
  let fields := [Obj.FD_VALID, Obj.FD_MODEL, Obj.FD_DEPTH, Obj.FD_CHROMA, Obj.FD_SOURCE]
  if !ycc && (f h' Obj.FD_CHROMA != 0 || f h' Obj.FD_SOURCE == 1) then .error (.table 0x80)
  else if fields.any (fun k => f h k != f h' k)
      && (List.range 256).any (fun s => surfaceState h s != 0 && getN h (at_ s Obj.SF_FORMAT) == pos) then .error (.table 0x81)
  else .ok h'

end Sys2Proof.Machine
end

