-- ==== Sys2Proof/Machine/Usb.lean ====
section
/-! DEFINITION. The USB hubs (R316-R332): ports, transaction translators, carve-outs, suspend and resume, resets, and the
control requests of the hub's own device. -/

namespace Sys2Proof.Machine

def setUsb (h : Hub) (f : Usb → Usb) : Hub := { h with usb := f h.usb }

/-- The USB 2.0 hub runs. -/
def usb2On (h : Hub) : Bool := inService h usb2HubUnit && domOn h 55

/-- R333: the USB 3.2 hub is enabled. -/
def usb3On (h : Hub) : Bool := getB h Obj.USB3_HUB_ENABLE

/-- R317, R333: a port that never reports a connection: port 7 of the BW-7720, or one that PORT_DISABLE names. -/
def portDead (h : Hub) (n : Nat) : Bool := (h.part == .bw7720 && n == 7) || bitOf (getN h Obj.PORT_DISABLE) (n - 1)

/-- R334: the objects of port n, at position n − 1. -/
def psKey (n k : Nat) : Nat := at_ (n - 1) k

/-- R316: the downstream ports that each hub reports: those of the USB 3.2 hub, and of the USB 2.0 hub with the device on port 8. -/
def hubPorts (usb3 : Bool) : List Nat := (List.range (if usb3 then 7 else 8)).map (· + 1)

/-! Carve-outs (R323) -/

/-- Table 17.2: an owner's minimum, none for a code that names nobody. -/
def ownerMin (o : Nat) : Option Nat :=
  if o == 0 then some 0
  else if o == 1 || o == 4 then some 1
  else if o == 2 || o == 3 then some 8
  else if o == 5 then some 6
  else if (0x11 ≤ o && o ≤ 0x17) || (0x21 ≤ o && o ≤ 0x27) then some 1
  else none

/-- R323: an owner is in use. -/
def ownerInUse (h : Hub) (o : Nat) : Bool :=
  if o == 1 then getN h Obj.USB2_STATE != 0
  else if 2 ≤ o && o ≤ 4 then usbUp h
  else if o == 5 then h.usb.alternate != 0
  else if 0x11 ≤ o && o ≤ 0x27 then
    let s := getN h (psKey (o % 16) Obj.PS_STATE)
    s == 1 || s == 2
  else false

/-- Units that an entry covers. -/
def carveRun (h : Hub) (p : Nat) : Nat × Nat :=
  if getN h (at_ p Obj.CV_OWNER) == 0 then (0, 0) else (getN h (at_ p Obj.CV_BASE), getN h (at_ p Obj.CV_UNITS))

def overlap (a b : Nat × Nat) : Bool := decide (a.1 < b.1 + b.2) && decide (b.1 < a.1 + a.2) && a.2 != 0 && b.2 != 0

/-- R323: the refusals of a carve-out COMMIT: `h'` holds the staged values. -/
def carveCheck (h h' : Hub) (p : Nat) : Option Abort :=
  let o := getN h' (at_ p Obj.CV_OWNER)
  let base := getN h' (at_ p Obj.CV_BASE)
  let n := getN h' (at_ p Obj.CV_UNITS)
  let others := (List.range 32).filter (· != p)
  if others.any (fun q => overlap (carveRun h' p) (carveRun h' q)) then some (.table 0x02)
  else if ownerInUse h (getN h (at_ p Obj.CV_OWNER)) || ownerInUse h o then some (.table 0x80)
  else if decide (base + n > 512) || (n != 0 && decide (n < (ownerMin o).getD 0)) then some (.table 0x81)
  else if o != 0 && others.any (fun q => getN h' (at_ q Obj.CV_OWNER) == o) then some (.table 0x82)
  else none

/-- R333: EPM_UNITS_FREE. -/
def epmFree (h : Hub) : Nat := 512 - sumOf (fun p => (carveRun h p).2) (List.range 32)

/-! Transaction translators (R319-R322) -/

def ttOf (h : Hub) (n : Nat) : List Split := mget h.usb.tt [] n

/-- R322: emptied periodic transactions that the TT of a port has started and still finishes: their buffers are not free. -/
def ttFinishing (h : Hub) (n : Nat) : List Split := (h.usb.finishing.filter (fun x => x.1 == n && decide (h.now < x.2.1))).map (·.2.2)

/-- R320: what names a transaction: its port, device, endpoint and, of a periodic one, its microframe. -/
def splitKey (n : Nat) (s : Split) : Nat × Nat × Nat × Nat := (n, s.device, s.endpoint, if s.periodic then s.microframe else 0)
def putTt (h : Hub) (n : Nat) (l : List Split) : Hub := setUsb h (fun u => { u with tt := if l.isEmpty then merase u.tt n else mset u.tt n l })

/-- R319: a TT has room for a start-split. -/
def ttRoom (h : Hub) (n : Nat) (s : Split) : Bool :=
  let buf := ttOf h n ++ ttFinishing h n
  if s.periodic then
    let per := buf.filter (·.periodic)
    let same := per.filter (fun x => x.microframe == s.microframe)
    if same.isEmpty then
      decide (((per.map (·.microframe)).eraseDups).length < min 8 (unitsOf h (0x20 + n))) && decide (s.bytes ≤ 188)
    else decide (same.length < 16) && decide (sumOf (·.bytes) same + s.bytes ≤ 188)
  else decide ((buf.filter (fun x => !x.periodic)).length < 4 * unitsOf h (0x10 + n)) && decide (s.bytes ≤ 64)

/-- R23: the hub that splits are addressed to, or the memory that buffers them, is isolated: they complete at once, with an error. -/
def splitIsolated (h : Hub) : Bool := outOfService h usb2HubUnit || outOfService h epmUnit

/-- R320: a start-split. -/
def startSplit (h : Hub) (n : Nat) (s : Split) : Hub :=
  if splitIsolated h then send h (.usb "err" [n, s.device, s.endpoint] [])
  else if !usb2On h then h
  else if ttRoom h n s then
    send (putTt (setUsb h (fun u => { u with lost := u.lost.filter (· != splitKey n s) })) n (ttOf h n ++ [s]))
      (.usb "split accepted" [n, s.device, s.endpoint] [])
  else
    let h := setFlag h Obj.TT_EXHAUSTED
    if s.periodic then
      bump (setUsb h (fun u => { u with lost := insertNew u.lost (splitKey n s) })) (psKey n Obj.TT_PERIODIC_DROPS)
    else send (bump h (psKey n Obj.TT_NP_NAKS)) (.usb "nak" [n, s.device, s.endpoint] [])

/-- R320, R322: a complete-split: the result of a buffered transaction frees its buffer; each one of a transaction that was dropped or
emptied is answered with ERR, until a start-split of the same name is taken again. (DEDUCED, log 34) -/
def completeSplit (h : Hub) (n : Nat) (s : Split) : Hub :=
  if splitIsolated h then send h (.usb "err" [n, s.device, s.endpoint] [])
  else if !usb2On h then h
  else
    let is (x : Split) : Bool := splitKey n x == splitKey n s && x.periodic == s.periodic
    if (ttOf h n).any is && !h.usb.lost.contains (splitKey n s) then
      send (putTt h n ((ttOf h n).eraseP is)) (.usb "result" [n, s.device, s.endpoint] [])
    else send h (.usb "err" [n, s.device, s.endpoint] [])

/-- R322: a periodic transaction that the TT has started is finished before its buffer is free. Whether it has started, and how long it
still takes, up to a frame of 1 ms, the manual leaves to the schedule: a free value, 0 for one not started. (DESIGN CHOICE, log 8) -/
def finishSplit (h : Hub) (n : Nat) (s : Split) : Hub :=
  if !s.periodic then h
  else
    let left := Config.freeNat h.fresh % 1000001
    setUsb (tick h) (fun u => { u with
      finishing := u.finishing.filter (fun x => decide (h.now < x.2.1)) ++ [(n, h.now + left, s)] })

/-- R322: a TT's buffers are emptied for the transactions that a test names. -/
def emptyTt (h : Hub) (n : Nat) (is : Split → Bool) : Hub :=
  let gone := (ttOf h n).filter is
  if gone.isEmpty then h
  else
    let h := putTt h n ((ttOf h n).filter (fun x => !is x))
    let h := forEach gone h (fun h x => finishSplit (setUsb h (fun u => { u with lost := insertNew u.lost (splitKey n x) })) n x)
    addN h (psKey n Obj.TT_CLEARED) gone.length

/-- R322: a Clear_TT_Buffer request. -/
def clearTt (h : Hub) (n device endpoint : Nat) : Hub :=
  if usb2On h then emptyTt h n (fun x => x.device == device && x.endpoint == endpoint) else h

/-! Ports -/

/-- R316, R318: the path subscribers of adapter 16, by which the USB 3.2 hub reaches the host, exist both ways. -/
def usb3Paths (h : Hub) : Bool :=
  let active (f : PathSpec → Nat) : Bool := h.usb4.paths.any (fun x => x.2.state == 1 && f x.2.spec == 16)
  active (·.inAdapter) && active (·.outAdapter)

/-- R316: the USB 3.2 hub has an upstream link: lane L0 of UP carries USB 3.2 (R184), or a USB3 tunnel on UP ends at adapter 16. -/
def usb3Linked (h : Hub) : Bool :=
  usb3On h && inService h usb3HubUnit && (getN h (Obj.LINK_MODE 0) == 2 || usb3Paths h)

/-- R316, R183: port n has a SuperSpeed link to be connected over: P1 to P4 their own lane (R366, R370); DN1 to DN3 the port's lanes, the
upper lane under pin assignment D, or the USB3 tunnel of adapter 17 to 19. -/
def ssLinkOk (h : Hub) (n : Nat) : Bool :=
  if n ≤ 4 then laneTrainable h (19 + n)
  else
    let k := n - 4
    getN h (Obj.LINK_MODE k) == 2 || (getN h (Obj.LINK_MODE k) == 8 && (lane h (2 * k + 1)).rev == 0 && (lane h (2 * k + 1)).locked)
      || h.usb4.paths.any (fun x => x.2.state == 1 && (x.2.spec.inAdapter == 16 + k || x.2.spec.outAdapter == 16 + k))

/-- R316, R370: the lane that carries a SuperSpeed link of port n: P1 to P4 have one of their own. -/
def ssLane (n : Nat) : Option Nat := if 1 ≤ n && n ≤ 4 then some (19 + n) else none

/-- R322, R388: a device connects, which is a pin event of PW55: PS_SPEED reads its speed; a SuperSpeed port comes up enabled, and the
lane of P1 to P4 runs at its rate. R424: a standby's twin-switched port reports no connection. -/
def portConnect (h : Hub) (n speed : Nat) : Hub :=
  let ss := decide (4 ≤ speed)
  atPin h 55 (.connect n speed) (fun h =>
  if portDead h n || (n ≤ 4 && muxedAway h (n + 2)) || (ss && !(usb3On h && inService h usb3HubUnit && ssLinkOk h n)) then h
  else
    let h := match ssLane n with
      | some l => if ss then laneRun h l (if speed == 4 then 5000000 else 10000000) else h
      | none => h
    send (setN (setN h (psKey n Obj.PS_SPEED) speed) (psKey n Obj.PS_STATE) (if ss then 1 else 0)) (.usb "port status change" [n] []))

/-- R322: a disconnect empties the TT's buffers; the lane of a SuperSpeed link is no longer in use. -/
def portDisconnect (h : Hub) (n : Nat) : Hub :=
  let h := match ssLane n with
    | some l => if 4 ≤ getN h (psKey n Obj.PS_SPEED) then laneDown h l else h
    | none => h
  let h := if getN h (psKey n Obj.PS_SPEED) == 0 then h else send h (.usb "port status change" [n] [])
  emptyTt (setN (setN h (psKey n Obj.PS_SPEED) 0) (psKey n Obj.PS_STATE) 0) n (fun _ => true)

/-- R57, R331: a carrier context returns to defaults. -/
def resetContext (h : Hub) (c : Ctx) : Hub :=
  { h with sel := h.sel.filter (fun x => !ofCtx c x.1), staged := h.staged.filter (fun s => s.ctx != c) }

/-- What an access that waits keeps of its context: what it found when it came to its unit, or what the context holds now. -/
def keptCtx (h : Hub) (w : Waiting) : KeptCtx :=
  { sel := (w.kept.map (·.sel)).getD (h.sel.filter (fun x => ofCtx w.src.ctx x.1))
    staged := h.staged.filter (fun s => s.ctx == w.src.ctx) }

/-- R332: what the vendor interface has under way ends without effect, but for a write whose last segment the hub has accepted and an
image it holds: those are applied, and their responses are discarded. -/
def vendorEnds (h : Hub) : Hub :=
  let usb (w : Waiting) : Bool := w.src.ctx == .usb
  let jdp := { h.jdp with
    xfers := h.jdp.xfers.filter (fun x => x.id.peer.ctx != .usb)
    waiting := (h.jdp.waiting.filter (fun w => !usb w || w.write.isSome || w.image.isSome)).map (fun w =>
      if usb w then { w with reply := Reply.dropped, kept := some { keptCtx h w with gone := true } } else w) }
  let applies := h.twin.applies.map (fun a => if (a.src.map (·.ctx)) == some .usb then { a with reply := some .dropped } else a)
  { h with jdp := jdp, twin := { h.twin with applies := applies } }

/-- R325, R331: the device on port 8 is reset; it is then in a state: 0 while its port is disabled, 1 after a reset of its port. -/
def deviceReset (h : Hub) (state : Nat) : Hub :=
  setUsb (vendorEnds h) (fun u => { u with
    alternate := 0
    wakeOn := u.wakeOn.filter (· != 2)
    addresses := merase u.addresses 2
    dev := state
    devSuspended := false
    parked := [] })

/-- R331: a port reset resets that port and, on the USB 2.0 hub, its TT, or the device on port 8. -/
def portReset (h : Hub) (usb3 : Bool) (n : Nat) : Hub :=
  if !domOn h 55 then h
  else if n == 8 then (if usb3 || !usb2On h then h else deviceReset h 1)
  else
    let sp := getN h (psKey n Obj.PS_SPEED)
    let hit := sp != 0 && (usb3 == decide (sp ≥ 4))
    let h := if hit then setN h (psKey n Obj.PS_STATE) 1 else h
    if usb3 then h else emptyTt h n (fun _ => true)

/-- R334: PS_STATE: a port that is fused off reads absent. -/
def portStateNow (h : Hub) (n : Nat) : Nat := if h.part == .bw7720 && n == 7 then 4 else getN h (psKey n Obj.PS_STATE)

/-! Resets (R331) -/

/-- R331: the USB 2.0 hub, its TTs and the device on port 8 are reset: ports 1 to 8 are disabled. The TTs' buffers are empty; TT_CLEARED,
which R322's three causes alone raise, keeps its value. -/
def hub2Reset (h : Hub) (state : Nat) : Hub :=
  let h := forEach ((List.range 7).map (· + 1)) h (fun h n =>
    if getN h (psKey n Obj.PS_SPEED) ≤ 3 then setN h (psKey n Obj.PS_STATE) 0 else h)
  let h := setUsb (deviceReset h 0) (fun u => { u with
    tt := []
    lost := []
    finishing := []
    wakeOn := u.wakeOn.filter (· != 0)
    noted := []
    suspendChange := []
    collide := []
    addresses := merase u.addresses 0 })
  setN (resetContext h .usb) Obj.USB2_STATE state

/-- R331: a bus reset on UP's USB 2.0 pair, whose signalling is a pin event of PW55. (DEDUCED, log 34) -/
def busReset (h : Hub) : Hub :=
  atPin h 55 .busReset (fun h => if !inService h usb2HubUnit then h else bump (hub2Reset h 1) Obj.BUS_RESETS)

/-- R333: UP's USB 2.0 pair has no host: UP is unplugged, or the USB 2.0 hub is out of service. (DEDUCED, log 34) -/
def usb2Detach (h : Hub) : Hub := if getN h Obj.USB2_STATE == 0 then h else hub2Reset h 0

/-- R322, R388: a disconnect that a port shows. -/
def pinDisconnect (h : Hub) (n : Nat) : Hub := atPin h 55 (.disconnect n) (fun h => portDisconnect h n)

/-- R331: a hot or warm reset on the USB 3.2 upstream port. -/
def hotReset (h : Hub) : Hub :=
  let h := forEach ((List.range 7).map (· + 1)) h (fun h n =>
    if getN h (psKey n Obj.PS_SPEED) ≥ 4 then setN h (psKey n Obj.PS_STATE) 0 else h)
  let h := setUsb h (fun u => { u with wakeOn := u.wakeOn.filter (· != 1), addresses := merase u.addresses 1, noted3 := [] })
  if usb3Linked h then setN h Obj.USB3_STATE 1 else h

/-- R333: the USB 3.2 hub is detached when its upstream link goes, and in the default state when one comes. (DEDUCED, log 34) -/
def followUsb3 (was h : Hub) : Hub :=
  if usb3Linked h == usb3Linked was then h
  else if usb3Linked h then (if getN h Obj.USB3_STATE == 0 then setN h Obj.USB3_STATE 1 else h)
  else
    let h := setUsb h (fun u => { u with before3 := 0, noted3 := [], wakeOn := u.wakeOn.filter (· != 1), addresses := merase u.addresses 1 })
    setN h Obj.USB3_STATE 0

/-! Control requests (R327, R332) -/

/-- R324: endpoint 0 of the device on port 8 has its carve-out. -/
def endpoint0 (h : Hub) : Bool := unitsOf h 0x01 != 0

/-- R327: the telemetry alternate n may be selected. -/
def alternateOk (h : Hub) (n : Nat) : Bool := decide (n ≤ 3) && decide (unitsOf h 0x05 ≥ 2 * n)

/-- R324, R327: a SET_INTERFACE to a telemetry alternate: STALL unless endpoint 0 has a carve-out and the carve-out of telemetry
holds 2n units. -/
def setInterface (h : Hub) (n : Nat) : Hub :=
  if alternateOk h n && endpoint0 h then send h (.usb "set interface" [n] []) else send h (.usb "stall" [n] [])

/-- R332: the number of a function. -/
def functionNo : UsbFunction → Nat
  | .hub2 => 0 | .hub3 => 1 | .device => 2

/-- R332, R333: the state of a function: 0 detached or disabled, 1 default, 2 addressed, 3 configured, 4 suspended. -/
def functionState (h : Hub) : UsbFunction → Nat
  | .hub2 => getN h Obj.USB2_STATE
  | .hub3 => getN h Obj.USB3_STATE
  | .device => if deviceAsleep h && h.usb.dev != 0 then 4 else h.usb.dev

/-- A function enters a state. -/
def enterState (h : Hub) (f : UsbFunction) (v : Nat) : Hub :=
  match f with
  | .hub2 => setN h Obj.USB2_STATE v
  | .hub3 => setN h Obj.USB3_STATE v
  | .device => setUsb h (fun u => { u with dev := v })

/-- R316: the speed of a port belongs to a hub; port 8 is the USB 2.0 hub's alone. -/
def portOfHub (h : Hub) (f : UsbFunction) (n : Nat) : Bool :=
  let sp := getN h (psKey n Obj.PS_SPEED)
  match f with
  | .hub2 => decide (1 ≤ n) && (n == 8 || (decide (n ≤ 7) && sp != 0 && decide (sp ≤ 3)))
  | .hub3 => decide (1 ≤ n) && decide (n ≤ 7) && decide (4 ≤ sp)
  | .device => false

/-- USB's port features, by which R331's port reset and R329's selective suspend are requested: 2 PORT_SUSPEND, 4 PORT_RESET. -/
def setFeature (h : Hub) (f : UsbFunction) (n feature : Nat) : Hub :=
  if !portOfHub h f n then h
  else if feature == 4 then portReset h (f == .hub3) n
  else if feature != 2 then h
  else if n == 8 then (if h.usb.dev == 0 then h else setUsb h (fun u => { u with devSuspended := true }))
  else if getN h (psKey n Obj.PS_STATE) == 1 then setN h (psKey n Obj.PS_STATE) 2
  else h

/-- USB's port features, cleared: 1 PORT_ENABLE disables the port, 2 PORT_SUSPEND resumes it, 18 C_PORT_SUSPEND clears its change bit. -/
def clearFeature (h : Hub) (f : UsbFunction) (n feature : Nat) : Hub :=
  if !portOfHub h f n then h
  else if feature == 18 then setUsb h (fun u => { u with suspendChange := u.suspendChange.filter (· != n) })
  else if feature == 1 then (if n == 8 then deviceReset h 0 else setN h (psKey n Obj.PS_STATE) 0)
  else if feature != 2 then h
  else if n == 8 then (if h.usb.devSuspended then deviceResumed h false else h)
  else if getN h (psKey n Obj.PS_STATE) == 2 then portResumed (setN h (psKey n Obj.PS_STATE) 1) n
  else h

/-- USB's rules for which state a request needs. -/
def requestOk (st : Nat) : ControlRequest → Bool
  | .setAddress _ => st == 1 || st == 2
  | .setConfiguration _ => st == 2 || st == 3
  | .setRemoteWake _ => st == 2 || st == 3
  | _ => st == 3

/-- What a request does at its function. -/
def carryRequest (h : Hub) (f : UsbFunction) : ControlRequest → Hub
  | .setAddress a =>
    enterState (setUsb h (fun u => { u with addresses := if a == 0 then merase u.addresses (functionNo f) else mset u.addresses (functionNo f) a }))
      f (if a == 0 then 1 else 2)
  | .setConfiguration c =>
    let h := enterState h f (if c == 0 then 2 else 3)
    if f == .device then setUsb (if c == 0 then vendorEnds h else h) (fun u => { u with alternate := 0 }) else h
  | .setPortFeature n x => setFeature h f n x
  | .clearPortFeature n x => clearFeature h f n x
  | .setRemoteWake on =>
    setUsb h (fun u => { u with wakeOn := if on then insertNew u.wakeOn (functionNo f) else u.wakeOn.filter (· != functionNo f) })
  | .setInterface n => if f == .device && alternateOk h n then setUsb h (fun u => { u with alternate := n }) else h

/-- R332: the host's acknowledgement of a control write's status stage makes the request take effect. One that a reset of its function
overtook, by the operand or since the function has left the state that the request needs, has none and is counted. A function that is
detached or suspended takes no request, and R324: the device stalls each one without a carve-out for endpoint 0. (DEDUCED, log 34) -/
def statusAck (h : Hub) (x : ControlWrite) : Hub :=
  let st := functionState h x.target
  if x.overtaken then bump h Obj.CTRL_ABANDONED
  else if st == 4 || (st == 0 && x.target != .device) || getN h Obj.USB2_STATE == 0 && x.target == .device then h
  else if x.target == .device && !endpoint0 h then send h (.usb "stall" [0] [])
  else if requestOk st x.request then carryRequest h x.target x.request
  else bump h Obj.CTRL_ABANDONED

/-! What the hub's functions report of themselves (R319, R325, R328): functions of the state. The control requests that read
them are USB's own and change nothing. (DESIGN CHOICE, log 39) -/

/-- R325: vendor ID, product ID and bcdDevice of the device on port 8. -/
def ownDeviceIds : Nat × Nat × Nat := (0x4257, 0x77F0, Config.stepping % 256)

/-- R325: the product IDs of the USB 2.0 hub and the USB 3.2 hub. -/
def hubProductIds : Nat × Nat := (0x77F2, 0x77F3)

/-- R325: the serial number string: SERIAL_NUMBER in upper-case hexadecimal. -/
def serialString : String :=
  String.ofList ((leBytes 16 Config.serial).flatMap (fun b =>
    [b.toNat / 16, b.toNat % 16].map (fun d => if d < 10 then Char.ofNat (48 + d) else Char.ofNat (55 + d))))

/-- R325: an endpoint: its address (bit 7 IN), 1 isochronous, 2 bulk or 3 interrupt, its bytes per packet, packets per microframe, and its
interval in microframes (0 of a bulk endpoint). -/
structure Endpoint where
  addr : Nat
  kind : Nat
  bytes : Nat
  packets : Nat := 1
  every : Nat := 0
deriving DecidableEq, Repr, Inhabited

/-- Table 17.4: a row: interface, class, subclass (none stated for Billboard), alternate and endpoints. -/
structure Interface where
  number : Nat
  cls : Nat
  subclass : Option Nat
  alternate : Nat
  endpoints : List Endpoint
deriving DecidableEq, Repr, Inhabited

/-- Table 17.4. -/
def interfaceTable : List Interface :=
  { number := 0, cls := 0xFF, subclass := some 0, alternate := 0
    endpoints := [⟨0x01, 2, 512, 1, 0⟩, ⟨0x81, 2, 512, 1, 0⟩, ⟨0x82, 3, 64, 1, 8⟩] }
  :: (List.range 4).map (fun n =>
    { number := 1, cls := 0xFF, subclass := some 1, alternate := n, endpoints := if n == 0 then [] else [⟨0x83, 1, 1024, n, 1⟩] })
  ++ [{ number := 2, cls := 0x11, subclass := none, alternate := 0, endpoints := [] }]

/-- R325, R328: the interfaces of the one configuration, with their alternates; interface 2 is absent with BILLBOARD_ENABLE at 0. -/
def interfaces (h : Hub) : List Interface :=
  interfaceTable.filter (fun x => x.number != 2 || getB h Obj.BILLBOARD_ENABLE)

/-- R328: whether the Billboard function's configuration result reads "configured"; none where there is no such function. -/
def billboardResult (h : Hub) : Option Bool :=
  let m := getN h (Obj.LINK_MODE 0)
  if getB h Obj.BILLBOARD_ENABLE then some (decide (3 ≤ m) && decide (m ≤ 7)) else none

/-- R319, R333: the TT think time that the hub descriptor reports, in full-speed bit times. -/
def thinkTime (h : Hub) : Nat := 8 * (getN h Obj.TT_THINK_TIME + 1)

/-- R316, R317, R319: what a hub's descriptor reports: its ports, of which none leaves power off, those that are non-removable, whether it
is a multi-TT hub, and the TT think time in full-speed bit times. -/
structure HubDescriptor where
  ports : List Nat
  powerAlwaysOn : Bool
  nonRemovable : List Nat
  multiTt : Bool
  think : Nat
deriving DecidableEq, Repr, Inhabited

/-- R316, R317, R319: the descriptors of the USB 3.2 hub and of the USB 2.0 hub. -/
def hubDescriptor (h : Hub) (usb3 : Bool) : HubDescriptor :=
  if usb3 then { ports := hubPorts true, powerAlwaysOn := true, nonRemovable := [], multiTt := false, think := 0 }
  else { ports := hubPorts false, powerAlwaysOn := true, nonRemovable := [8], multiTt := true, think := thinkTime h }

/-! The hub's settings (R333) -/

/-- R333: a write of USB3_HUB_ENABLE; a hub that is off is detached, with its SuperSpeed ports. (DEDUCED, log 34) -/
def writeUsb3Enable (h : Hub) (v : Nat) : Hub :=
  let h := setN h Obj.USB3_HUB_ENABLE v
  if v != 0 then h
  else
    forEach (((List.range 7).map (· + 1)).filter (fun n => decide (4 ≤ getN h (psKey n Obj.PS_SPEED)))) (setN h Obj.USB3_STATE 0)
      portDisconnect

/-- R333: a write of PORT_DISABLE; a port that it names reports no connection. (DEDUCED, log 34) -/
def writePortDisable (h : Hub) (v : Nat) : Hub :=
  let h := setN h Obj.PORT_DISABLE v
  forEach (((List.range 7).map (· + 1)).filter (fun n => bitOf v (n - 1))) h portDisconnect

/-! Suspend and resume (R329, R330) -/

/-- R329: the USB 2.0 side suspends. -/
def usbSuspend (h : Hub) : Hub :=
  let st := getN h Obj.USB2_STATE
  if st == 0 || st == 4 then h else setN (setUsb h (fun u => { u with before2 := st, collide := [] })) Obj.USB2_STATE 4

/-- R364: U3 gives Sleep on the lanes that carry USB 3.2: lane L0 of UP where it does (R184). -/
def u3Lanes (h : Hub) (f : Hub → Nat → Bool → Hub) : Hub :=
  if getN h (Obj.LINK_MODE 0) != 2 then h
  else forEach ([0, 1].filter (fun l => (lane h l).rate != 0)) h (fun h l => f (f h l false) l true)

/-- R330: the USB 3.2 side enters U3. -/
def u3Entry (h : Hub) : Hub :=
  let st := getN h Obj.USB3_STATE
  if st == 0 || st == 4 then h
  else u3Lanes (setN (setUsb h (fun u => { u with before3 := st })) Obj.USB3_STATE 4) (fun h l rx => laneSleep h l rx .sleep)

/-- R329: a host resume: it resumes the hub; wakes that were noted are reported, PDUs that waited go out, and a port that is still
suspended resumes when its device signals. A wake that any port signals at that moment is a collision. Resume signalling is a pin event of PW55. (DEDUCED, log 34) -/
def hostResume (h : Hub) : Hub :=
  atPin h 55 .hostResume (fun h =>
  if getN h Obj.USB2_STATE != 4 then h
  else
    let h := setN h Obj.USB2_STATE h.usb.before2
    let noted := h.usb.noted
    let asleep := ((List.range 7).map (· + 1)).filter (fun n =>
        let st := getN h (psKey n Obj.PS_STATE)
        (st == 1 || st == 2) && getN h (psKey n Obj.PS_SPEED) ≤ 3)
      ++ (if h.usb.dev == 0 then [] else [8])
    let h := setUsb h (fun u => { u with noted := [], collide := asleep.filter (fun n => !noted.contains n), resumedAt := h.now })
    let h := forEach (noted.filter (· != 8)) h (fun h n => send h (.usb "port status change" [n] []))
    if !h.usb.devSuspended || noted.contains 8 then deviceResumed h (noted.contains 8) else h)

/-- R329: a port resumes from its device's signalling, and its status change reaches the host. -/
def portAwake (h : Hub) (n : Nat) : Hub :=
  if getN h (psKey n Obj.PS_STATE) == 2 then portResumed (setN h (psKey n Obj.PS_STATE) 1) n
  else send h (.usb "port status change" [n] [])

/-- R329: a device signals remote wake. Granted before a host resume, it resumes the hub upstream if the host enabled that, and is noted
in the port's status otherwise; granted after one that came at the same moment, it is a collision and is reported, and a port that was
suspended by itself completes its own resume. Such a port resumes by itself too, with no host resume. (DEDUCED, log 34) -/
def remoteWake (h : Hub) (n : Nat) : Hub :=
  atPin h 55 (.remoteWake n) (fun h =>
  let st := getN h (psKey n Obj.PS_STATE)
  if !inService h usb2HubUnit || getN h (psKey n Obj.PS_SPEED) > 3 || (st != 1 && st != 2) then h
  else if getN h Obj.USB2_STATE == 4 then
    if h.usb.wakeOn.contains 0 then
      let h := setN h Obj.USB2_STATE h.usb.before2
      let h := send (bump (bump h Obj.REMOTE_WAKES) (psKey n Obj.PS_WAKES)) (.usb "resume upstream" [n] [])
      let h := portAwake h n
      if h.usb.devSuspended then h else deviceResumed h false
    else
      setUsb (setN h (psKey n Obj.PS_STATE) 1) (fun u => { u with
        noted := insertNew u.noted n
        suspendChange := if st == 2 then insertNew u.suspendChange n else u.suspendChange })
  else if getN h Obj.USB2_STATE == 0 || (st == 1 && !collides h n) then h
  else portAwake (collided h n) n)

/-- R329, R330: a U3 exit from either end, or from both, is one exit. One that a device starts goes upstream only while the host has enabled
remote wake on the hub, and is recorded otherwise and reported at the next resume. (DEDUCED, log 34) -/
def u3Exit (h : Hub) (n : Nat) (fromHost : Bool) : Hub :=
  let h := match ssLane n with
    | some l => if 4 ≤ getN h (psKey n Obj.PS_SPEED) then laneExit (laneExit h l false) l true else h
    | none => h
  if getN h Obj.USB3_STATE != 4 then send h (.usb "link state change" [n] [])
  else if !fromHost && !h.usb.wakeOn.contains 1 then setUsb h (fun u => { u with noted3 := insertNew u.noted3 n })
  else
    let noted := h.usb.noted3.filter (· != n)
    let h := u3Lanes (setN (setUsb h (fun u => { u with noted3 := [] })) Obj.USB3_STATE h.usb.before3) laneExit
    forEach (n :: noted) h (fun h k => send h (.usb "link state change" [k] []))

end Sys2Proof.Machine
end

