-- ==== Sys2Proof/Machine/Domains.lean ====
section
/-! DEFINITION. Power domains (R384-R396): idle conditions, entry to Ember and Off, the wake order with the Ember check, and
released rails. -/

namespace Sys2Proof.Machine

/-- R395: DM_STATE: 1 On, 2 Ember, 3 Off, 4 entering, 5 waking. -/
def domState (h : Hub) (d : Nat) : Nat := (domain h d).st

/-- R395: what DIR_STATE reads of a domain: while it enters or wakes, the state it is leaving. -/
def domDirState (h : Hub) (d : Nat) : Nat := if 4 ≤ (domain h d).st then (domain h d).leaving else (domain h d).st

def domOff (h : Hub) (d : Nat) : Bool := (domain h d).st == 3

/-- The cells and pieces of a group: queued, in transit, or a surface's. -/
def groupHolds (h : Hub) (g : Nat) : Bool := decide (groupQueued h g + groupTransit h g + groupSurface h g > 0)

/-- The paths of the PCIe tunnel on UP (adapters 12 to 15, R185). -/
def pcieTunnel (h : Hub) : Bool := h.usb4.paths.any (fun x => x.1 / 64 == 0 &&
  ((12 ≤ x.2.spec.inAdapter && x.2.spec.inAdapter ≤ 15) || (12 ≤ x.2.spec.outAdapter && x.2.spec.outAdapter ≤ 15)))

/-- R241, R364: the NV link of a switch port (1 or 2) is in L1: the lanes that carry it sleep both ways. -/
def nvInL1 (h : Hub) (p : Nat) : Bool :=
  let ls := (List.range 4).map (fun i => 30 + 4 * (p - 1) + i) |>.filter (fun l => (lane h l).rate != 0)
  !ls.isEmpty && ls.all (fun l => (lane h l).tx == 1 && (lane h l).rx == 1)

/-- R449: the requests of waiting works that their Guards have judged. -/
def waitingPasses (h : Hub) : List Judged :=
  h.coder.waits.flatMap (·.passes) ++ h.heads.flatMap (fun x => x.2.rows.flatMap (·.passes)) ++ h.twin.passes

/-- R384: a port B access to a bank group is not complete. -/
def accessTo (h : Hub) (d : Nat) : Bool :=
  h.guards.inFlight.any (fun x => (requestGroups h x.req).contains d) || (passGroups h (waitingPasses h)).contains d

/-- R384: a domain's idle condition. Port A accesses and passes of the engines are complete between commands. -/
def domIdle (h : Hub) (d : Nat) : Bool :=
  if d < 32 then !accessTo h d
  else if d < 36 then true
  else if d < 40 then getN h (Obj.H_ENABLE (d - 36)) == 0
  else if d == 40 then h.coder.current.isNone && h.coder.producer == h.coder.consumer && h.coder.retry.isEmpty
  else if d < 50 then (List.range 41).all (domOff h)
  else match d with
    | 50 => getN h (Obj.LINK_MODE 0) == 0
    | 51 => [1, 2, 3].all (fun k => getN h (Obj.LINK_MODE k) == 0)
    | 52 => [0, 1, 2].all (fun o => !(getB h (Obj.SINK_PRESENT o) && getB h (Obj.OUT_ENABLE o)))
    | 53 => (List.range 6).all (fun m => getN h (Obj.MAC_MODE m) == 0 || getN h (Obj.LINK_SPEED m) == 0)
    | 54 => !pcieTunnel h && h.pcie.linkUp.all (fun p => !isNv p || nvInL1 h p)
    | 55 => [0, 4].contains (getN h Obj.USB2_STATE) && [0, 4].contains (getN h Obj.USB3_STATE)
    | 56 => getN h Obj.TW_STATE == 0 && (List.range 4).all (fun i => !(lane h (38 + i)).locked)
    | 57 => h.jdp.xfers.isEmpty
    | 58 => h.keys.busy.isEmpty && h.keys.sessions.isEmpty
    | 59 => h.damper.oper.all (fun x => !x.2.enable) && getN h Obj.GPTP_MACS == 0 && getN h Obj.TW_STATE == 0
    | 60 => h.pd.ports.all (fun x => !x.2.attached)
    | 61 => (List.range 50).all (domOff h)
    | 62 => h.grate.queues.all (fun q => q.2.isEmpty || subPort h (qSub q.1) != 26)
    | _ => false

/-- R392: the retained arrays of a domain that have a spare row. -/
def retained (d : Nat) : List Nat := if d < 32 then List.range 9 else if [55, 57, 58, 60].contains d then [9] else []

/-- The units of a domain. -/
def unitsOfDomain (h : Hub) (d : Nat) : List Nat := allUnits.filter (fun u => domainOfUnit u == d && h.part.has u)

/-- The unit that a report about a domain names: its first. -/
def domUnit (d : Nat) : Nat := (allUnits.find? (fun u => domainOfUnit u == d)).getD 0

/-! Entries (R385-R387) -/

/-- R392: the canary: 0x5A and 0xA5 alternately, then bits [15:0] of DM_EMBER_ENTRIES. -/
def canary (h : Hub) (d : Nat) : List Byte :=
  (List.replicate 15 [0x5A, 0xA5]).flatten ++ leBytes 2 (getN h (Obj.DM_EMBER_ENTRIES d) % 65536)

/-- R386, R392: a domain is in Ember: each of its retained arrays has its canary, its lanes sleep. -/
def intoEmber (h : Hub) (d : Nat) : Hub :=
  let h := bump h (Obj.DM_EMBER_ENTRIES d)
  let word := canary h d
  lanesEmber (setDomain h d { domain h d with st := 2, spare := (retained d).map (fun a => (a, word)) }) d

/-- R385: a domain is Off: its units lose all state, so each restarts when it is next On, and those of a domain that is forced Off stop now
(R387); the retry store and the links of the drives end with it. (DEDUCED, log 37) -/
def intoOff (h : Hub) (d : Nat) : Hub :=
  let h := bump h (Obj.DM_OFF_ENTRIES d)
  let h := lanesOff (setDomain h d { domain h d with st := 3, spare := [] }) d
  let h := if d == 40 then coderOff h else h
  if d == 54 || (32 ≤ d && (domain h d).forced) then forEach (unitsOfDomain h d) h (fun h u => later h (.fromOff u)) else h

/-- R386, R5: how long an entry takes is left open within its bounds: 1 µs at most on the C-die, 0.8 to 2.0 µs on the P-die, and 0.2 to 0.5 µs more
to Off; from Ember to Off only the latter. A free value within them, in nanoseconds. (DESIGN CHOICE, log 8) -/
def entryTime (h : Hub) (d goal st : Nat) : Nat :=
  let r := Config.freeNat h.fresh
  let lower := if st == 2 then 0 else if d < 50 then 1 + r % 1000 else 800 + r % 1201
  if goal == 3 then lower + 200 + r % 301 else lower

/-- R386, R385: a domain starts to enter Ember or Off: its units are isolated. One that enters already goes on to the deeper of the two. -/
def startEntry (h : Hub) (d goal : Nat) : Hub :=
  let x := domain h d
  if x.st == 4 then
    if goal == 3 && x.goal == 2 then tick (setDomain h d { x with goal := 3, until_ := x.until_ + entryTime h d 3 2 }) else h
  else
    tick (setDomain h d { x with
      st := 4
      leaving := if x.st == 5 then x.leaving else x.st
      goal := goal
      until_ := h.now + entryTime h d goal x.st
      asked := false
      wake := none })

/-- R386, R42: an entry is complete; a wake trigger that came meanwhile starts the wake, unless ride-through forces the domain (R387). -/
def endEntry (h : Hub) (d : Nat) : Hub :=
  let x := domain h d
  let h := setDomain h d { x with wake := none }
  let h := if x.goal == 3 then intoOff h d else intoEmber h d
  match x.wake with
  | some c => wakeDomain h d c
  | none => h

/-- The domains whose entries are complete by a time. -/
def entriesDue (h : Hub) (t : Nat) : List Nat :=
  (h.domains.filter (fun x => x.2.st == 4 && decide (x.2.until_ ≤ t))).map (·.1)

/-- R386: the entries that are complete by now. -/
def endEntries (h : Hub) : Hub := forEach (entriesDue h h.now) h endEntry

/-- R385, R386: an idle domain enters Ember. An empty bank group whose deepest state is Off goes Off, since Ember would
retain nothing that is needed. (DEDUCED, log 37) -/
def emberEntry (h : Hub) (d : Nat) : Hub :=
  let x := domain h d
  if !domPresent h.part d || x.st != 1 || d == 63 || getN h (Obj.DM_DEEPEST d) < 2 || !domIdle h d
    || (getN h (Obj.DM_IDLE_TIME d) == 0 && !x.asked) then h
  else startEntry h d (if d < 32 && getN h (Obj.DM_DEEPEST d) == 3 && !groupHolds h d then 3 else 2)

/-- R385: a domain in Ember for DM_OFF_TIME enters Off; a bank group that holds cells or pieces does not. (DEDUCED, log 37) -/
def offEntry (h : Hub) (d : Nat) : Hub :=
  if !domPresent h.part d || (domain h d).st != 2 || getN h (Obj.DM_DEEPEST d) != 3 || (decide (d < 32) && groupHolds h d) then h
  else startEntry h d 3

/-- R387, R463: a domain is forced into Ember or Off. PW63 is never forced. (DEDUCED, log 37) -/
def forceDomain (h : Hub) (off : Bool) (d : Nat) : Hub :=
  if d == 63 || !domPresent h.part d then h
  else
    let st := (domain h d).st
    let h := if off && st != 3 then startEntry (setDomain h d { domain h d with lose := decide (d < 32) }) d 3
      else if !off && (st == 1 || st == 5) then startEntry h d 2 else h
    setDomain h d { domain h d with forced := true }

/-- R42: a frame of the Grate, an access, a port B request, a tile lane or a head's read waits for a domain. -/
def awaited (h : Hub) (d : Nat) : Bool :=
  h.jdp.waiting.any (fun w => w.domain == d)
  || h.grate.asleep.any (fun x => (attachedDomains x.1).contains d) || h.grate.atPort.any (fun x => (ingressDomains x.1).contains d)
  || (d == 40 && !h.coder.waits.isEmpty) || accessTo h d
  || (bitOf (getN h (Obj.DM_WAKE_ENABLE d)) 0 && h.pins.any (fun x => x.1 == d))

/-- R352, R387: ride-through ends: forced domains wake on their next trigger, and one that has waited for them is that. In Winter they stay
Off (R463). -/
def unforce (h : Hub) : Hub :=
  let ds := if inWinter h then [] else (h.domains.filter (fun x => x.2.forced)).map (·.1)
  let h := forEach ds h (fun h d => setDomain h d { domain h d with forced := false })
  forEach ds h (fun h d =>
    if awaited h d then later h (.wake d (if h.jdp.waiting.any (fun w => w.domain == d) then .dictionary else .grate)) else h)

/-! Requests and triggers (R42, R388) -/

/-- R42, R395: a sleep request. -/
def requestSleep (h : Hub) (d : Nat) : Except Abort Hub :=
  if d == 63 then .error (.value 0x80)
  else if !domIdle h d then .error .active
  else if (domain h d).st == 1 then .ok (setDomain h d { domain h d with asked := true })
  else .ok h

/-- R388: whether something of a kind is a wake trigger of a domain: a pin event while DM_WAKE_ENABLE[0] is 1, of PW53 in Ember alone;
the timer while bit 1 is 1 and it is set; a pass for the engines' domains; every other kind always. -/
def isTrigger (h : Hub) (d : Nat) : WakeCause → Bool
  | .pin => bitOf (getN h (Obj.DM_WAKE_ENABLE d)) 0 && !(d == 53 && domOff h d)
  | .timer => bitOf (getN h (Obj.DM_WAKE_ENABLE d)) 1 && getN h (Obj.DM_WAKE_TIMER d) != 0
  | .allotment => 32 ≤ d && d ≤ 35
  | _ => true

/-- R388: something happens that may be a wake trigger of a domain. -/
def triggered (h : Hub) (d : Nat) (c : WakeCause) : Hub := if domPresent h.part d && isTrigger h d c then wakeDomain h d c else h

/-- R388: a pin event. -/
def pinWake (h : Hub) (d : Nat) : Hub := triggered h d .pin

/-- R388: the domain's timer. -/
def wakeTimer (h : Hub) (d : Nat) : Hub := triggered h d .timer

/-- R388: the engines' domains wake ahead of a periodic pass. -/
def enginePrewake (h : Hub) : Hub := forEach [32, 33, 34, 35] h (fun h d => wakeDomain h d .allotment)

/-! The wake order (R389, R393) -/

/-- R393, R506: a bank group has lost its content: each of its frames is handled as a port A read with a double-bit error, in the first bank that
failed, its tiles are rewritten, its banks zeroed and its free list rebuilt. (DEDUCED, log 37) -/
def groupContentLost (h : Hub) (g bank : Nat) : Hub :=
  if groupState h g != 0 then h
  else
    let hit := (h.grate.frames.filter (fun f => f.written.any (fun c => c.group == g))).map (·.id)
    let h := forEach hit h (fun h id => eccDiscard (uncorrectable h g bank) id)
    let h := setFree h g (h.part.rows - groupSurface h g)
    later { h with zeroed := insertNew h.zeroed g } (.groupLost g)

/-- R392, R393: the units that own the retained array of a P-die domain: the endpoint memory, the key store, the PD cores. -/
def arrayOwners (h : Hub) (d : Nat) : List Nat :=
  if d == 55 then [epmUnit] else if d == 58 then [keyStoreUnit] else unitsOfDomain h d

/-- R393: what the loss of a domain's arrays means, `bank` the first of a group's banks that failed. -/
def retentionLost (h : Hub) (d bank : Nat) : Hub :=
  let h := report (setFlag h (Obj.DM_RETENTION_LOST d)) 0x1103 (domUnit d)
  if d < 32 then groupContentLost h d bank
  else if d == 57 then later h .restart
  else forEach (arrayOwners h d) h (fun h u => later h (.fromOff u))

/-- R393: the time unit resumes: network time has gone on, and it is in holdover until a source qualifies. -/
def timeResumes (h : Hub) : Hub := setFlag (setTime h (fun t => { t with inUse := 0, qualified := [] })) Obj.TIME_HOLDOVER

/-- R389, R392: what a domain does on its way from Ember or from Off to On. `failed` names the arrays whose canaries come back with an
uncorrectable error or another value. A bank group that was not forced Off held nothing when it went, so
what it holds is pieces that were allocated since (R260); one that was forced Off has lost its content (R387). R440: of an erased key store nothing is lost. -/
def wakeWork (h : Hub) (d leaving : Nat) (failed : List Nat) : Hub :=
  let h := if d == 59 then timeResumes h else h
  if leaving == 2 then
    let word := canary h d
    let bad := (retained d).filter (fun a => failed.contains a || mget? (domain h d).spare a != some word)
    let h := addN h (Obj.DM_CANARY_FAILS d) bad.length
    if bad.isEmpty || (d == 58 && getB h Obj.TP_TAMPERED) then h else retentionLost h d ((bad.find? (· < 8)).getD 0)
  else if d < 32 then
    if (domain h d).lose then retentionLost (setDomain h d { domain h d with lose := false }) d 0
    else if groupState h d == 0 then setFree { h with zeroed := insertNew h.zeroed d } d (h.part.rows - groupSurface h d) else h
  else if d == 59 then h
  else forEach (unitsOfDomain h d) h (fun h u => later h (.fromOff u))

/-- R388, R391: what a wake still waits for: a rail, or PW61, PW49 and the region logic. -/
def wakeWaits (h : Hub) (d : Nat) : Bool :=
  (railsOf d).any (fun r => !railOn h r) || (wakesFirst d).any (fun e => !domOn h e)

/-- R389: the wake order of a domain: its trigger, and, unless it waits for a rail or for another domain, its four steps. (DEDUCED, log 37) -/
def domainWake (h : Hub) (d : Nat) (c : WakeCause) (failed : List Nat) (duration : Nat) : Hub :=
  if !domPresent h.part d then h
  else
    let h := triggered h d c
    let x := domain h d
    if x.st != 5 || wakeWaits h d then h
    else
      let h := setN (peak (bump h (Obj.DM_WAKES d)) (Obj.DM_WAKE_TIME_MAX d) duration) (Obj.DM_WAKE_CAUSE d) x.cause
      let h := wakeWork h d x.leaving failed
      later (setDomain h d { domain h d with st := 1, asked := false }) (.awake d)

/-! Released rails (R391) -/

/-- Table 21.3: the domains that a rail supplies. -/
def railDomains (r : Nat) : List Nat := (List.range 64).filter (fun d => (railsOf d).contains r)

/-- R391: a released rail whose domains have all been Off is turned off; a wake granted first has ended that. -/
def railRelease (h : Hub) (r : Nat) : Hub :=
  if bitOf (getN h (Obj.RAIL_RELEASE 0)) r && railOn h r && (railDomains r).all (domOff h) then
    let h := send h (.rail "OPERATION off" [railAddr h r])
    bump (setN h (Obj.RAIL_STATE 0) (getN h (Obj.RAIL_STATE 0) - 2 ^ r)) (Obj.RAIL_REQUESTS 0)
  else h

/-- R509, R377: Bellows after a reset and after VDD_CORE is turned on again. A fault that is in force then goes on until a request completes. -/
def bellowsStart (h : Hub) : Hub := setN (setN { h with bellows := { fault := h.bellows.fault }, hearth := { h.hearth with raising := false } } Obj.BW_VDD_TARGET 850) Obj.BW_RAISING 0

/-- R391: a rail that was asked for reports power good. -/
def railPowerGood (h : Hub) (r : Nat) : Hub :=
  if (mget? h.railReq r).isSome then
    let h := setN { h with railReq := merase h.railReq r } (Obj.RAIL_STATE 0) (getN h (Obj.RAIL_STATE 0) + 2 ^ r)
    if r == 0 then bellowsStart h else h
  else h

/-- R391: no power good within 10 ms: the request is sent once more; a second failure is a rail fault, and the domains that
wait stay Off. -/
def railTimeout (h : Hub) (r : Nat) : Hub :=
  match mget? h.railReq r with
  | none => h
  | some 1 => { railRequest h r with railReq := mset h.railReq r 2 }
  | some _ =>
    let h := setFlag { h with railReq := merase h.railReq r } (Obj.RAIL_FAULT 0)
    let h := forEach (railDomains r) h (fun h d => if (domain h d).st == 5 then setDomain h d { domain h d with st := 3 } else h)
    let h := report h 0x1802 emberUnit
    if r == 0 then report h 0x2803 emberUnit else h

end Sys2Proof.Machine
end

