-- ==== Sys2Proof/Machine/Bellows.lean ====
section
/-! DEFINITION. Bellows (R372-R383): paces, the offered load, requests over AVSBus, the flare and the ceiling. -/

namespace Sys2Proof.Machine

def setBellows (h : Hub) (f : Bellows → Bellows) : Hub := { h with bellows := f h.bellows }

/-- R33, R372: every unit of a C-die region is out of service: the region is quarantined. -/
def regionOut (h : Hub) (r : Nat) : Bool :=
  (allUnits.filter (fun u => uDie u == 0 && uRegion u == uRegion (paceUnit r) && h.part.has u)).all (outOfService h)

/-- R461, 0x1503: a pace monitor that is out: its region counts as band 7, its logic pace as 750. A region that is quarantined is left
out. -/
def sensorOut (h : Hub) : Bool := (List.range 8).any (fun r => outOfService h (paceUnit r) && !regionOut h r)

/-- R377, R509: the paces that the step compares: those read, or the bounds of R34 in a fault and before the first reading. -/
def bankPaceNow (h : Hub) : Nat := if h.bellows.fault || !h.bellows.read then 625 else getN h Obj.BW_PACE_NOW
def logicPaceNow (h : Hub) : Nat :=
  let p := if h.bellows.fault || !h.bellows.read then 750 else getN h Obj.BW_LOGIC_PACE
  if sensorOut h then min p 750 else p

/-- R176, R179: bytes queued and taken at a port, or at all of them; a reference counts until the attached unit has accepted it or it is
discarded. -/
def backlogOf (h : Hub) (at_ : Nat → Bool) : Nat :=
  sumOf (fun f => sumOf (fun _ => f.frame.len) (f.refs.filter (fun r => at_ r.port && r.st != .unlinked))) (h.grate.frames ++ undelivered h)
def portBacklog (h : Hub) (p : Nat) : Nat := backlogOf h (fun q => q == bondBase p)

/-- R373: the backlog that Damper holds, in bytes. -/
def damperBacklog (h : Hub) : Nat := backlogOf h (fun _ => true)

/-- R373: the pace needed, in per mille, with `cells` written over a period of `us`. -/
def paceNeed (h : Hub) (cells us : Nat) : Nat :=
  let drain := getN h Obj.BW_DRAIN
  let backlog := max (occupancy h * 2048) (damperBacklog h * 8)
  let g := (groupsIn h).length
  if g == 0 then 1000
  else
    -- D in bit/s times us * drain, so that nothing is rounded before the last quotient
    let d := (cells * 2048 * drain + backlog * us) * 1000000
    min (d * getN h Obj.BW_MARGIN / (g * 51200000000 * us * drain)) 1000

/-- R374: the temperature band and the pace level. -/
def band (h : Hub) : Nat :=
  let t := (getI h Obj.BW_TJ).toNat / 10
  if sensorOut h then 7 else min (t / 15) 7

def level (need : Nat) : Nat := (([625, 700, 750, 800, 860, 900, 950, 1000].findIdx? (fun p => decide (need ≤ p)))).getD 7

/-- R375: a request to the regulator; a raise by the procedure is the voltage raise in progress of R103. -/
def avsRequest (h : Hub) (mv tries : Nat) : Hub :=
  let h := send h (.rail "AVSBus write" [getN h Obj.AVS_RAIL, mv])
  let h := setBellows h (fun b => { b with request := some (mv, tries), last := mv })
  if getN h Obj.BW_VDD_TARGET < mv && getB h Obj.BW_ENABLE && !getB h Obj.BW_RAISING then
    { setN (setBellows h (fun b => { b with raiseStart := h.now })) Obj.BW_RAISING 1 with hearth := { h.hearth with raising := true } }
  else h

/-! Flares (R378, R379) -/

/-- R378: OCCUPANCY_CELLS has risen by at least BW_FLARE_RISE within the last microsecond. -/
def riseSeen (h : Hub) : Bool :=
  h.bellows.seen.any (fun x => decide (x.2 + getN h Obj.BW_FLARE_RISE ≤ occupancy h))

/-- R378: the occupancy of a nanosecond is noted: what stood a microsecond ago, and each later change. -/
def bellowsSample (h : Hub) : Hub :=
  let o := occupancy h
  let xs := h.bellows.seen
  let xs := if (xs.getLast?.map (·.2)) == some o then xs else xs ++ [(h.now, o)]
  let old := xs.filter (fun x => decide (x.1 + 1000 < h.now))
  let young := xs.filter (fun x => decide (h.now ≤ x.1 + 1000))
  setBellows h (fun b => { b with seen := old.drop (old.length - 1) ++ young, rose := b.rose || riseSeen h })

/-- R378: what triggers a flare holds. A mark is reached once until the occupancy has fallen below it again. -/
def flareDue (h : Hub) : FlareCause → Bool
  | .growth => h.bellows.rose || riseSeen h
  | .highMark => decide (getN h Obj.BW_HIGH_MARK ≤ occupancy h) && !h.bellows.high
  | .underrun => h.heads.any (fun x => !x.2.off.isEmpty)
  | .lowLogicPace => h.bellows.slow

/-- R378, R379: the flare part of the procedure: the hold restarts; 850 mV is asked for, unless a flare is outstanding or the target is there.
A lowering that was granted before has its frame complete, and is superseded. -/
def flareNow (h : Hub) (c : FlareCause) : Hub :=
  let h := setBellows h (fun b => { b with
    flareUntil := h.now + getN h Obj.BW_FLARE_HOLD * 1000000
    rose := b.rose && c != .growth
    high := b.high || c == .highMark
    slow := b.slow && c != .lowLogicPace })
  let h := bump (setFlag h Obj.BW_FLARE) Obj.BW_FLARES
  let h := if c == .underrun then bump h Obj.BW_UNDERRUN_FLARES else h
  if getN h Obj.BW_VDD_TARGET < 850 && (h.bellows.request.map (·.1)) != some 850 then avsRequest h 850 1 else h

/-- R378: a flare trigger. While BW_ENABLE is 0 there is no flare. -/
def flare (h : Hub) (c : FlareCause) : Hub := if getB h Obj.BW_ENABLE && flareDue h c then flareNow h c else h

/-- R378: a write of BW_ENABLE: of 0, no flare goes on and BW_RAISING stays 0. -/
def writeBwEnable (h : Hub) (v : Nat) : Hub :=
  let h := setN h Obj.BW_ENABLE v
  if v == 0 then
    setN { setBellows h (fun b => { b with flareUntil := 0, rose := false, slow := false }) with hearth := { h.hearth with raising := false } } Obj.BW_RAISING 0
  else h

/-- R378: once in every BW_PERIOD; a trigger that no command FLARE has brought in time is taken here. (DEDUCED, log 36) -/
def bellowsStep (h : Hub) : Hub :=
  let need := paceNeed h h.bellows.written (getN h Obj.BW_PERIOD)
  let h := setBellows (setN h Obj.BW_PACE_NEED need) (fun b => { b with
    written := 0
    high := b.high && decide (getN h Obj.BW_HIGH_MARK ≤ occupancy h) })
  let v := getN h Obj.BW_VDD_TARGET
  if !getB h Obj.BW_ENABLE then
    let f := max (getN h Obj.BW_V_FIXED) (getN h Obj.BW_V_MIN)
    if h.bellows.request.isSome then h
    else if v < f then avsRequest h (min f (v + 10)) 1
    else if f < v && !h.bellows.fault && h.bellows.read then avsRequest h (max f (v - 10)) 1
    else h
  else match [FlareCause.growth, .highMark, .lowLogicPace].find? (flareDue h) with
    | some c => flareNow h c
    | none =>
      if h.bellows.request.isSome then h
      else
        let curve := getN h (at_ (8 * band h + level need) Obj.BC_VOLTAGE)
        let goal := if bankPaceNow h < need then max curve (v + 10) else curve
        if v < goal then avsRequest h (min (min goal (v + 10)) 850) 1
        else if goal < v && h.bellows.flareUntil ≤ h.now && !h.bellows.fault && h.bellows.read && occupancy h < getN h Obj.BW_LOW_MARK
          && decide (min (need * (1000 + getN h Obj.BW_HYSTERESIS) / 1000) 1000 ≤ bankPaceNow h) then
          avsRequest h (max (max goal (v - 10)) (getN h Obj.BW_V_MIN)) 1
        else h

/-- R375, R377: the regulator's response and VDone: the request is complete, and a fault in force ends. -/
def avsResponse (h : Hub) : Hub :=
  match h.bellows.request with
  | none => h
  | some (mv, _) =>
    let was := h.bellows.fault
    let h := setBellows h (fun b => { b with request := none, fault := false })
    let h := bump (setN h Obj.BW_VDD_TARGET mv) Obj.BW_REQUESTS
    if was then later h (.cleared 0x1502 supervisorUnit) else h

/-- R377: a request fails: it is sent once more; a second failure is a fault. A retry of R377's that fails changes nothing. -/
def avsTimeout (h : Hub) : Hub :=
  match h.bellows.request with
  | none => h
  | some (mv, 1) => bump (avsRequest h mv 2) Obj.BW_RETRIES
  | some (_, 2) =>
    let h := setBellows h (fun b => { b with request := none, fault := true })
    report (setFlag h Obj.BW_AVS_FAULT) 0x1502 supervisorUnit
  | some _ => setBellows h (fun b => { b with request := none })

/-- R377: while the fault is in force, the last request goes out again every 1 ms. -/
def avsRetry (h : Hub) : Hub :=
  if h.bellows.fault && h.bellows.request.isNone then bump (avsRequest h h.bellows.last 3) Obj.BW_RETRIES else h

/-- R372, R375, R378: pace readings. One that began before VDone is discarded; the first trusted one ends the raise. R21, R377: while the
regulator has not acknowledged, in a fault between its retries too, none is trusted. -/
def paceReading (h : Hub) (bank logic : Nat) (tj : Int) (ok : Bool) : Hub :=
  let h := setI h Obj.BW_TJ tj
  if !ok || h.bellows.request.isSome || h.bellows.fault then h
  else
    let slow := h.bellows.slow || (decide (logic < 750) && (!h.bellows.read || decide (750 ≤ getN h Obj.BW_LOGIC_PACE)))
    let h := setN (setN h Obj.BW_PACE_NOW (min bank 1000)) Obj.BW_LOGIC_PACE logic
    let h := setBellows h (fun b => { b with read := true, slow := slow })
    if getB h Obj.BW_RAISING then
      let h := peak (setN h Obj.BW_RAISING 0) Obj.BW_RAISE_TIME_MAX (h.now - h.bellows.raiseStart)
      { h with hearth := { h.hearth with raising := false } }
    else h

/-- R382: saturated at 850 mV with the occupancy at or above the high mark. -/
def bwCeiling (h : Hub) : Hub :=
  if getN h Obj.BW_VDD_TARGET == 850 && decide (getN h Obj.BW_HIGH_MARK ≤ occupancy h) then
    report (setFlag h Obj.BW_CEILING) 0x1501 supervisorUnit
  else h

/-- R383: a mark's write is refused if the low mark would not lie below the high one. -/
def markCheck (h : Hub) (k v : Nat) : Option Abort :=
  let h := setN h k v
  if getN h Obj.BW_HIGH_MARK ≤ getN h Obj.BW_LOW_MARK then some (.value 0x80) else none

end Sys2Proof.Machine
end

