-- ==== Sys2Proof/Machine/Guards.lean ====
section
/-! DEFINITION. The Guard units (R443-R455) and Hearth port B (R94-R97): what a request is judged by, how it is carried out,
violation records, and the changing of a table. -/

namespace Sys2Proof.Machine

/-- R450, R448: the keys of an entry's shadow and operational fields. -/
def shadowKeys (g : Nat) : List Nat := [Obj.RG_VALID g, Obj.RG_BASE g, Obj.RG_LIMIT g, Obj.RG_READ g, Obj.RG_WRITE g]
def operKeys (g : Nat) : List Nat := [Obj.RG_OPER_VALID g, Obj.RG_OPER_BASE g, Obj.RG_OPER_LIMIT g, Obj.RG_OPER_READ g, Obj.RG_OPER_WRITE g]

/-! Carrying a request out (R91-R97) -/

/-- One word of a write: a word that port A writes too is discarded (R95); any other lands. (DEDUCED, log 45) -/
def portBWord (r : PortBRequest) (h : Hub) (i : Nat) : Hub :=
  let a := r.addr + 32 * i
  if r.meets.contains i then bump h Obj.WRITE_COLLISIONS
  else storeSurface h ((List.range 32).map (fun j => (a + j, (r.data[32 * i + j]?).getD 0)))

/-- R94: a request that the arbiter serves word by word: the words still to come, the bytes that it has read, and whether one of them
was poisoned. -/
structure PortBJob where
  req : PortBRequest
  left : List Nat
  data : List Byte := []
  bad : Bool := false
  /-- the surface coder's job: the words that its tile lanes write, in order -/
  coder : Option (List (List (Nat × Byte))) := none
deriving DecidableEq, Repr, Inhabited

def portBJob (r : PortBRequest) : PortBJob := { req := r, left := List.range r.words }

/-- R95, R97: word `i` of a request is served. -/
def portBServe (m : List Host.Cell) (h : Hub) (j : PortBJob) (i : Nat) : PortBJob × Hub :=
  let a := j.req.addr + 32 * i
  let j := { j with left := j.left.tail }
  if let some ws := j.coder then (j, { h with stores := h.stores ++ nth ws i [] })
  else if j.req.write then (j, portBWord j.req h i)
  else
    let mine (e : EccError) : Bool := physAddr h a == some (wordAddr e.group e.bank e.row)
    let (x, h) := eccErrors h (j.req.ecc.filter mine) true (liveWord m h)
    let word := (List.range 32).map (fun k => x.byte ((physAddr h (a + k)).getD (a + k)) (surfaceByte m h (a + k)))
    ({ j with data := j.data ++ word, bad := j.bad || x.bad }, h)

/-- R95, R97, R23: a request completes: 0 normally, 1 as a write collision, 2 poisoned, 3 with the error completion of a bank group that
is out of service and has no relief row for a word of it. (DEDUCED, log 45) -/
def portBDone (h : Hub) (j : PortBJob) : Hub :=
  let r := j.req
  let lost := (List.range r.words).any (fun i => (physAddr h (r.addr + 32 * i)).isNone)
  if j.coder.isSome then h
  else if r.write then send h (.portB r.master (if lost then 3 else if (List.range r.words).any r.meets.contains then 1 else 0) [])
  else send h (.portB r.master (if lost then 3 else if j.bad then 2 else 0) (if lost then [] else j.data))

/-- R94: turns of the arbiter, one word each: the jobs of each master in order, the masters in round robin. -/
def portBTurns (m : List Host.Cell) : Nat → List (List PortBJob) → Hub → Hub
  | 0, _, h => h
  | _ + 1, [], h => h
  | n + 1, [] :: gs, h => portBTurns m n gs h
  | n + 1, (j :: js) :: gs, h => match j.left with
    | [] => portBTurns m n (gs ++ [js]) (portBDone h j)
    | i :: _ =>
      let (j, h) := portBServe m h j i
      if j.left.isEmpty then portBTurns m n (gs ++ [js]) (portBDone h j) else portBTurns m n (gs ++ [j :: js]) h

/-- R94: requests are served to their ends, those of different masters word by word in turn; which master has the first turn the
manual leaves open: the one whose request came first, and the surface coder, whose jobs `coder` are, last. (DESIGN CHOICE, log 45) -/
def portBServeWith (m : List Host.Cell) (h : Hub) (rs : List PortBRequest) (coder : List (List PortBJob)) : Hub :=
  let masters := (rs.map (·.master)).eraseDups
  let groups := masters.map (fun u => (rs.filter (fun r => r.master == u)).map portBJob)
  portBTurns m (sumOf (fun r => r.words + 2) rs + sumOf (fun g => sumOf (fun j => j.left.length + 2) g + 1) coder + masters.length + 1) (groups ++ coder) h

/-- R94: requests alone. -/
def portBServeAll (m : List Host.Cell) (h : Hub) (rs : List PortBRequest) : Hub := portBServeWith m h rs []

/-- R388, R42: every group of the request is On, or its wake has been triggered and the request waits. (DEDUCED, log 44) -/
def portBReady (h : Hub) (r : PortBRequest) : Bool := (requestGroups h r).all (domOn h)

/-- R94: the words that stores write, in their order. -/
def storeWords : List (Nat × Byte) → List (List (Nat × Byte))
  | [] => []
  | x :: r => match storeWords r with
    | (y :: w) :: ws => if x.1 / 32 == y.1 / 32 then (x :: y :: w) :: ws else [x] :: (y :: w) :: ws
    | ws => [x] :: ws

/-- R449, R94: what waited at port B goes on: requests in flight whose domains are On, and the surface coder's tile lanes, whose words take
turns with those of the other masters. -/
def portBResume (m : List Host.Cell) (h : Hub) : Hub :=
  let lanes (n : Nat) : PortBRequest := { master := tileLaneUnit 0, write := true, addr := 0, words := n }
  let go := (h.guards.inFlight.filter (fun x => portBReady h x.req)).map (·.req)
  let h := { h with guards := { h.guards with inFlight := h.guards.inFlight.filter (fun x => !portBReady h x.req) } }
  let before := h.stores
  let h := resumeLanes m h
  let ws := storeWords (h.stores.drop before.length)
  portBServeWith m { h with stores := before } go 
    (if ws.isEmpty then [] else [[{ portBJob (lanes ws.length) with coder := some ws }]])

/-- R443-R446, R451: a port B request. (DEDUCED, log 44) -/
def portBRequest (m : List Host.Cell) (h : Hub) (r : PortBRequest) : Hub :=
  let g := guardOf r.master
  if !h.part.has r.master || !h.part.has (guardUnit g) then h
  else match guardCheck h r with
    | (.error, h) => send h (.portB r.master 3 [])
    | (.suppressed, h) => send h (.portB r.master 0 (if r.write then [] else List.replicate (32 * r.words) 0))
    | (.allowed, h) =>
      if portBReady h r then portBServeAll m h [r]
      else
        let h := forEach ((requestGroups h r).filter (fun d => !domOn h d)) h (fun h d => wakeDomain h d .grate)
        { h with guards := { h.guards with inFlight := h.guards.inFlight ++ [⟨g, getN h (Obj.G_EPOCH g), r⟩] } }

/-- R447: the supervisor takes the oldest record into the violation log. (DEDUCED, log 44) -/
def violationRecord (h : Hub) : Hub :=
  match h.guards.records with
  | [] => h
  | v :: rest =>
    let n := getN h (Obj.VL_TOTAL 0)
    let p := n % 64
    let h := setN { h with guards := { h.guards with records := rest } } (Obj.VL_TOTAL 0) ((n + 1) % 2 ^ 32)
    let put (h : Hub) (k x : Nat) : Hub := setN h (at_ p k) x
    let h := put (put (put h (Obj.VL_SEQ 0) ((n + 1) % 2 ^ 32)) (Obj.VL_MASTER 0) v.master) (Obj.VL_GUARD 0) v.guard
    let h := put (put (put h (Obj.VL_OPERATION 0) (if v.write then 1 else 0)) (Obj.VL_ADDRESS 0) v.addr) (Obj.VL_LENGTH 0) v.length
    let h := put (put (put h (Obj.VL_REGION 0) v.region) (Obj.VL_REASON 0) v.reason) (Obj.VL_EPOCH 0) v.epoch
    put h (Obj.VL_TIME 0) v.time

/-! Changing a table (R448-R452) -/

/-- R448: what refuses a shadow table. -/
def shadowCheck (h : Hub) (g : Nat) : Option Nat :=
  let vs := (List.range 32).filter (fun i => getB h (at_ i (Obj.RG_VALID g)))
  let base (i : Nat) := getN h (at_ i (Obj.RG_BASE g))
  let limit (i : Nat) := getN h (at_ i (Obj.RG_LIMIT g))
  if vs.any (fun i => decide (limit i < base i)) then some 0x01
  else if vs.any (fun i => vs.any (fun j => i != j && decide (base i ≤ limit j) && decide (base j ≤ limit i))) then some 0x02
  else if vs.any (fun i => decide (h.part.hearthBytes / 64 ≤ limit i)) then some 0x80
  else none

/-- Copy one table of a Guard to the other. -/
def copyTable (h : Hub) (src dst : List Nat) : Hub :=
  forEach (List.range 32) h (fun h i => forEach (src.zip dst) h (fun h x => setV h (at_ i x.2) (getV h (at_ i x.1))))

/-- R449: the shadow becomes the operational table. -/
def installTable (h : Hub) (g : Nat) : Hub :=
  let h := copyTable h (shadowKeys g) (operKeys g)
  setN h (Obj.G_VALID_REGIONS g) ((List.range 32).filter (fun i => getB h (at_ i (Obj.RG_VALID g)))).length

/-- R448: a refused commit. -/
def refuseTable (h : Hub) (g : Nat) : Hub := bump (setFlag h (Obj.G_REFUSED g)) (Obj.G_REFUSALS g)

/-- R448, R449: a write of 1 to G_COMMIT: the hub that results, and the abort if the commit is refused. -/
def commitShadow (h : Hub) (g : Nat) : Option Abort × Hub :=
  match shadowCheck h g with
  | some d => (some (.table d), refuseTable h g)
  | none => (none, bump (installTable h g) (Obj.G_EPOCH g))

/-- R448: a write of 2 to G_COMMIT. -/
def commitCopy (h : Hub) (g : Nat) : Hub := copyTable h (operKeys g) (shadowKeys g)

/-- R450: a locked Guard takes these writes inside an SPDM session alone. -/
def guardLocked (h : Hub) (src : Src) : Option Abort := if getB h (Obj.G_LOCK 0) && !inSession h src then some .session else none

/-- R449: the epochs under which the requests of a Guard in flight were judged. -/
def epochsInFlight (h : Hub) (g : Nat) : List Nat :=
  (h.guards.inFlight.filter (fun x => x.guard == g)).map (·.epoch) ++ ((waitingPasses h).filter (fun x => x.guard == g)).map (·.epoch)

/-- R449: the highest epoch for which no request judged under an earlier one is in flight. -/
def epochDrained (h : Hub) (g : Nat) : Hub :=
  let mine := epochsInFlight h g
  setN h (Obj.G_DRAINED_EPOCH g) (mine.foldl min (getN h (Obj.G_EPOCH g)))

/-- R452: at a restart of the supervisor core every shadow is committed, giving epoch 1; one that is refused leaves the
default table in force. -/
def guardsStart (h : Hub) : Hub :=
  forEach (List.range 16) h (fun h g =>
    let h := setN (setN h (Obj.G_EPOCH g) 1) (Obj.G_DRAINED_EPOCH g) 1
    match shadowCheck h g with
    | none => installTable h g
    | some _ =>
      let h := forEach (List.range 32) h (fun h i => forEach (operKeys g) h (fun h k => setV h (at_ i k) (defaultVal h.part (at_ i k))))
      refuseTable (setN h (Obj.G_VALID_REGIONS g) 1) g)

end Sys2Proof.Machine
end

