-- ==== Sys2Proof/Machine/Pd.lean ====
section
/-! DEFINITION. Power delivery (R336-R356): attach and contracts, the power budget, swaps, hard reset, fast role swap and
ride-through, and stage faults. -/

namespace Sys2Proof.Machine

def setPd (h : Hub) (f : Pd → Pd) : Hub := { h with pd := f h.pd }
def putPort (h : Hub) (p : Nat) (x : PdPort) : Hub := setPd h (fun d => { d with ports := mset d.ports p x })
def updPort (h : Hub) (p : Nat) (f : PdPort → PdPort) : Hub := putPort h p (f (pdPort h p))

/-- The port's PD core is in service and the port is enabled. -/
def pdOn (h : Hub) (p : Nat) : Bool := decide (p < 4) && inService h (pdUnit p) && getB h (Obj.PD_ENABLE p)

/-- R338: the port counts in the budget: it is not fused off, and PD_ENABLE is 1. -/
def budgeted (h : Hub) (p : Nat) : Bool := decide (p < 4) && h.part.has (pdUnit p) && getB h (Obj.PD_ENABLE p)

def isSink (h : Hub) (p : Nat) : Bool := getN h (Obj.PD_POWER_ROLE p) == 1

/-- R338: an explicit contract. -/
def hasContract (h : Hub) (p : Nat) : Bool := getN h (Obj.CONTRACT_MV p) != 0

/-- The hub is in a fast role swap or in ride-through. -/
def inRide (h : Hub) : Bool := [.signalled, .switched, .riding].contains h.pd.supply

/-- R347: PD0 is armed for fast role swap. -/
def frsArmed (h : Hub) : Bool :=
  pdOn h 0 && (pdPort h 0).attached && (pdPort h 0).revision != .r20 && !isSink h 0 && hasContract h 0 && h.pd.frsCurrent != 0
  && !(pdPort h 0).falling && h.pd.supply == .fed

/-- R356: the level of ADAPTER_OK, which may have risen again after it was accepted as low. (DESIGN CHOICE, log 35) -/
def adapterLevel (h : Hub) : Bool := h.pd.adapterOk || (h.pd.lowAt != h.now && Config.adapterHigh h.now)

/-- R353: the levels of PD_ENp and of PD_SNK_EN0; PD_EN0 and PD_SNK_EN0 are never high together. -/
def driveLevel (h : Hub) (p : Nat) (v : Bool) : Hub :=
  let h := updPort h p (fun x => { x with rising := none })
  if (pdPort h p).en == v then h else send (updPort h p (fun x => { x with en := v })) (.stage p "PD_EN" [if v then 1 else 0])
def sinkLevel (h : Hub) (v : Bool) : Hub :=
  if h.pd.snkEn == v then h else send (setPd h (fun d => { d with snkEn := v })) (.stage 0 "PD_SNK_EN" [if v then 1 else 0])
def driveEn (h : Hub) (p : Nat) (v : Bool) : Hub := driveLevel (if p == 0 && v then sinkLevel h false else h) p v
def driveSnk (h : Hub) (v : Bool) : Hub := sinkLevel (if v then driveLevel h 0 false else h) v

/-- R353: PMBus transfers with the stage of a port: a voltage in linear16, at the exponent that VOUT_MODE gives. -/
def linear16 (p mv : Nat) : Nat := mv * 2 ^ (Config.voutExp p % 17) / 1000
def stageVolt (h : Hub) (p mv : Nat) : Hub :=
  send (send h (.stage p "VOUT_MODE" [getN h (Obj.STAGE_ADDR p), Config.voutExp p % 17]))
    (.stage p "VOUT_COMMAND" [getN h (Obj.STAGE_ADDR p), linear16 p mv])

/-- R353: READ_VOUT, a linear16 voltage, lies within 5 % of a target in mV. -/
def voltNear (p mv reading : Nat) : Bool :=
  let want := mv * 2 ^ (Config.voutExp p % 17)
  decide (19 * want ≤ 20000 * reading) && decide (20000 * reading ≤ 21 * want)

/-- R353: the hub reads READ_VOUT of a stage that is to reach a voltage: a free value. PD_EN goes high once it lies within 5 % of the target;
until then it stays low, and the hub reads again. (DESIGN CHOICE, log 8, 35) -/
def stageRead (h : Hub) (p : Nat) : Hub :=
  match (pdPort h p).rising with
  | none => h
  | some mv =>
    let reading := Config.freeNat h.fresh % 65536
    let h := send (tick h) (.stage p "READ_VOUT" [getN h (Obj.STAGE_ADDR p), reading])
    if voltNear p mv reading then driveEn h p true else h

/-- R353: the stage is switched on. -/
def stageOn (h : Hub) (p mv : Nat) : Hub :=
  let h := send h (.stage p "OPERATION" [getN h (Obj.STAGE_ADDR p), 0x80])
  stageRead (updPort h p (fun x => { x with rising := some mv })) p

/-- R353: the hub reads the stages that have not reached their voltages. -/
def stageReads (h : Hub) : Hub := forEach (List.range 4) h stageRead

/-- R339: a port without a contract sources vSafe5V at the Type-C Current of 1.5 A. -/
def safe5V (h : Hub) (p : Nat) : Hub := stageOn (stageVolt (send h (.stage p "Type-C current" [1500])) p 5000) p 5000

/-- R355: PD_STATE. A swap that takes more than one command is the fast role swap. -/
def pdState (h : Hub) (p : Nat) : Nat :=
  let x := pdPort h p
  if p == 0 && (h.pd.supply == .signalled || h.pd.supply == .switched) then 5
  else if p == 0 && h.pd.supply == .riding then 6
  else if !x.attached then 0
  else if x.falling then 4
  else if !hasContract h p then 1
  else if x.eprMode then 3 else 2

/-! The budget (R338-R342) -/

/-- PB_MIN, as it reads and is in force. -/
def pbMin (h : Hub) (p : Nat) : Nat := getN h (Obj.PB_MIN p)

/-- R340: the PB_MIN that was written last: a higher one comes into force, and reads, once it fits. (DEDUCED, log 35) -/
def pbMinWanted (h : Hub) (p : Nat) : Nat := (pdPort h p).minNext.getD (pbMin h p)

/-- R338: what a port is charged; R346: a port that has been disabled keeps its grant until vSafe0V. -/
def committed (h : Hub) (p : Nat) : Nat :=
  if budgeted h p then max (getN h (Obj.PB_GRANTED p)) (pbMin h p)
  else if (pdPort h p).falling then getN h (Obj.PB_GRANTED p) else 0

def committedSum (h : Hub) : Nat := sumOf (committed h) (List.range 4)

/-- R338: PB_UNALLOTTED. -/
def unallotted (h : Hub) : Nat := getN h (Obj.PB_AVAILABLE 0) - committedSum h

/-- R341: PB_CAP. -/
def pbCap (h : Hub) (p : Nat) : Nat :=
  let others := (List.range 4).filter (fun q => q != p && budgeted h q && getN h (Obj.PB_PRIORITY q) ≤ getN h (Obj.PB_PRIORITY p)
    && pbMin h q < committed h q)
  if budgeted h p then
    min (getN h (Obj.PB_MAX p)) (committed h p + unallotted h + sumOf (fun q => committed h q - pbMin h q) others)
  else 0

/-- R337: the most current a port may offer, and the voltages. -/
def maxMa (h : Hub) (p : Nat) : Nat := if 5000 ≤ getN h (Obj.CABLE_MAX_MA p) then 5000 else 3000
def voltages (h : Hub) (p : Nat) : List Nat :=
  [5000, 9000, 15000, 20000] ++ (if p == 0 && (pdPort h 0).eprMode then [28000, 36000, 48000] else [])

/-- R341: the PDOs that a cap in mW leaves: voltage and current, one after the other. -/
def pdos (h : Hub) (p cap : Nat) : List Nat :=
  (voltages h p).flatMap (fun mv =>
    let full := maxMa h p
    let ma := if mv * full ≤ cap * 1000 then full else cap * 1000 / mv / 10 * 10
    if mv == 5000 || 500 ≤ ma then [mv, ma] else [])

/-- Source_Capabilities on a port, if a partner draws from it. -/
def offer (h : Hub) (p cap : Nat) : Hub :=
  if (pdPort h p).attached && !isSink h p && !(pdPort h p).falling then pdSend h p "Source_Capabilities" (pdos h p cap) else h

/-- R341, R342: the capabilities that a port has now: a port that is being cut is offered its PB_MIN alone. -/
def offerNow (h : Hub) (p : Nat) : Hub := offer h p (if (pdPort h p).cutting then pbMinWanted h p else pbCap h p)

/-- R341: ports in descending PB_PRIORITY, then ascending number. -/
def offerOrder (h : Hub) : List Nat := (List.range 8).reverse.flatMap (fun x => (List.range 4).filter (fun p => getN h (Obj.PB_PRIORITY p) == x))

/-- R340: what PB_SUPPLY and PB_RESERVE leave, 0 in ride-through (R348). -/
def availableWant (h : Hub) : Nat :=
  if inRide h || h.pd.supply == .holdUp then 0 else getN h (Obj.PB_SUPPLY 0) - getN h (Obj.PB_RESERVE 0)

/-- R340: a new PB_MIN and a new PB_AVAILABLE come into force once Σ committed fits. -/
def settleValues (h : Hub) : Hub :=
  let h := forEach (List.range 4) h (fun h p => match (pdPort h p).minNext with
    | none => h
    | some v =>
      let new := updPort (setN h (Obj.PB_MIN p) v) p (fun x => { x with minNext := none })
      if committedSum new ≤ availableWant h then new else h)
  if committedSum h ≤ availableWant h || inRide h || h.pd.supply == .holdUp then setN h (Obj.PB_AVAILABLE 0) (availableWant h) else h

/-- R341: after a change of the budget: whenever PB_UNALLOTTED rises, the ports whose PB_CAP rises get new offers. -/
def settleBudget (was h : Hub) : Hub :=
  let h := settleValues h
  if unallotted was < unallotted h then
    forEach (offerOrder h) h (fun h p => if pbCap was p < pbCap h p && !(pdPort h p).cutting then offer h p (pbCap h p) else h)
  else h

/-- R342: ports that can be cut, in order: those of priority at most `pri` (other than `p`) that hold more than their PB_MIN,
ascending priority, then descending number. -/
def cutOrder (h : Hub) (p pri : Nat) : List Nat :=
  (List.range 8).flatMap (fun x => [3, 2, 1, 0].filter (fun q => q != p && budgeted h q && decide (x ≤ pri) && getN h (Obj.PB_PRIORITY q) == x
    && pbMinWanted h q < committed h q))

/-- R342: take candidates until `need` mW are free. -/
def takeCuts (h : Hub) (need : Nat) : List Nat → Nat → List Nat
  | [], _ => []
  | q :: r, free => if need ≤ free then [] else q :: takeCuts h need r (free + (committed h q - pbMinWanted h q))

/-- R342: a cut: the port is offered its PB_MIN. -/
def cutPort (h : Hub) (q : Nat) : Hub :=
  if (pdPort h q).cutting then h
  else offerNow (bump (updPort h q (fun x => { x with cutting := true })) (Obj.CUTS q)) q

/-- R342: a cut of a port has ended. -/
def endCut (h : Hub) (q : Nat) : Hub :=
  setPd h (fun d => { d with ports := d.ports.map (fun x =>
    (x.1, { x.2 with cutsPending := x.2.cutsPending.filter (· != q), cutting := x.2.cutting && x.1 != q })) })

/-- R342: power of a request in mW. -/
def requestMw (mv ma : Nat) : Nat := ceilDiv (mv * ma) 1000

/-- R338, R353: Accept: an increase is charged now, the stage is set to 110 % of the current and to the voltage. -/
def acceptRequest (h : Hub) (p mv ma : Nat) : Hub :=
  let h := setN h (Obj.PB_GRANTED p) (max (getN h (Obj.PB_GRANTED p)) (requestMw mv ma))
  let h := pdSend (updPort h p (fun x => { x with next := some (mv, ma), cutsPending := [] })) p "Accept" [mv, ma]
  stageVolt (send h (.stage p "IOUT_OC_FAULT_LIMIT" [getN h (Obj.STAGE_ADDR p), ceilDiv (ma * 11) 10])) p mv

/-- R342: a partner's request. One for a PDO that the port does not have, or of a port that is being cut above the PB_MIN that it was
offered, is rejected. Ports that are being cut for another request are no candidates: no cut is counted twice. (DEDUCED, log 35) -/
def pdRequest (h : Hub) (p mv ma : Nat) : Hub :=
  let x := pdPort h p
  if !pdOn h p || !x.attached || isSink h p || x.falling then h
  else
    let w := requestMw mv ma
    let no (h : Hub) : Hub := pdSend h p "Reject" [mv, ma]
    let reject (h : Hub) : Hub := offer (no h) p (pbCap h p)
    if x.cutting && decide (pbMinWanted h p < w) then no h
    else if !(voltages h p).contains mv || decide (maxMa h p < ma) || decide (getN h (Obj.PB_MAX p) < w) then reject h
    else if w ≤ committed h p + unallotted h then acceptRequest h p mv ma
    else if !x.cutsPending.isEmpty then pdSend h p "Wait" [mv, ma]
    else
      let cands := (cutOrder h p (getN h (Obj.PB_PRIORITY p))).filter (fun q => !(pdPort h q).cutting)
      let need := w - committed h p - unallotted h
      if sumOf (fun q => committed h q - pbMinWanted h q) cands < need then reject h
      else
        let cuts := takeCuts h need cands 0
        updPort (forEach cuts (pdSend h p "Wait" [mv, ma]) cutPort) p (fun x => { x with cutsPending := cuts })

/-- R338: PS_RDY for the contract that was accepted. (DEDUCED, log 35) -/
def psRdy (h : Hub) (p : Nat) : Hub :=
  let x := pdPort h p
  match x.next with
  | none => h
  | some (mv, ma) =>
    let was := h
    let h := updPort h p (fun x => { x with next := none })
    let h := setN (setN (setN h (Obj.PB_GRANTED p) (requestMw mv ma)) (Obj.CONTRACT_MV p) mv) (Obj.CONTRACT_MA p) ma
    let h := pdSend (bump h (Obj.CONTRACTS p)) p "PS_RDY" [mv, ma]
    settleBudget was (if x.cutting && decide (requestMw mv ma ≤ pbMinWanted h p) then endCut h p else h)

/-- R340: new values of the budget come into force, or ports are cut until they fit. -/
def settleOrCut (was h : Hub) : Hub :=
  let h := settleBudget was h
  let held := (List.range 4).any (fun p => (pdPort h p).minNext.isSome) || getN h (Obj.PB_AVAILABLE 0) != availableWant h
  if held then
    let need := sumOf (fun p => if budgeted h p then max (getN h (Obj.PB_GRANTED p)) (pbMinWanted h p) else 0) (List.range 4) - availableWant h
    forEach (takeCuts h need (cutOrder h 4 7) 0) h cutPort
  else h

/-- R340: Σ PB_MIN, with what was written last. -/
def minSum (h : Hub) : Nat := sumOf (fun p => if budgeted h p then pbMinWanted h p else 0) (List.range 4)

/-- R340: a write of PB_MIN, PB_SUPPLY or PB_RESERVE: refused, accepted, or, where what it asks for does not fit yet, accepted while ports
are cut (the second part of the result: answered with class 0x08, detail 0x02). A PB_MIN is held to PB_AVAILABLE as it reads; PB_SUPPLY and
PB_RESERVE to the PB_AVAILABLE that they give while ADAPTER_OK is high. (DEDUCED, log 35) -/
def pbWrite (h : Hub) (k v : Nat) : Except Abort (Bool × Hub) :=
  match (List.range 4).find? (fun p => k == Obj.PB_MIN p) with
  | some p =>
    let x := if v ≤ pbMin h p then updPort (setN h k v) p (fun x => { x with minNext := none }) else updPort h p (fun x => { x with minNext := some v })
    if minSum x > (if v ≤ pbMin h p then minSum h else getN h (Obj.PB_AVAILABLE 0)) then .error (.value 0x80)
    else
      let x := settleOrCut h x
      .ok ((pdPort x p).minNext.isSome, x)
  | none =>
    let x := setN h k v
    if minSum x > getN x (Obj.PB_SUPPLY 0) - getN x (Obj.PB_RESERVE 0) then .error (.value 0x80)
    else
      let x := settleOrCut h x
      .ok (getN x (Obj.PB_AVAILABLE 0) != availableWant x, x)

/-- R479, R340: after a reset that keeps the contracts and what they are charged, the stored settings come into force as written ones do:
ports are cut until a higher PB_MIN or a lower PB_AVAILABLE fits. `mins` are the values of PB_MIN from before. (DEDUCED, log 35) -/
def budgetRestored (h : Hub) (mins : List Nat) : Hub :=
  let h := forEach (List.range 4) h (fun h p =>
    let v := pbMin h p
    let o := nth mins p 0
    if o < v then updPort (setN h (Obj.PB_MIN p) o) p (fun x => { x with minNext := some v })
    else updPort h p (fun x => { x with minNext := none }))
  settleOrCut h h

/-! Attach and detach (R336, R337, R339) -/

/-- R336, R345: the roles after an attach: Source, DFP, VCONN Source, no contract. -/
def attachRoles (h : Hub) (p : Nat) : Hub :=
  let h := updPort h p (fun x => { x with next := none, cutsPending := [], eprMode := false })
  let h := setN (setN h (Obj.PD_POWER_ROLE p) 0) (Obj.PD_DATA_ROLE p) 0
  setN (setN (setN h (Obj.PD_VCONN p) 1) (Obj.CONTRACT_MV p) 0) (Obj.CONTRACT_MA p) 0

/-- R336, R388: an attach. A port attaches once the supply feeds it, outside Spring's first steps and Winter. (DEDUCED, log 47) -/
def pdAttach (h : Hub) (x : PdPartner) : Hub :=
  let p := x.port
  atPin (later h (.pinWake (if p == 0 then 50 else 51))) 60 (.attach x) (fun h =>
  if !pdOn h p || (pdPort h p).attached || (pdPort h p).falling || getN h Obj.SEASON == 0 || getN h Obj.SEASON == 3
    || inRide h || h.pd.supply == .holdUp then h
  else
    let h := attachRoles (updPort h p (fun y => { y with attached := true, revision := x.revision })) p
    offerNow (safe5V h p) p)

/-- R336, R337, R347, R354: a port that is attached detaches: its roles, its contract and all that was known of its partner and cable go,
VBUS and VCONN go off, and so do the port's links. Its charge goes now, or at vSafe0V. -/
def dropPort (h : Hub) (p : Nat) (keep : Bool) : Hub :=
  if !(pdPort h p).attached then h
  else
    let h := setN (setN (attachRoles h p) (Obj.PD_VCONN p) 0) (Obj.CABLE_MAX_MA p) 3000
    let h := if keep then h else setN h (Obj.PB_GRANTED p) 0
    let h := updPort h p (fun x => { x with attached := false, falling := decide (getN h (Obj.PB_GRANTED p) > 0), eprCable := false, revision := .r32 })
    let h := driveEn h p false
    let h := if p == 0 then usb2Detach (driveSnk (setPd h (fun d => { d with frsCurrent := 0 })) false) else h
    portLinkLost (if (pdPort h p).falling then h else endCut h p) p

/-- R337: a Discover Identity response of SOP'. -/
def discoverIdentity (h : Hub) (p ma : Nat) (epr : Bool) : Hub :=
  if !(pdPort h p).attached || getN h (Obj.PD_VCONN p) == 0 then h
  else offerNow (setN (updPort h p (fun x => { x with eprCable := epr })) (Obj.CABLE_MAX_MA p) ma) p

/-- R337: the partner enters EPR mode, which PD Revision 3.2 has. -/
def eprEntry (h : Hub) (p : Nat) : Hub :=
  if p == 0 && (pdPort h 0).attached && (pdPort h 0).eprCable && (pdPort h 0).revision == .r32 && !isSink h 0 then
    offerNow (pdSend (updPort h 0 (fun x => { x with eprMode := true })) 0 "EPR_Mode" []) 0
  else h

/-- R347: the hub's own Sink_Capabilities: 5 V at 3.0 A. -/
def hubSinkPdo : Nat × Nat := (5000, 3000)

/-- R347: the host's Sink_Capabilities; the hub's own answer the host's in the same exchange. (DEDUCED, log 35) -/
def sinkCaps (h : Hub) (ma : Nat) : Hub :=
  if (pdPort h 0).attached then
    pdSend (setPd h (fun d => { d with frsCurrent := ma })) 0 "Sink_Capabilities" [hubSinkPdo.1, hubSinkPdo.2]
  else h

/-! Swaps (R343, R344) -/

/-- R352: UP is Source again, so PD0 no longer asks the host for it. -/
def sourceAgain (h : Hub) (p : Nat) : Hub :=
  if p == 0 && h.pd.supply == .returning then setPd h (fun d => { d with supply := .fed }) else h

/-- A swap that has been carried out. -/
def swapDone (h : Hub) (p : Nat) : Hub := bump h (Obj.SWAPS_DONE p)

/-- R343: becoming Source or Sink by PR_Swap: Source is at vSafe5V, uncharged, with no contract; Sink releases the charge. -/
def becomePower (h : Hub) (p : Nat) (sink : Bool) : Hub :=
  let was := h
  let h := setN (setN (setN h (Obj.PD_POWER_ROLE p) (if sink then 1 else 0)) (Obj.CONTRACT_MV p) 0) (Obj.CONTRACT_MA p) 0
  let h := setN (updPort h p (fun x => { x with next := none, cutsPending := [], eprMode := false })) (Obj.PB_GRANTED p) 0
  let h := swapDone (if sink then driveSnk h true else safe5V h p) p
  let h := settleBudget was (endCut h p)
  if sink then h else offerNow (sourceAgain h p) p

def becomeData (h : Hub) (p : Nat) (ufp : Bool) : Hub := swapDone (setN h (Obj.PD_DATA_ROLE p) (if ufp then 1 else 0)) p
def becomeVconn (h : Hub) (p : Nat) : Hub := swapDone (setN h (Obj.PD_VCONN p) (1 - getN h (Obj.PD_VCONN p))) p

/-- A port that can swap: attached, with no hard reset under way; R351: on UP a swap that the fall of ADAPTER_OK precedes is abandoned. -/
def canSwap (h : Hub) (p : Nat) : Bool :=
  pdOn h p && (pdPort h p).attached && !(pdPort h p).falling && (p != 0 || [.fed, .riding, .returning].contains h.pd.supply)

/-- DEDUCED, log 35. -/
def answerSwap (h : Hub) (p : Nat) (ok : Bool) (f : Hub → Hub) : Hub :=
  if ok then f (pdSend h p "Accept" []) else pdSend h p "Reject" []

/-- Table 18.3: a partner's swap request is answered. -/
def partnerSwap (h : Hub) (p : Nat) (s : PartnerSwap) : Hub :=
  let allow (i : Nat) : Bool := bitOf (getN h (Obj.SWAP_ALLOW p)) i
  if !canSwap h p then h
  else match s with
    | .pr toSink =>
      answerSwap h p (p == 0 && allow 0 && (if toSink then !isSink h 0 && !adapterLevel h else isSink h 0 && adapterLevel h)) (fun h => becomePower h p toSink)
    | .dr toUfp => answerSwap h p (p == 0 && allow 1 && toUfp && getN h (Obj.PD_DATA_ROLE 0) == 0) (fun h => becomeData h p true)
    | .vconn => answerSwap h p (allow 2) (fun h => becomeVconn h p)

/-- Table 18.3: the hub sends a swap of its own. -/
def mayStart (h : Hub) (p : Nat) (k : SwapKind) : Bool :=
  let allow (i : Nat) : Bool := bitOf (getN h (Obj.SWAP_ALLOW p)) i
  canSwap h p && (match k with
  | .prSwap => p == 0 && isSink h 0 && h.pd.adapterOk && allow 0
  | .drSwap => p == 0 && hasContract h 0 && getN h (Obj.PD_DATA_ROLE 0) == 0 && allow 1 && allow 3
  | .vconnSwap => getN h (Obj.PD_VCONN p) == 0 && allow 2)

def carryOut (h : Hub) (p : Nat) : SwapKind → Hub
  | .prSwap => becomePower h p false
  | .drSwap => becomeData h p true
  | .vconnSwap => becomeVconn h p

def swapName : SwapKind → String
  | .prSwap => "PR_Swap" | .drSwap => "DR_Swap" | .vconnSwap => "VCONN_Swap"

/-- R344: the hub starts its own swap request; a partner's request that meets it is settled by the port's mutex. (DEDUCED, log 35) -/
def swapSend (h : Hub) (p : Nat) (k : SwapKind) (a : SwapAnswer) : Hub :=
  if !mayStart h p k then h
  else match a with
    | .accepted => carryOut (pdSend h p (swapName k) []) p k
    | .rejected => pdSend h p (swapName k) []
    | .crossed s ownFirst reply =>
      let h := bump h (Obj.SWAP_COLLISIONS p)
      if isSink h p then partnerSwap (bump (if ownFirst then pdSend h p (swapName k) [] else h) (Obj.SWAPS_ABANDONED p)) p s
      else if ownFirst then
        let h := pdSend (pdSend h p (swapName k) []) p "Wait" []
        if reply then carryOut h p k else h
      else
        let h := partnerSwap h p s
        if mayStart h p k then
          let h := pdSend h p (swapName k) []
          if reply then carryOut h p k else h
        else h

/-! Fast role swap and ride-through (R347-R352) -/

/-- R348: Source ports stop: their partners detach, and each charge goes at vSafe0V. -/
def stopSources (h : Hub) (ps : List Nat) : Hub :=
  forEach ps h (fun h p => if isSink h p then driveEn h p false else dropPort (driveEn h p false) p true)

/-- R348, R350: the shed: domains Off and in Ember, Grate ports down. A bit for GP1 or GP2 is ignored. -/
def shed (h : Hub) : Hub :=
  let h := forEach (List.range 64) h (fun h d =>
    if bitOf (getN h (Obj.RT_DOMAIN_OFF 0)) d then forceDomain h true d
    else if bitOf (getN h (Obj.RT_DOMAIN_EMBER 0)) d then forceDomain h false d else h)
  forEach (List.range 29) (setGrate h (fun g => { g with shedEnds := false })) (fun h n =>
    if bitOf (getN h (Obj.RT_PORT_SHED 0)) n && n != 1 && n != 2 then
      let was := portBlocked h n
      portFollow (setGrate h (fun g => { g with shed := insertNew g.shed (bondBase n) })) n was
    else h)

/-- R352: shed domains and ports return to service on their next wake trigger. -/
def unshed (h : Hub) : Hub := unforce (setGrate h (fun g => { g with shedEnds := true }))

/-- The host has handed UP back by PR_Swap before ride-through is over: the dock supply feeds the hub (R343, R352). -/
def handedBack (h : Hub) : Bool := h.pd.supply == .riding && !isSink h 0

/-- R348, R351: ADAPTER_OK has been low for 5 µs. While UP is still Sink the hub rides through on the host's power once more, and every
other Source port stops. Where UP has become Source before the high level of 100 ms, the hub is on its hold-up energy. (DEDUCED, log 35) -/
def adapterLow (h : Hub) : Hub :=
  if handedBack h then shed (stopSources (setPd h (fun d => { d with supply := .holdUp, lowAt := h.now })) [0, 1, 2, 3])
  else if !h.pd.adapterOk then h
  else
    let armed := frsArmed h
    let h := setPd h (fun d => { d with adapterOk := false, lowAt := h.now })
    if armed then
      let h := send (setPd h (fun d => { d with supply := .signalled })) (.stage 0 "FRS signal" [90])
      let h := bump (setFlag h (Obj.RT_ACTIVE 0)) (Obj.FRS_COUNT 0)
      let h := driveEn (stopSources h [1, 2, 3]) 0 false
      setN h (Obj.PB_AVAILABLE 0) 0
    else if h.pd.supply == .fed then
      shed (stopSources (setPd h (fun d => { d with supply := .holdUp })) [0, 1, 2, 3])
    else if h.pd.supply == .returning then
      shed (stopSources (setN (setPd h (fun d => { d with supply := .riding, drawn := 0 })) (Obj.PB_AVAILABLE 0) 0) [1, 2, 3])
    else h

/-- R348: the host's VBUS exceeds 4.75 V: the sink switch closes, and the shed follows. -/
def frsArrival (h : Hub) : Hub :=
  if h.pd.supply == .signalled then shed (driveSnk (setPd h (fun d => { d with supply := .switched })) true) else h

/-- R349: VBUS does not come. -/
def frsTimeout (h : Hub) : Hub :=
  if h.pd.supply == .signalled then
    let h := bump (setPd h (fun d => { d with supply := .holdUp })) (Obj.FRS_FAILS 0)
    shed (stopSources h [0])
  else h

/-- R352: ride-through ends: the budget is restored, DN ports may attach, shed units return, PD0 sends PR_Swap. -/
def rideEnds (h : Hub) : Hub :=
  let was := h
  let h := setPd h (fun d => { d with supply := if isSink h 0 then .returning else .fed, drawn := 0 })
  let h := unshed (settleBudget was h)
  if mayStart h 0 .prSwap then pdSend h 0 "PR_Swap" [] else h

/-- R348, R349, R343: the FR_Swap exchange is complete: UP is Sink under an explicit contract for the hub's Sink_Capabilities, and its
charge as Source is gone. (DEDUCED, log 35) -/
def frSwapComplete (h : Hub) : Hub :=
  if h.pd.supply == .switched then
    let was := h
    let h := setN (setN (setN h (Obj.PD_POWER_ROLE 0) 1) (Obj.CONTRACT_MV 0) hubSinkPdo.1) (Obj.CONTRACT_MA 0) hubSinkPdo.2
    let h := swapDone (bump (setPd (setN h (Obj.PB_GRANTED 0) 0) (fun d => { d with supply := .riding, drawn := 0 })) (Obj.CONTRACTS 0)) 0
    let h := settleBudget was (endCut (updPort h 0 (fun x => { x with next := none, eprMode := false })) 0)
    if h.pd.adapterOk then rideEnds h else h
  else h

/-- R350, R353: PD0 reads READ_IOUT of UP's stage in ride-through. -/
def ioutReading (h : Hub) (ma : Nat) : Hub :=
  if h.pd.supply != .riding || handedBack h then h
  else
    let h := send h (.stage 0 "READ_IOUT" [getN h (Obj.STAGE_ADDR 0), ma])
    if ma ≤ 2900 then setPd h (fun d => { d with drawn := 0 })
    else if h.pd.drawn < 2 then setPd h (fun d => { d with drawn := d.drawn + 1 })
    else
      let h := setFlag (setPd h (fun d => { d with drawn := 0 })) (Obj.RT_OVERDRAW 0)
      forEach ((List.range 64).filter (fun d => !([50, 57, 60, 63].contains d))) h (fun h d => forceDomain h true d)

/-- R349, R345: the dock supply feeds the hub again: the budget is restored and what was shed returns. -/
def supplyBack (h : Hub) : Hub := unshed (settleBudget h (setPd h (fun d => { d with supply := .fed })))

/-- R349, R352: ADAPTER_OK has been high for 100 ms. -/
def adapterReturn (h : Hub) : Hub :=
  let h := setPd h (fun d => { d with adapterOk := true })
  match h.pd.supply with
  | .riding => rideEnds h
  | .holdUp => supplyBack h
  | _ => h

/-- R352: PD0 sends PR_Swap until the host accepts it. -/
def swapRetry (h : Hub) (accepted : Bool) : Hub :=
  if h.pd.supply == .returning && mayStart h 0 .prSwap then
    let h := pdSend h 0 "PR_Swap" []
    if accepted then becomePower h 0 false else h
  else h

/-! Hard reset (R345, R346) -/

/-- The hub runs on the host's VBUS: from the close of the sink switch until the dock supply feeds it again. -/
def fedByHost (h : Hub) : Bool := h.pd.supply == .switched || (h.pd.supply == .riding && isSink h 0)

/-- R345, R352: the dock supply feeds the hub again, since ADAPTER_OK is high. -/
def supplyReturns (h : Hub) : Hub := supplyBack (setPd h (fun d => { d with adapterOk := true }))

/-- R336: a detach ends the contract and releases its charge, during a hard reset at vSafe0V (R346). The host's VBUS goes with it: without
the dock supply the hub restarts from power-on, as R352 states of a hard reset. (DEDUCED, log 35) -/
def pdDetach (h : Hub) (p : Nat) : Hub :=
  let was := h
  if !(pdPort h p).attached then h
  else
    let x := settleBudget was (dropPort (sourceAgain h p) p (pdPort h p).falling)
    if p != 0 || !fedByHost was then x else if adapterLevel was then supplyReturns x else later x .powerOn

/-- R345, R352: a hard reset. The hub starts none on UP while it is Sink in ride-through; from the host it removes VBUS, on which the hub runs from the
close of the sink switch. One that comes before that ends the fast role swap: without the dock supply the hub goes on as R351 states. -/
def hardReset (h : Hub) (p : Nat) (byPartner : Bool) : Hub :=
  let sinking := p == 0 && (fedByHost h || (inRide h && isSink h 0))
  let signalled := p == 0 && h.pd.supply == .signalled
  if !(pdPort h p).attached || (sinking && !byPartner) then h
  else if p == 0 && fedByHost h && !adapterLevel h then later h .powerOn
  else
    let h := if p == 0 && fedByHost h then supplyReturns h else h
    let h := if byPartner then h else pdSend h p "Hard_Reset" []
    let h := driveEn (if p == 0 then driveSnk h false else h) p false
    let h := bump (setFlag (attachRoles (sourceAgain h p) p) (Obj.PD_HARD_RESET p)) (Obj.HARD_RESETS p)
    let h := portLinkLost (updPort h p (fun x => { x with falling := true })) p
    if !signalled then h
    else if adapterLevel h then supplyReturns h
    else shed (stopSources (setPd h (fun d => { d with supply := .holdUp })) [0])

/-- R346, R339, R348: VBUS is below vSafe0V: the grant is released, cuts of the port end, and the port goes back to vSafe5V. -/
def safe0V (h : Hub) (p : Nat) : Hub :=
  let was := h
  if !(pdPort h p).falling && !(p == 0 && (h.pd.supply == .signalled || h.pd.supply == .switched)) then h
  else
    let h := setN (updPort h p (fun x => { x with falling := false })) (Obj.PB_GRANTED p) 0
    let h := settleBudget was (endCut h p)
    if (pdPort h p).attached && h.pd.supply != .holdUp && !inRide h then offerNow (safe5V h p) p else h

/-- R342: a cut partner that does not request in time is hard reset. -/
def cutTimeout (h : Hub) (p : Nat) : Hub := if (pdPort h p).cutting && (pdPort h p).next.isNone then hardReset h p false else h

/-! Stage faults (R354) and PD_ENABLE (R338) -/

/-- R354: the stages that report a fault: STATUS_WORD of each stage is read, and each port at fault detaches. A stage
may report a fault while PD_ENABLE of its port is 0. -/
def stageFault (h : Hub) (ps : List Nat) : Hub :=
  let h := forEach ((List.range 4).filter (fun p => h.part.has (pdUnit p))) h (fun h p =>
    send h (.stage p "STATUS_WORD" [getN h (Obj.STAGE_ADDR p)]))
  forEach ps h (fun h p =>
    if 4 ≤ p || !inService h (pdUnit p) then h
    else
      let was := h
      let times := ((pdPort h p).faults ++ [h.now]).filter (fun t => decide (h.now < t + 10000000000))
      let h := setFlag (driveEn h p false) (Obj.PD_STAGE_FAULT p)
      let h := updPort (dropPort (sourceAgain h p) p true) p (fun x => { x with faults := times })
      let h := send h (.stage p "CLEAR_FAULTS" [getN h (Obj.STAGE_ADDR p)])
      let h := settleBudget was (if times.length ≥ 3 then setN (updPort h p (fun x => { x with faults := [] })) (Obj.PD_ENABLE p) 0 else h)
      if p != 0 || !fedByHost was then h else if adapterLevel was then supplyReturns h else later h .powerOn)

/-- R338, R355: a write of PD_ENABLE: a port that is disabled detaches and counts 0; one that is enabled is charged its PB_MIN once that
fits, for which other ports are cut as after a write of R340. (DEDUCED, log 35) -/
def writePdEnable (h : Hub) (p v : Nat) : Hub :=
  let was := h
  if v == 0 then setN (pdDetach h p) (Obj.PD_ENABLE p) 0 |> settleBudget was
  else if getB h (Obj.PD_ENABLE p) then h
  else
    let m := pbMinWanted h p
    let h := setN (setN h (Obj.PD_ENABLE p) 1) (Obj.PB_MIN p) 0
    settleOrCut was (updPort h p (fun x => { x with minNext := if m == 0 then none else some m }))

/-- R479: a PD core restarts: its port detaches. -/
def pdRestart (h : Hub) (p : Nat) : Hub := pdDetach h p

end Sys2Proof.Machine
end

