-- ==== Sys2Proof/Machine/Tyvel.lean ====
section
/-! DEFINITION. The Tyvel link below its frames (R399-R402, R405): lane blocks and their symbols, stripes and their parity, the byte stream, frame
headers, encryption, and the transmitter. -/

namespace Sys2Proof.Machine

/-! Lane blocks (R399) -/

/-- R399: the PAM4 level of two bits, the more significant first, in Gray code. (DEDUCED, log 38) -/
def grayLevel (hi lo : Nat) : Nat := 2 * hi + (hi + lo) % 2

/-- R399: the four symbols of a byte, bit 0 first. -/
def byteSymbols (b : Byte) : List Nat :=
  (List.range 4).map (fun j => grayLevel (b.toNat / 2 ^ (2 * j) % 2) (b.toNat / 2 ^ (2 * j + 1) % 2))

/-- The byte of four symbols. -/
def symbolsByte (l : List Nat) : Byte :=
  BitVec.ofNat 8 (sumOf (fun j =>
    let s := nth l j 0 % 4
    (s / 2 + 2 * ((s / 2 + s) % 2)) * 4 ^ j) (List.range 4))

/-- The bytes of a row of symbols. -/
def symbolBytes (n : Nat) (l : List Nat) : List Byte := (List.range n).map (fun i => symbolsByte ((l.drop (4 * i)).take 4))

/-- R399: one bit of the CRC-8, x^8 + x^2 + x + 1. -/
def crc8Bit (c : Nat) (b : Nat) : Nat :=
  let s := c * 2 % 256
  if (c / 128 + b) % 2 == 1 then Nat.xor s 7 else s

/-- R399: the CRC of a block over its first 67 bytes, bit 0 of each first, as they are sent. (DEDUCED, log 38) -/
def crc8 (bs : List Byte) : Nat :=
  bs.foldl (fun c x => (List.range 8).foldl (fun c i => crc8Bit c (x.toNat / 2 ^ i % 2)) c) 0

/-- Table 22.1: a lane block: SYNC, STRIPE, FRAME_START, the payload and the CRC. -/
def blockBytes (stripe start : Nat) (payload : List Byte) : List Byte :=
  let b := leBytes 2 (10 + 16 * (stripe % 4096)) ++ leBytes 1 start ++ payload
  b ++ leBytes 1 (crc8 b)

/-- Table 22.1, R400: STRIPE, FRAME_START and the payload of a block whose SYNC and CRC hold; any other is an erasure. -/
def readBlock (x : LaneBlock) : Option (Nat × Nat × List Byte) :=
  let b := symbolBytes 68 x.symbols
  let w := leNat (b.take 2)
  if x.symbols.length == 272 && w % 16 == 10 && crc8 (b.take 67) == leNat (b.drop 67) then
    some (w / 16, leNat ((b.drop 2).take 1), (b.drop 3).take 64)
  else none

/-- R399, R400: the bitwise XOR of two payloads. -/
def xorBytes (a b : List Byte) : List Byte := (a.zip b).map (fun x => x.1 ^^^ x.2)

/-- R400: FRAME_START and the payload of a stripe from what its four lanes brought: one erasure is rebuilt from the other three, two or more lose it. -/
def recoverStripe (ps : List (Option (Nat × List Byte))) : Option (Nat × List Byte) :=
  match ps.filterMap id with
  | [] => none
  | b0 :: _ =>
    let pay (i : Nat) : List Byte := ((nth ps i none).map (·.2)).getD []
    match (List.range 4).filter (fun i => (nth ps i none).isNone) with
    | [] => some (b0.1, pay 0 ++ pay 1 ++ pay 2)
    | [3] => some (b0.1, pay 0 ++ pay 1 ++ pay 2)
    | [0] => some (b0.1, xorBytes (xorBytes (pay 1) (pay 2)) (pay 3) ++ pay 1 ++ pay 2)
    | [1] => some (b0.1, pay 0 ++ xorBytes (xorBytes (pay 0) (pay 2)) (pay 3) ++ pay 2)
    | [2] => some (b0.1, pay 0 ++ pay 1 ++ xorBytes (xorBytes (pay 0) (pay 1)) (pay 3))
    | _ => none

/-! Frames (R401, R405) -/

/-- Table 22.3: the TYPE of a frame. -/
def TyvelType.code : TyvelType → Nat
  | .train => 0x01 | .attest => 0x02 | .mgmt => 0x10 | .mirror => 0x11 | .mirrorAck => 0x12 | .protect => 0x20 | .tileRecords => 0x21
  | .commit => 0x22 | .phase => 0x30 | .time => 0x31 | .state => 0x40 | .equinox => 0x41 | .rekey => 0x42

/-- Table 22.3: the priority of a frame, 0 the highest. -/
def TyvelType.priority : TyvelType → Nat
  | .mgmt => 3
  | .protect => 2
  | .tileRecords => 2
  | .mirror => 1
  | _ => 0

/-- Table 22.3, R405: every frame but TRAIN and ATTEST is encrypted. -/
def TyvelType.secret : TyvelType → Bool
  | .train => false
  | .attest => false
  | _ => true

/-- The bytes of a mirrored item: of a write index, sub-index, position and value, of a record surface, plane, tile and record. The manual
gives no layout. (DESIGN CHOICE, log 38) -/
def itemWire : MirrorItem → List Byte
  | .write i s pos v => leBytes 2 i ++ leBytes 1 s ++ leBytes 2 pos ++ v
  | .record s p t v => leBytes 1 s ++ leBytes 1 p ++ leBytes 4 t ++ v

/-- Table 22.3: the payload of a frame; TIME carries the network time at which it begins. Where the table gives the fields and no widths, a number
takes one byte, of EQUINOX the time eight, a stream two and a sequence four. Of a frame of the Grate the model holds the bytes that
matter to it, and the others are 0. (DESIGN CHOICE, log 38) -/
def payloadOf (h : Hub) (x : TyvelMsg) : List Byte :=
  let arg (i : Nat) : Nat := nth x.args i 0
  match x.type with
  | .mirrorAck => leBytes 4 (arg 0)
  | .commit => leBytes 4 (arg 0) ++ leBytes 8 (arg 1)
  | .time => leBytes 8 h.net
  | .protect =>
    let f := x.frame.getD { len := 0 }
    leBytes 2 (arg 0) ++ leBytes 4 (arg 1) ++ leBytes 2 (arg 2) ++ leBytes 8 0 ++ f.bytes.take f.len ++ List.replicate (f.len - f.bytes.length) 0
  | .tileRecords => leBytes 4 (arg 0) ++ (x.items.map itemWire).flatten
  | .mirror => (x.items.map itemWire).flatten
  | .equinox => leBytes 8 (arg 0) ++ ((List.range (x.args.length - 1)).map (fun i => leBytes (if i % 2 == 0 then 2 else 4) (arg (i + 1)))).flatten
  | _ => (x.args.map (leBytes 1)).flatten

/-- Table 22.2: a frame's header. -/
def tyvelHeader (type : TyvelType) (flags len counter seq : Nat) : List Byte :=
  leBytes 1 type.code ++ leBytes 1 flags ++ leBytes 2 len ++ leBytes 8 counter ++ leBytes 4 seq

/-- R405: the nonce of a frame from a side. -/
def tyvelNonce (side counter : Nat) : List Byte := leBytes 1 (10 + side) ++ [0, 0, 0] ++ leBytes 8 counter

/-- R405: AES-256-GCM: ciphertext and tag, the header authenticated with them. -/
def gcmSeal (key nonce header text : List Byte) : List Byte × List Byte :=
  let c := xorBytes text ((List.range text.length).map (Config.gcmStream key nonce))
  (c, beBytes 16 (Config.gcmTag key nonce header c))

/-- R405, R427: the key slot of a direction's traffic key: of what side `side` sends. (DESIGN CHOICE, log 38) -/
def trafficSlot (h : Hub) (side : Nat) : Option Nat := (mget? h.keys.sessions (ctxNo .tyvel)).bind (fun x => x.slots[side]?)

/-- R405: the traffic key of a direction. -/
def trafficKey (h : Hub) (side : Nat) : List Byte := ((trafficSlot h side).map (fun s => (keySlot h s).key)).getD []

/-- R405: the key that follows another. (DESIGN CHOICE, log 10) -/
def nextKey (key : List Byte) : List Byte := beBytes 32 (Config.crypto 9 key)

/-- R405: a direction takes its new key, which its slot then holds. -/
def takeKey (h : Hub) (side : Nat) : Hub :=
  match trafficSlot h side with
  | some s => putSlot h s { keySlot h s with key := nextKey (keySlot h s).key }
  | none => h

/-- The side of the twin. -/
def otherSide (h : Hub) : Nat := 1 - h.straps.twinSide

/-! The transmitter (R402) -/

/-- R402: the frame that is sent next: of the highest priority that waits, the oldest. -/
def nextMsg (h : Hub) : Option TyvelMsg :=
  (List.range 4).findSome? (fun p => h.twin.txq.find? (fun x => x.type.priority == p))

/-- R401, R405: a frame begins: its COUNTER is the next of its direction; at the COUNTER that a REKEY named, the new key is used from it on. A payload
above 16,448 bytes is no case of the manual's but for the records of a descriptor, which are sent in one frame that is as long as they
are. (DESIGN CHOICE, log 38) -/
def startFrame (h : Hub) (x : TyvelMsg) : List Byte × Hub :=
  let n := h.twin.txCounter + 1
  let h := setTwin h (fun t => { t with txq := t.txq.erase x, txCounter := n })
  let h := if h.twin.rekeyTx.any (· ≤ n) then takeKey (setTwin h (fun t => { t with rekeyTx := none, keyCounter := n })) h.straps.twinSide else h
  let text := payloadOf h x
  let head := tyvelHeader x.type (if x.type.secret then 1 else 0) text.length n x.seq
  let bytes := if x.type.secret then
      let (c, tag) := gcmSeal (trafficKey h h.straps.twinSide) (tyvelNonce h.straps.twinSide n) head text
      head ++ c ++ tag
    else head ++ text
  (bytes, send h (.tyvel x bytes))

/-- R401: the bytes of a stripe's payload, frame after frame, and where its first frame starts. -/
def fillStripe : Nat → Hub → List Byte → Option Nat → List Byte × Option Nat × Hub
  | 0, h, bs, start => (bs, start, h)
  | n + 1, h, bs, start =>
    if 192 ≤ bs.length then (bs, start, h)
    else match nextMsg h with
      | none => (bs, start, h)
      | some x =>
        let (f, h) := startFrame h x
        fillStripe n h (bs ++ f) (start.orElse (fun _ => some bs.length))

/-- R399, R401: a stripe is sent. One that is fill throughout is not recorded among what the hub sends. (DESIGN CHOICE, log 38) -/
def sendStripe (h : Hub) : Hub :=
  let n := h.twin.txStripe
  let (bs, start, h) := fillStripe 13 h h.twin.txBytes none
  let h := setTwin h (fun t => { t with txStripe := (n + 1) % 4096, txBytes := bs.drop 192 })
  if bs.isEmpty then h
  else
    let payload := bs.take 192 ++ List.replicate (192 - bs.length) 0
    let part (i : Nat) : List Byte := (payload.drop (64 * i)).take 64
    let lane (p : List Byte) : List Nat := ((blockBytes n (start.getD 0xFF) p).map byteSymbols).flatten
    send h (.stripe n [lane (part 0), lane (part 1), lane (part 2), lane (xorBytes (xorBytes (part 0) (part 1)) (part 2))])

/-- R399: a nanosecond of the transmitter: a stripe every 10.24 ns while the link is up. -/
def tyvelTick (h : Hub) : Hub :=
  if !h.twin.linkUp then h
  else
    let r := h.twin.txRem + 100
    if r < 1024 then setTwin h (fun t => { t with txRem := r }) else sendStripe (setTwin h (fun t => { t with txRem := r - 1024 }))

/-! The receiver (R400, R401) -/

/-- R401: the next frame of a byte stream, after the fill before it, once it is whole; none while it is not. -/
def takeRaw (bs : List Byte) : Option (TyvelRaw × List Byte) :=
  let b := bs.dropWhile (· == 0)
  let n := leNat ((b.drop 2).take 2)
  let tag := if bitOf (leNat ((b.drop 1).take 1)) 0 then 16 else 0
  if 16 ≤ b.length && 16 + n + tag ≤ b.length then
    some ({ header := b.take 16, payload := (b.drop 16).take n, tag := (b.drop (16 + n)).take tag }, b.drop (16 + n + tag))
  else none

/-- R401: every frame that is whole, oldest first, and the bytes that are left. -/
def takeRaws : Nat → List Byte → List TyvelRaw × List Byte
  | 0, bs => ([], bs)
  | n + 1, bs => match takeRaw bs with
    | none => ([], bs)
    | some (x, r) => let (l, r) := takeRaws n r; (x :: l, r)

/-- R401: the bytes of a stripe join the stream, of which the whole frames are taken. -/
def joinStream (h : Hub) (bs : List Byte) : Hub :=
  let (l, r) := takeRaws 13 (h.twin.stream ++ bs)
  setTwin h (fun t => { t with stream := r, frames := t.frames ++ l })

/-- R400, R401: a stripe is complete: rebuilt, or lost, and then the receiver resumes at the next FRAME_START. -/
def takeStripe (h : Hub) (ps : List (Option (Nat × List Byte))) : Hub :=
  match recoverStripe ps with
  | none => bump (setTwin h (fun t => { t with resync := true, stream := [] })) Obj.TY_STRIPES_LOST
  | some (start, bytes) =>
    if !h.twin.resync then joinStream h bytes
    else if start == 0xFF then h
    else joinStream (setTwin h (fun t => { t with resync := false, stream := [] })) (bytes.drop start)

/-- How far a stripe number lies ahead of another, of 4,096. -/
def stripeAhead (n of : Nat) : Nat := (n + 4096 - of) % 4096

/-- R400: what a lane of the link brings is kept for its stripe, whose number an erasure takes from the block before it. What comes for a stripe
that is past is dropped. -/
def takePart (h : Hub) (lane : Nat) (x : LaneBlock) : Hub :=
  let r := readBlock x
  match (r.map (·.1)).orElse (fun _ => mget? h.twin.rxAt lane) with
  | none => h
  | some n =>
    let next := h.twin.rxNext.getD n
    let h := setTwin h (fun t => { t with rxAt := mset t.rxAt lane ((n + 1) % 4096), rxNext := some next })
    if 2048 ≤ stripeAhead n next then h else setTwin h (fun t => { t with parts := t.parts ++ [⟨n, lane, r.map (·.2)⟩] })

/-- R400: the next stripe, once every lane of the link has brought its part, or one is more than 32 stripes ahead. -/
def stripeReady (h : Hub) (n : Nat) : Bool :=
  h.twin.lanes.all (fun l => h.twin.parts.any (fun p => p.stripe == n && p.lane == l))
  || h.twin.parts.any (fun p => decide (32 < stripeAhead p.stripe n))

/-- R400: stripes are taken in order as they are complete. -/
def takeStripes : Nat → Hub → Hub
  | 0, h => h
  | k + 1, h => match h.twin.rxNext with
    | none => h
    | some n =>
      if !stripeReady h n then h
      else
        let ps := (List.range 4).map (fun i => (h.twin.parts.find? (fun p => p.stripe == n && p.lane == 38 + i)).bind (·.body))
        let h := setTwin h (fun t => { t with rxNext := some ((n + 1) % 4096), parts := t.parts.filter (fun p => p.stripe != n) })
        takeStripes k (takeStripe h ps)

/-- R400, R401: blocks are received, at most one on each lane; one of a lane that is not in the link is an erasure. -/
def laneBlocks (h : Hub) (bs : List (Option LaneBlock)) : Hub :=
  if !h.twin.linkUp then h
  else
    let h := forEach ((List.range 4).filter (fun i => h.twin.lanes.contains (38 + i))) h (fun h i =>
      match nth bs i none with
      | some x => takePart h (38 + i) x
      | none => h)
    takeStripes 64 h

/-- The link starts or ends: nothing is under way on it. -/
def tyvelClear (h : Hub) : Hub :=
  setTwin h (fun t => { t with
    rxAt := [], parts := [], rxNext := none, stream := [], resync := true, frames := []
    txq := [], txBytes := [], txRem := 0 })

/-! The receipt of a frame (R405) -/

/-- R405: a frame that the receiver took is genuine: encrypted, and its tag holds under the key of its direction and COUNTER. -/
def rawTagOk (h : Hub) (x : TyvelRaw) : Bool :=
  let n := leNat ((x.header.drop 4).take 8)
  let k := trafficKey h (otherSide h)
  let k := if h.twin.rekeyRx.any (· ≤ n) then nextKey k else k
  x.tag == beBytes 16 (Config.gcmTag k (tyvelNonce (otherSide h) n) x.header x.payload)

/-- R401, R405: what a frame's command says of its header. Where the receiver has taken a frame of the type from the byte stream, the oldest of
them is the one received, and its COUNTER and tag are what counts. (DESIGN CHOICE, log 38) -/
def arrivedHdr (h : Hub) (type : TyvelType) (x : TyvelHdr) : TyvelHdr × Hub :=
  match h.twin.frames.find? (fun r => leNat (r.header.take 1) == type.code) with
  | none => (x, h)
  | some r =>
    ({ counter := leNat ((r.header.drop 4).take 8), tagOk := rawTagOk h r }, setTwin h (fun t => { t with frames := t.frames.erase r }))

/-- R405: an encrypted frame is accepted: its tag holds and its COUNTER is above the last accepted one. From the COUNTER that a REKEY named the new key
holds. -/
def tyAccept (h : Hub) (x : TyvelHdr) : Option Hub :=
  if h.twin.linkUp && h.twin.session && x.tagOk && (match h.twin.rxCounter with | none => true | some c => decide (c < x.counter)) then
    let h := setTwin h (fun t => { t with rxCounter := some x.counter })
    some (if h.twin.rekeyRx.any (· ≤ x.counter) then takeKey (setTwin h (fun t => { t with rekeyRx := none })) (otherSide h) else h)
  else none

/-- R405: a frame that is not accepted is discarded and counted; one that comes while no link or session stands is none. -/
def tyBad (h : Hub) : Hub := if h.twin.linkUp && h.twin.session then bump h Obj.TY_FRAMES_BAD else h

end Sys2Proof.Machine
end

