-- ==== Sys2Proof/Machine/Twin.lean ====
section
/-! DEFINITION. The twin (R397-R425): the Tyvel link, the sideband pins and the token, pairing, catch-up and mirroring,
protected traffic, apply times, lockstep, and the Equinox. Mirrored writes are carried out where every write is. -/

namespace Sys2Proof.Machine

/-- R397: the part has a Tyvel link. -/
def hasTwin (h : Hub) : Bool := h.part == .bw7740

/-- R408: the holder of the token is the active hub. -/
def isActive (h : Hub) : Bool := getB h Obj.TW_ENABLE && h.twin.token

/-- R407, R408: TW_ENABLE is 1 and the season is Summer or Autumn. -/
def seasonAlive (h : Hub) : Bool := getB h Obj.TW_ENABLE && [1, 2].contains (getN h Obj.SEASON)

/-- R407: the always-on domain toggles TWIN_ALIVE_O. -/
def aliveRuns (h : Hub) : Bool := hasTwin h && seasonAlive h && !h.twin.demoted

/-- R409: STATE frames report the twin active. -/
def peerActive (h : Hub) : Bool := h.twin.linkUp && h.twin.session && h.twin.peer.any (fun r => r.active)

/-- R407, R397: TWIN_SEL of side A is high only while side A is active; that of side B reads the same as side A's would: while side A was last
seen to hold TWIN_TOKEN low, or reports itself active. (DESIGN CHOICE, log 39) -/
def twinSel (h : Hub) : Bool := if h.straps.twinSide == 0 then isActive h else !h.twin.token && (h.twin.lineLow || peerActive h)

/-! The link (R399-R406) -/

/-- R410: the pairing state moves. -/
def setPairing (h : Hub) (s : Nat) : Hub := setN h Obj.TW_STATE s

/-- R21: what a pair depends on besides the link is in service: the time unit, the key store, the coder, and the sideband pins, while
their fault flag is not cleared. (DEDUCED, log 38) -/
def twinFit (h : Hub) : Bool :=
  !getB h Obj.TW_SIDEBAND_FAULT && inService h timeUnit && inService h keyStoreUnit && (List.range 8).any (fun i => inService h (tileLaneUnit i))

/-- R411: the hub sends its next SPDM message to the twin, whose bytes are a free value. (DESIGN CHOICE, log 10) -/
def attestMessage (h : Hub) : Hub := tyvel (tick h) { type := .attest, args := (Config.spdm h.fresh []).map (·.toNat) }

/-- R410: Pairing starts with the link up. R21: a hub whose time unit, key store or coder has failed runs Alone. (DEDUCED, log 38) -/
def tryPair (h : Hub) : Hub :=
  if h.twin.linkUp && !h.twin.refused && getN h Obj.TW_STATE == 0 && twinFit h then
    attestMessage (setPairing (setTwin h (fun t => { t with since := h.now })) 1)
  else h

/-- R406: at least three lanes locked bring the link up. -/
def tyvelUp (h : Hub) (ls : List Nat) : Hub :=
  let ls := (ls.filter (fun l => 38 ≤ l && l ≤ 41 && !h.twin.miswired.contains l && laneTrainable h l)).eraseDups
  if !hasTwin h || !inService h tyvelUnit || !domOn h 56 || ls.length < 3 then h
  else
    let h := forEach ls h (fun h l => laneRunTrained h l 53125000)
    let h := tyvelClear (setTwin h (fun t => { t with linkUp := true, lanes := ls, refused := false }))
    let h := fitAllotted (linkUp (linkUp (setLineRate h 24 150000000) 24) 25) 24
    whenH (getB h Obj.TW_ENABLE) h tryPair

/-- R406: a relocked lane rejoins. -/
def tyvelRejoin (h : Hub) (l : Nat) : Hub :=
  if h.twin.linkUp && 38 ≤ l && l ≤ 41 && !h.twin.miswired.contains l && laneLocked h l then
    setTwin (laneRunTrained h l 53125000) (fun t => { t with lanes := insertNew t.lanes l })
  else h

/-! Apply times, leaving a pair -/

/-- R417, R267: the records that were held for a descriptor are written, each when no head holds its row. (DESIGN CHOICE, log 20) -/
def releaseHeld (m : List Host.Cell) (h : Hub) (n : Nat) : Hub :=
  let mine := h.coder.held.filter (fun r => r.desc == n)
  let h := setCoder h (fun c => { c with held := c.held.filter (fun r => r.desc != n) })
  forEach mine h (fun h r => laneDo m h { surface := r.surface, plane := r.plane, tile := r.tile, work := .staged r.ec r.bytes r.ov r.maker })

/-- What no longer waits for the twin: held headers are written. Mirrored writes that wait are applied with them. (DESIGN CHOICE, log 20) -/
def releaseAll (m : List Host.Cell) (h : Hub) : Hub := forEach (h.coder.held.map (·.desc)).eraseDups h (releaseHeld m)

/-- R418: the time unit of a standby that stops following selects among its own sources at once; with none it is in holdover (R229). (DESIGN CHOICE, log 20) -/
def stopFollowing (h : Hub) : Hub :=
  match bestSource h with
  | some s => setN (setTime h (fun t => { t with inUse := s })) Obj.TIME_SOURCE s
  | none => setFlag (setTime h (fun t => { t with inUse := 0 })) Obj.TIME_HOLDOVER

/-- R410: back to Alone. What waited for its apply time is due now. (DEDUCED, log 38) -/
def toAlone (h : Hub) : Hub :=
  let was := isStandby h && decide (3 ≤ getN h Obj.TW_STATE)
  let h := setPairing (closeSession h (ctxNo .tyvel)) 0
  let h := setTwin h (fun t => { t with
    session := false, unacked := [], copies := [], peer := none, rxCounter := none, txCounter := 0, equinoxAt := none, early := []
    applies := t.applies.map (fun a => { a with time := some 0 }) })
  let h := setN (setN (later h .releaseHeld) Obj.TW_CATCHUP_LEFT 0) Obj.TW_PEER_NODE 0
  if was then stopFollowing h else h

/-- R410: the twin is lost. From Paired or Lockstep that sets TW_PARTNER_LOST. -/
def twinLost (h : Hub) : Hub :=
  let st := getN h Obj.TW_STATE
  let h := toAlone h
  if 3 ≤ st then report (setFlag h Obj.TW_PARTNER_LOST) 0x1601 tyvelUnit else h

/-- R400: a lane is lost to the link; with two out, the link is down. -/
def twinLaneLost (h : Hub) (l : Nat) : Hub :=
  if !h.twin.lanes.contains l then h
  else
    let h := setTwin h (fun t => { t with lanes := t.lanes.filter (· != l) })
    if h.twin.lanes.length ≥ 3 then h
    else
      let h := tyvelClear (setTwin h (fun t => { t with linkUp := false, lanes := [] }))
      twinLost (linkDown (linkDown (setLineRate h 24 0) 24) 25)

/-- R406, R360: a TRAIN frame on a lane: a lane whose number does not match is held out, and the link goes on without it or goes down; a valid
request is what the lane's FFE moves towards. A TRAIN frame is answered on the lane, outside the link's order. -/
def trainFrame (h : Hub) (l n : Nat) (bs : List Byte) : Hub :=
  if !(38 ≤ l && l ≤ 41) then h
  else if l != n then setFlag (twinLaneLost (setTwin h (fun t => { t with miswired := insertNew t.miswired l })) l) Obj.TY_MISWIRED
  else
    let h := setTwin h (fun t => { t with miswired := t.miswired.filter (· != l) })
    let h := if getN h (Obj.TX_FFE_MODE l) == 0 && ffeOk bs then updLane h l (fun x => { x with goal := ffeMag bs }) else h
    (startFrame h { type := .train, args := [l] }).2

/-! Pairing (R410, R411) -/

/-- R411: the versions of this hub. -/
def versions (h : Hub) : List Nat :=
  [Obj.BOOT_VERSION, Obj.ENGINE_VERSION, Obj.PD_POLICY_VERSION, Obj.SECURITY_VERSION, Obj.DICTIONARY_LAYOUT].map (getN h)

/-- R411: why the hub refuses to pair; 0 it does not. -/
def refusal (h : Hub) (a : AttestResult) : Nat :=
  let want := getBytes h Obj.TW_PEER_SERIAL
  if a.versions != versions h then 1
  else if a.side == h.straps.twinSide then 2
  else if !a.verified then 3
  else if want.any (· != 0) && want != a.serial then 4
  else if !a.secure || tampered h then 5
  else if !a.enabled then 6 else 0

/-- R411, R410, R427: an ATTEST frame: a step of the exchange, a refusal, or its end in Catch-up. Without an empty slot for the
session's keys attestation fails. -/
def attest (h : Hub) (a : AttestResult) : Hub :=
  if getN h Obj.TW_STATE != 1 then h
  else if !twinFit h then toAlone h
  else
    let r := refusal h a
    if r != 0 then
      let h := setTwin (setN (toAlone h) Obj.TW_REFUSE_REASON r) (fun t => { t with refused := true })
      if r == 1 then report (setFlag h Obj.TW_MISMATCH) 0x1602 tyvelUnit else h
    else if !a.last then attestMessage h
    else
      let h := openSession h (ctxNo .tyvel) 0 false
      if (mget? h.keys.sessions (ctxNo .tyvel)).isNone then
        setTwin (setN (toAlone h) Obj.TW_REFUSE_REASON 3) (fun t => { t with refused := true })
      else
      let h := setBytes (setN (setN h Obj.TW_REFUSE_REASON 0) Obj.TW_PEER_NODE a.node) Obj.TW_PEER_SERIAL_SEEN a.serial
      setPairing (setTwin h (fun t => { t with session := true, txCounter := 0, rxCounter := none, txSeq := 0, rxSeq := 0, lastKey := h.now
                                               keyCounter := 0, rekeyTx := none, rekeyRx := none, unacked := [], applies := []
                                               early := [], peer := none })) 2

/-- R410: Pairing that has not ended in Catch-up within 500 ms: attestation has failed (R411). (DEDUCED, log 38) -/
def pairingLate (h : Hub) (now : Nat) : Bool := getN h Obj.TW_STATE == 1 && decide (h.twin.since + 500000000 ≤ now)

/-- R410, R411. -/
def pairingEnds (h : Hub) : Hub :=
  whenH (pairingLate h h.now) h (fun h => setTwin (setN (toAlone h) Obj.TW_REFUSE_REASON 3) (fun t => { t with refused := true }))

/-- Table 22.3: the fault bits of a STATE frame; the manual does not say which they are: the flags of Table 22.11 in their order. (DESIGN CHOICE, log 38) -/
def faultBits (h : Hub) : Nat :=
  sumOf (fun i => if getB h (nth [Obj.TW_PARTNER_LOST, Obj.TW_MISMATCH, Obj.TW_SIDEBAND_FAULT, Obj.TW_LOCKSTEP_LOST, Obj.TY_MISWIRED] i 0) then 2 ^ i else 0) (List.range 5)

/-- R402: a STATE frame: pairing state, role, season, fault bits. -/
def stateOut (h : Hub) (pairing : Nat) : Hub :=
  tyvel h { type := .state, args := [pairing, twinRole h, getN h Obj.SEASON, faultBits h] }

/-- TW_COMMAND 1 and 2 (R410, R411): command 1 pairs with TW_ENABLE 0 as well. -/
def pairCommand (h : Hub) : Hub := setN (tryPair (setTwin h (fun t => { t with refused := false }))) Obj.TW_COMMAND_STATUS 2
def unpairCommand (h : Hub) : Hub :=
  setN (toAlone (stateOut h 0)) Obj.TW_COMMAND_STATUS 2 |> fun h => setTwin h (fun t => { t with refused := true })

/-- R410: TW_ENABLE 0 ends pairing and releases the token. -/
def twinDisabled (h : Hub) : Hub := setTwin (toAlone h) (fun t => { t with token := false, demoted := false })

/-- R402, R418, R420: every 10 µs a STATE frame goes out; in Lockstep with it a PHASE frame, whose times are free values; and in Paired and
Lockstep, at times that the manual does not state, a TIME frame. (DESIGN CHOICE, log 38) -/
def sendState (h : Hub) : Hub :=
  if !h.twin.session then h
  else
    let h := stateOut h (getN h Obj.TW_STATE)
    let h := whenH (decide (3 ≤ getN h Obj.TW_STATE)) h (fun h => tyvel h { type := .time })
    whenH (getN h Obj.TW_STATE == 4) h (fun h =>
      let outs := (List.range 3).filter (fun o => bitOf (getN h Obj.TW_SWITCHED) o)
      tyvel (ticks h 3) { type := .phase, args := outs.map (fun o => Config.freeNat (h.fresh + o) % 256) })

/-- R410, R415, R420: Paired is entered: every stream is emptied. -/
def enterPaired (h : Hub) : Hub := setPairing { h with merge := [] } 3

/-- R420: Lockstep ends. -/
def leaveLockstep (h : Hub) : Hub :=
  if getN h Obj.TW_STATE == 4 then setFlag (enterPaired h) Obj.TW_LOCKSTEP_LOST else h

/-- R410, R417, R461: Catch-up is done, which clears what 0x1601 and 0x1602 hold: descriptors are numbered from 0. -/
def paired (h : Hub) : Hub :=
  let h := setN (setN (enterPaired h) Obj.TW_ING_SEQ 0) Obj.TW_CATCHUP_LEFT 0
  let h := setTwin h (fun t => { t with copies := [], sent := [], floor := [] })
  later (later h (.cleared 0x1601 tyvelUnit)) (.cleared 0x1602 tyvelUnit)

/-- R410: a STATE frame arrives: a twin in Winter is lost, one that is Alone has unpaired, one that is Paired has seen the end of Catch-up, and one
that has left Lockstep takes this hub with it. (DEDUCED, log 38) -/
def stateFrame (h : Hub) (r : TwinReport) : Hub :=
  let st := getN h Obj.TW_STATE
  let was := h.twin.peer
  let h := setTwin h (fun t => { t with peer := some r })
  if st == 0 then h
  else if r.season == 3 then twinLost h
  else if r.pairing == 0 then toAlone h
  else if st == 2 && 3 ≤ r.pairing then paired h
  else if st == 4 && r.pairing == 3 && was.any (fun w => w.pairing == 4) then leaveLockstep h
  else h

/-- Both F2 rings are empty, as far as this hub knows. -/
def ringEmpty (h : Hub) : Bool := h.coder.producer == h.coder.consumer && h.coder.current.isNone

/-- R410: Catch-up is done: the standby has applied every item, and both F2 rings are empty. -/
def catchUpDone (h : Hub) : Hub :=
  if getN h Obj.TW_STATE == 2 && !h.twin.copying && h.twin.unacked.isEmpty && ringEmpty h && h.twin.peer.any (fun r => r.caughtUp) then paired h
  else h

/-! Mirroring (R403, R412, R413) -/

/-- The bytes of an item, for TW_CATCHUP_LEFT. -/
def itemBytes : MirrorItem → Nat
  | .write _ _ _ v => v.length
  | .record _ _ _ v => v.length

/-- DEDUCED, log 32. -/
def catchupLeft (h : Hub) : Nat := ceilDiv (sumOf (fun x => itemBytes x.2) h.twin.unacked) 1024

/-- R403: the active sends an item; it stays until it is acknowledged. -/
def mirrorSend (h : Hub) (i : MirrorItem) : Hub :=
  let n := (h.twin.txSeq + 1) % 2 ^ 32
  let h := setTwin h (fun t => { t with txSeq := n, unacked := t.unacked ++ [(n, i)] })
  let h := tyvel h { type := .mirror, seq := n, items := [i] }
  if getN h Obj.TW_STATE == 2 then setN h Obj.TW_CATCHUP_LEFT (catchupLeft h) else h

/-- R412: an item of the hub's own making is mirrored by the active of a pair. -/
def mirrorItem (h : Hub) (i : MirrorItem) : Hub := if isActive h && decide (2 ≤ getN h Obj.TW_STATE) then mirrorSend h i else h

/-- R403: items up to a sequence number are acknowledged. -/
def mirrorAck (h : Hub) (n : Nat) : Hub :=
  let h := match h.twin.unacked.findIdx? (fun x => x.1 == n) with
    | some i => setTwin h (fun t => { t with unacked := t.unacked.drop (i + 1) })
    | none => h
  if getN h Obj.TW_STATE == 2 then setN h Obj.TW_CATCHUP_LEFT (catchupLeft h) else h

/-- R403: sent again from the first that is not acknowledged. -/
def mirrorResend (h : Hub) : Hub := forEach h.twin.unacked h (fun h x => tyvel h { type := .mirror, seq := x.1, items := [x.2] })

/-- R280, R413: the first line start of a running head at or after a time, counted on from its last by its timing. (DEDUCED, log 20) -/
def lineStartAfter (h : Hub) (hd t : Nat) : Nat :=
  let x := headOfHub h hd
  let px := (tim h hd Obj.TM_H_ACTIVE + tim h hd Obj.TM_H_FRONT + tim h hd Obj.TM_H_SYNC + tim h hd Obj.TM_H_BACK) * 1000000
  let clk := tim h hd Obj.TM_PIXEL_CLOCK
  if !x.running || clk == 0 || px == 0 then t
  else x.lineAt + ceilDiv (ceilDiv ((t - x.lineAt) * clk) px * px) clk

/-- R413: the apply time of a write granted now: the first line start of the head that it concerns at or after grant plus TW_APPLY_LEAD, or that
time itself. -/
def applyAt (h : Hub) (head : Option Nat) : Nat :=
  let t := h.net + getN h Obj.TW_APPLY_LEAD * 1000
  match head with
  | some hd => lineStartAfter h hd t
  | none => t

/-- R417: a copy of descriptor `n` is held: the active names its apply time. -/
def described (h : Hub) (n : Nat) : Hub :=
  let recs := h.coder.held.filter (fun r => r.desc == n)
  let h := if h.twin.copies.contains n then h
    else tyvel h { type := .tileRecords, args := [n], items := recs.map (fun r => .record r.surface r.plane r.tile r.bytes) }
  if h.twin.applies.any (fun a => a.descriptor && a.seq == n && a.time.isSome) then h
  else if isActive h then
    let t := applyAt h none
    let h := tyvel h { type := .commit, args := [n, t] }
    setTwin h (fun x => { x with applies := x.applies.filter (fun a => !(a.descriptor && a.seq == n)) ++ [{ descriptor := true, seq := n, time := some t }] })
  else setTwin h (fun x => { x with applies := x.applies ++ [{ descriptor := true, seq := n }] })

/-- R417: the twin's records of descriptor `n`, unless a copy is held already. -/
def twinRecords (h : Hub) (n : Nat) (rs : List (Nat × Nat × Nat × List Byte)) : Hub :=
  if !isPaired h || h.twin.copies.contains n || h.coder.held.any (fun r => r.desc == n) || n < getN h Obj.TW_ING_SEQ then h
  else
    let rs := rs.filter (fun r => tileExists h r.1 r.2.1 r.2.2.1)
    let h := forEach rs h (fun h r => storeTwinRecord h r.1 r.2.1 r.2.2.1 r.2.2.2 (some n))
    later (setTwin h (fun t => { t with copies := t.copies ++ [n] })) (.described n)

/-- R413: a COMMIT names the apply time of what waits on the standby; one that comes after it is late, and due at once. One that comes before the
write's MIRROR frame, which has a lower priority, is kept for it. -/
def commitFrame (h : Hub) (descriptor : Bool) (n t : Nat) : Hub :=
  let has := h.twin.applies.any (fun a => a.descriptor == descriptor && a.seq == n)
  let h := if has then h
    else if descriptor then setTwin h (fun x => { x with applies := x.applies ++ [{ descriptor := true, seq := n }] })
    else setTwin h (fun x => { x with early := x.early ++ [(n, if t < h.net then 0 else t)] })
  let h := if t < h.net then bump h Obj.TW_LATE_COMMITS else h
  setTwin h (fun x => { x with applies := x.applies.map (fun a => if a.descriptor == descriptor && a.seq == n then { a with time := some (if t < h.net then 0 else t) } else a) })

/-- R413: what is due next: everything with the earliest apply time. -/
def nextDue (h : Hub) : List PendingApply :=
  match (h.twin.applies.filterMap (·.time)) with
  | [] => []
  | t :: ts =>
    let m := ts.foldl min t
    h.twin.applies.filter (fun a => a.time == some m)

/-! Protected traffic (R415, R416) -/

/-- R415: a copy of a tagged protected frame goes to the twin. -/
def protectCopy (h : Hub) (pos : Nat) (f : Frame) : Hub :=
  match f.tag with
  | some t => tyvel h { type := .protect, args := [t.stream, t.seq, pos], frame := some f }
  | none => h

/-- R415, R113: a PROTECTED frame comes from the Tyvel link, which is attached to GP24. -/
def protectedFrame (h : Hub) (stream seq pos : Nat) (f : Frame) : Hub :=
  if isPaired h then comeTo h 24 ⟨24, false, false, { f with tag := some ⟨1, stream, seq⟩ }, some pos⟩ else h

/-- R416, R408, R423: a protected frame at a protected egress point (GP13, or a MAC of TW_MAC_PROTECT): the standby, whatever its pairing state, discards it;
a new active sends only what the old active did not send. The result says whether it may leave. -/
def protectEgress (h : Hub) (point : Bool) (f : GFrame) : Bool × Hub :=
  if !point || !f.protect then (true, h)
  else if twinRole h == 2 then (false, bump h Obj.TW_ASH_STANDBY)
  else match f.frame.tag with
    | none => (true, h)
    | some t =>
      match mget? h.twin.floor t.stream with
      | some l =>
        let d := (t.seq + 2 ^ 32 - l) % 2 ^ 32
        if 0 < d && d < 2 ^ 31 then (true, setTwin h (fun x => { x with sent := mset x.sent t.stream t.seq }))
        else (false, bump h Obj.TW_ASH_STANDBY)
      | none => (true, setTwin h (fun x => { x with sent := mset x.sent t.stream t.seq }))

/-! Time and lockstep (R418-R420) -/

/-- R418: a TIME frame: a standby of a pair follows the active, corrected by half the round trip of TIME frames in each direction, and TIME_SOURCE reads
the active's source; the command brings both beside the frame. Time never runs backwards. (DEDUCED, log 38) -/
def timeFrame (h : Hub) (v roundTrip source : Nat) : Hub :=
  if following h then
    setN (setNet (setTime h (fun t => { t with slew := 0, rem := 0, frac := 0 })) (max h.net (v + roundTrip / 2))) Obj.TIME_SOURCE source
  else h

/-- R419: the conditions that this hub can see: allowed on both hubs, and its switched outputs run and carry head sources only; those of a standby at the
link rate and width of the active's. (DEDUCED, log 38) -/
def lockstepOk (h : Hub) : Bool :=
  getB h Obj.TW_LOCKSTEP_ALLOW && h.twin.peer.any (·.allow) && (List.range 3).all (fun o => !bitOf (getN h Obj.TW_SWITCHED) o
    || (getN h (Obj.LINK_RATE o) != 0 && (slotsOf o).all (fun p => getN h (at_ p Obj.SL_SOURCE) ≤ 4)
      && (!isStandby h || h.twin.peer.any (fun r => r.links.contains (o, getN h (Obj.LINK_RATE o), getN h (Obj.LINK_LANES o))))))

/-- R419: the conditions have held for 1 ms, with the phases within 0.1 UI; the standby has restarted its heads' rasters for it.
(DEDUCED, log 38) -/
def lockstepEntry (m : List Host.Cell) (h : Hub) (err : Nat) : Hub :=
  if getN h Obj.TW_STATE == 3 && lockstepOk h && decide (err ≤ 100) then
    let h := whenH (isStandby h) h (fun h => forEach (List.range 4) h (fun h hd =>
      if (headOfHub h hd).running then restartHead m h hd else h))
    setPairing (setN h Obj.TW_PHASE_ERROR err) 4
  else h

/-- R420: a PHASE frame. (DEDUCED, log 38) -/
def phaseFrame (h : Hub) (err : Nat) (atLimit : Bool) : Hub :=
  if getN h Obj.TW_STATE != 4 then h
  else
    let h := setN h Obj.TW_PHASE_ERROR err
    if err > 250 || atLimit then leaveLockstep h else h

/-- R420: the active relinks an output, or changes its slot sources, or a condition of R419 fails. (DEDUCED, log 38) -/
def lockstepCheck (h : Hub) : Hub := if getN h Obj.TW_STATE == 4 && !lockstepOk h then leaveLockstep h else h

/-! The token and the Equinox (R407-R409, R421-R424) -/

/-- R407: the alive output toggles, or stands. -/
def aliveToggle (h : Hub) : Hub := if aliveRuns h then setTwin h (fun t => { t with alive := !t.alive }) else h

/-- R407, R480: alive stops and the token is released. -/
def dropToken (h : Hub) : Hub := setTwin h (fun t => { t with token := false, alive := false, demoted := true })

/-- R409: what the hub sees of TWIN_TOKEN. -/
def seeLine (h : Hub) (low : Bool) : Hub := setTwin h (fun t => { t with lineLow := low && !t.token })

/-- R409, R21: a fault of the sideband pins: the flag is set, the token stays as it is, and a pair, which depends on the pins, runs
Alone. (DEDUCED, log 38) -/
def sidebandFault (h : Hub) : Hub :=
  let h := setFlag h Obj.TW_SIDEBAND_FAULT
  if 1 ≤ getN h Obj.TW_STATE then twinLost h else h

/-- The hub holds the token; it runs as before it demoted itself. -/
def holdToken (h : Hub) : Hub := setTwin h (fun t => { t with token := true, demoted := false, lineLow := false })

/-- R408, R409: the hub drives the line: side A holds the token at once, side B after its release test. -/
def drive (h : Hub) (v : ClaimView) : Hub :=
  if h.straps.twinSide == 0 || v.releasedHigh then
    let h := holdToken h
    if v.goesLow then h else sidebandFault h
  else seeLine (bump h Obj.TW_CLAIM_YIELDS) true

/-- R421: a head, or a lane of a switched output, is mapped out. -/
def headOrLaneOut (h : Hub) : Bool :=
  (List.range 4).any (fun i => h.mapped.contains (headUnit i))
  || (List.range 12).any (fun i => bitOf (getN h Obj.TW_SWITCHED) (i / 4) && h.mapped.contains (laneUnit (8 + i)))

/-- R408, Table 22.7: a demotion trigger applies to the hub. -/
def demotionApplies (h : Hub) : Bool :=
  tampered h || (getN h Obj.TW_STATE == 4 && h.twin.peer.any (fun r => r.season == 1) && headOrLaneOut h)

/-- R408: the hub may claim, with the line high for at least `need` ns. -/
def mayClaim (h : Hub) (v : ClaimView) (need : Nat) : Bool :=
  hasTwin h && seasonAlive h && !h.twin.token && !demotionApplies h && decide (need ≤ v.highNs)

/-- R409: the line has been high for 10 µs while the twin reports itself active: a fault of the pins, and no claim. -/
def lineFault (h : Hub) (v : ClaimView) : Bool :=
  hasTwin h && getB h Obj.TW_ENABLE && !h.twin.token && peerActive h && decide (10000 ≤ v.highNs)

/-- R408, R409: a claim, outside an Equinox. -/
def tokenClaim (h : Hub) (v : ClaimView) : Hub :=
  let h := seeLine h (v.highNs == 0)
  if lineFault h v then sidebandFault h
  else if !peerActive h && mayClaim h v (if h.straps.twinSide == 0 then 2000 else 5000) then drive h v
  else h

/-- R422: DisplayPort outputs that are not in Lockstep relink when the new active takes AUX. -/
def relinkOutputs (h : Hub) : Hub :=
  if getN h Obj.TW_STATE == 4 then h
  else forEach ((List.range 3).filter (fun o => bitOf (getN h Obj.TW_SWITCHED) o && getB h (Obj.SINK_PRESENT o))) h (fun h o =>
    relink h o (getN h (Obj.LINK_RATE o)))

/-- R422: the standby has become active: what waits for a COMMIT or its time is due now, the Equinox is counted. -/
def becomeActive (h : Hub) (duration : Nat) : Hub :=
  let h := peak (bump h Obj.TW_EQUINOXES) Obj.TW_EQUINOX_TIME_MAX duration
  let h := setTwin h (fun t => { t with applies := t.applies.map (fun a => { a with time := some 0 }) })
  relinkOutputs (stopFollowing h)

/-- R421, R423: a forced trigger granted first abandons a planned Equinox. -/
def abandonPlanned (h : Hub) : Hub :=
  if h.twin.equinoxAt.isSome then setN (setTwin h (fun t => { t with equinoxAt := none })) Obj.TW_COMMAND_STATUS 3 else h

/-- R422, R409: the standby, whatever its pairing state, sees the active fail. With the token still low it does not claim. -/
def faultDetect (h : Hub) (v : ClaimView) (fault : TwinFault) (duration : Nat) : Hub :=
  let h := seeLine h (v.highNs == 0)
  if twinRole h != 2 then h
  else if v.highNs == 0 then
    (if fault == .aliveLost && peerActive h then sidebandFault h else h)
  else if lineFault h v then sidebandFault h
  else if mayClaim h v 1000 then
    let h := drive (abandonPlanned h) v
    if !h.twin.token then h
    else
      let h := becomeActive h duration
      if h.twin.linkUp then h else twinLost h
  else h

/-- R424: a hub that has become standby: its twin-switched drives are removed, its twin-switched USB ports disconnect. -/
def dropSwitched (h : Hub) : Hub :=
  let h := forEach [0, 1] h (fun h k => if muxedAway h (7 + k) then nvLost h k else h)
  forEach [1, 2, 3, 4] h (fun h n => if muxedAway h (n + 2) && getN h (psKey n Obj.PS_SPEED) != 0 then portDisconnect h n else h)

/-- R423: the last protected sequence that this hub sent in each stream. -/
def lastSent (h : Hub) : List Nat := h.twin.sent.flatMap (fun x => [x.1, x.2])

/-- R423: TW_COMMAND 3: T is now plus TW_APPLY_LEAD. The active sends an EQUINOX frame with the last sequences it sent; a
standby asks it to with one that names none. (DEDUCED, log 38) -/
def plannedEquinox (h : Hub) : Except Abort Hub :=
  if getN h Obj.TW_STATE < 3 then .error (.state 0x80)
  else
    let t := applyAt h none
    let h := setN (setTwin h (fun x => { x with equinoxAt := some t })) Obj.TW_COMMAND_STATUS 1
    .ok (tyvel h { type := .equinox, args := t :: if h.twin.token then lastSent h else [] })

/-- R423: an EQUINOX frame: the standby takes its time and its sequences. One that asks the active is answered; one that the
old active sent at T comes after the roles have changed. (DEDUCED, log 38) -/
def equinoxFrame (h : Hub) (t : Nat) (last : List (Nat × Nat)) : Hub :=
  let floor := last.foldl (fun m y => mset m y.1 y.2) h.twin.floor
  if getN h Obj.TW_STATE < 3 then h
  else if !h.twin.token then setTwin h (fun x => { x with equinoxAt := some t, floor := floor })
  else if last.isEmpty && decide (h.net < t) then
    tyvel (setTwin h (fun x => { x with equinoxAt := some t })) { type := .equinox, args := t :: lastSent h }
  else setTwin h (fun x => { x with floor := floor })

/-- R423: at T the roles change: the standby drives the token low; the old active releases it, and names what it sent last. -/
def equinoxTime (h : Hub) : Hub :=
  if h.twin.equinoxAt.isNone || getN h Obj.TW_STATE < 3 then h
  else
    let active := h.twin.token
    let h := whenH active h (fun h => tyvel h { type := .equinox, args := h.net :: lastSent h })
    let h := setTwin h (fun x => { x with equinoxAt := none, token := !active, lineLow := active, floor := if active then [] else x.floor })
    let h := setN h Obj.TW_COMMAND_STATUS 2
    if active then dropSwitched (bump h Obj.TW_EQUINOXES) else becomeActive h 0

/-- R421: the active demotes itself: in Lockstep, when it maps out a head or a lane of a switched output and the standby is
in Summer; when it is tampered, and then Tyvel traffic stops; or at a planned Equinox. -/
def demote (h : Hub) (c : DemotionCause) : Hub :=
  if !isActive h then h
  else match c with
    | .lostHeadOrLane =>
      if getN h Obj.TW_STATE == 4 && h.twin.peer.any (fun r => r.season == 1) then dropSwitched (dropToken (abandonPlanned h)) else h
    | .tampered => if tampered h then dropSwitched (toAlone (dropToken (abandonPlanned h))) else h
    | .planned => equinoxTime h

/-! Keys of the link (R405) -/

/-- R405: a REKEY exchange names the COUNTER at which a direction takes its new key. (DESIGN CHOICE, log 10) -/
def rekeyFrame (h : Hub) (sending : Bool) (counter : Nat) : Hub :=
  setTwin h (fun t => if sending then { t with rekeyTx := some counter, lastKey := h.now } else { t with rekeyRx := some counter, lastKey := h.now })

/-- R405: the sender starts a REKEY once COUNTER has reached a multiple of 2^32 or 600 s have passed since the last key change, unless one is under way. -/
def rekeyDue (h : Hub) : Hub :=
  let t := h.twin
  whenH (t.session && t.rekeyTx.isNone && (t.txCounter / 2 ^ 32 > t.keyCounter / 2 ^ 32 || t.lastKey + 600000000000 ≤ h.now)) h (fun h =>
    tyvel h { type := .rekey })

/-- R479: the Tyvel link restarts. -/
def tyvelRestart (h : Hub) : Hub := if h.twin.linkUp then
    twinLost (linkDown (linkDown (setLineRate (tyvelClear (setTwin h (fun t => { t with linkUp := false, lanes := [] }))) 24 0) 24) 25)
  else h

end Sys2Proof.Machine
end

