-- ==== Sys2Proof/Machine/Units.lean ====
section
/-! DEFINITION. What becomes of a unit: quarantine and mapping out (R23, R29, R464, R507), return to service, unit reset and
restart (R479, R505, R389). -/

namespace Sys2Proof.Machine

/-- Which kind of unit a number names, with its instance. -/
inductive UKind where
  | bank (b : Nat) | gp (n : Nat) | head (n : Nat) | lane (l : Nat) | usb4 (k : Nat) | output (o : Nat) | mac (m : Nat)
  | fn (f : Nat) | nv (k : Nat) | usbHub | tyvel | pd (p : Nat) | keys | security | time | supervisor
  | tileLane | other
deriving DecidableEq, Repr, Inhabited

def unitKind (u : Nat) : UKind :=
  let find (n : Nat) (f : Nat → Nat) : Option Nat := (List.range n).find? (fun i => f i == u)
  match find 256 bankUnit with
  | some b => .bank b
  | none => match find 32 gpUnit with
  | some n => .gp n
  | none => match find 4 headUnit with
  | some n => .head n
  | none => match find 42 laneUnit with
  | some l => .lane l
  | none => match find 4 usb4Unit with
  | some k => .usb4 k
  | none => match find 3 outputUnit with
  | some o => .output o
  | none => match find 6 macUnit with
  | some m => .mac m
  | none => match find 4 fnUnit with
  | some f => .fn f
  | none => match find 2 nvUnit with
  | some k => .nv k
  | none => match find 4 pdUnit with
  | some p => .pd p
  | none =>
    if u == usb3HubUnit || u == usb2HubUnit then .usbHub
    else if u == tyvelUnit then .tyvel
    else if u == keyStoreUnit then .keys
    else if u == securityUnit then .security
    else if u == timeUnit then .time
    else if u == supervisorUnit then .supervisor
    else if (List.range 8).any (fun i => tileLaneUnit i == u) then .tileLane
    else .other

/-- R21, R438, R427: the keys are gone or out of reach: MACsec and Tyvel encryption stop, SPDM sessions end, and a pair runs Alone. (DEDUCED, log 30) -/
def keysLost (h : Hub) : Hub :=
  let h := forEach (h.keys.sessions.map (·.1)) h closeSession
  if h.twin.session || decide (1 ≤ getN h Obj.TW_STATE) then twinLost h else h

/-- R23, R430: key operations under way complete with an error. -/
def failKeyOps (h : Hub) : Hub :=
  setKeys (forEach h.keys.busy h (fun h o => setSel h o.ctx Obj.KC_STATUS (.int 3))) (fun k => { k with busy := [] })

/-- R21: the time unit is out of service: network time is in holdover, and a pair, which depends on it, runs Alone. -/
def timeStops (h : Hub) : Hub :=
  let h := setFlag (setTime h (fun t => { t with inUse := 0, qualified := [] })) Obj.TIME_HOLDOVER
  if 1 ≤ getN h Obj.TW_STATE then twinLost h else h

/-- R21: with its last tile lane the deterministic coder fails, on which a pair depends. -/
def coderStops (h : Hub) : Hub :=
  if (List.range 8).all (fun i => outOfService h (tileLaneUnit i)) && decide (1 ≤ getN h Obj.TW_STATE) then twinLost h else h

/-- R370, R400, R312: the link above a lane that it has lost: the Tyvel link goes on without it or goes down, an output relinks, and a link of
a single lane is down. USB4 and the NV links have commands of their own for it. -/
def laneGone (h : Hub) (l : Nat) : Hub :=
  if 38 ≤ l then twinLaneLost h l
  else if 8 ≤ l && l < 20 then outLaneLost h l
  else if 20 ≤ l && l < 24 then (if 4 ≤ getN h (psKey (l - 19) Obj.PS_SPEED) then portDisconnect h (l - 19) else h)
  else if 24 ≤ l && l < 30 then (if getN h (Obj.LINK_SPEED (l - 24)) == 0 then h else macStop h (l - 24))
  else h

/-- R23: what stops when a unit is isolated. An engine, a Guard or a tile lane holds nothing of its own between commands: who uses
one asks whether it is in service. -/
def stopUnit (h : Hub) (u : Nat) : Hub :=
  match unitKind u with
  | .head n => fitHead (stopHead h n) n
  | .lane l => laneGone (send (updLane h l (fun x => x.unused.off)) (.link u "removed" [])) l
  | .usb4 k => portLinkLost h k
  | .output o => tellHost (fitOutput (setOutLink (unplaceAll h o) o 0 0) o) o
  | .mac m => macStop h m
  | .fn f => functionReset h f
  | .nv k => nvLost h k
  | .usbHub => if u == usb2HubUnit then usb2Detach h else h
  | .tyvel => tyvelRestart h
  | .pd p => pdDetach h p
  | .keys => keysLost (failKeyOps h)
  | .security => failKeyOps h
  | .time => timeStops h
  | .tileLane => coderStops h
  | _ => h

/-- R107, R507: the state of a group by its banks: 1 while one is mapped out, 2 while one is quarantined. -/
def groupWant (h : Hub) (g : Nat) : Nat :=
  let bs := (List.range 8).map (fun i => bankUnit (8 * g + i))
  if bs.any h.mapped.contains then 1 else if bs.any h.quarantined.contains then 2 else 0

/-- R107, R507: a group follows its banks. (DESIGN CHOICE, log 24) -/
def groupFollow (h : Hub) (g : Nat) : Hub :=
  let w := groupWant h g
  if w == 0 then (if groupState h g == 0 then h else groupRejoin h g) else groupLeave h g w

/-- Tables 2.3, 2.4: the two ends of UCIe module `i`, on the C-die and on the P-die. -/
def seamEnds (i : Nat) : List Nat := [unitNo 0 7 6 i, unitNo 1 5 3 i]

/-- R461, R462, R22: conditions of the package that follow from what is out of service. -/
def packageCheck (h : Hub) (u : Nat) : Hub :=
  let h := match unitKind u with
    | .bank b =>
      let h := if h.part != .bw7720 && groupState h (b / 8) != 0 && groupState h (Nat.xor (b / 8) 16) != 0 then report h 0x2101 u else h
      if (groupsIn h).length < 24 then report h 0x2102 u else h
    | _ => h
  let engines := (List.range 16).map engineUnit
  let h := if engines.contains u && engines.all (outOfService h) then report h 0x2201 u else h
  let out := (List.range 4).filter (fun i => (seamEnds i).any h.mapped.contains)
  if (List.range 4).any (fun i => (seamEnds i).contains u) && decide (out.length ≥ 2) then report h 0x2701 u else h

/-- R421: the active of a Lockstep pair that maps out a head or a lane of a switched output demotes itself. -/
def lockstepUnit (h : Hub) (u : Nat) : Hub :=
  match unitKind u with
  | .head _ => demote h .lostHeadOrLane
  | .lane l => if 8 ≤ l && l < 20 && bitOf (getN h Obj.TW_SWITCHED) ((l - 8) / 4) then demote h .lostHeadOrLane else h
  | _ => h

/-- R29, R464: a unit leaves service. One that is mapped out stays so. -/
def leaveService (h : Hub) (u : Nat) (mapOut : Bool) : Hub :=
  if !h.part.has u || h.mapped.contains u || (!mapOut && h.quarantined.contains u) then h
  else
    let was := match unitKind u with
      | .gp n => portBlocked h n
      | _ => false
    let h := if mapOut then { h with mapped := insertNew h.mapped u, quarantined := h.quarantined.filter (· != u) }
      else { h with quarantined := insertNew h.quarantined u }
    let h := match unitKind u with
      | .gp n => portFollow h n was
      | .bank b => groupFollow h (b / 8)
      | _ => stopUnit h u
    packageCheck (if mapOut then lockstepUnit h u else h) u

/-- R29, R507: a unit is in service again: its port may come up, its group rejoins, a head that is enabled restarts. -/
def backInService (m : List Host.Cell) (h : Hub) (u : Nat) : Hub :=
  if !h.quarantined.contains u then h
  else
    let was := match unitKind u with
      | .gp n => portBlocked h n
      | _ => false
    let h := { h with quarantined := h.quarantined.filter (· != u) }
    match unitKind u with
    | .gp n => portFollow h n was
    | .bank b => groupFollow h (b / 8)
    | .head n => if getB h (Obj.H_ENABLE n) then restartHead m h n else h
    | .time => tryPair h
    | .keys => tryPair h
    | .tileLane => tryPair h
    | _ => h

/-- R30: a hardware fault of a unit sets its fault flag and quarantines it. An engine's or Guard's flag is a condition of the
health table, as is a head's. -/
def unitFault (h : Hub) (u : Nat) : Hub :=
  if !h.part.has u then h
  else
    let h := leaveService (setFault h u) u false
    match unitKind u with
    | .head _ => report h 0x1401 u
    | _ =>
      if (List.range 16).any (fun e => engineUnit e == u) then report h 0x1201 u
      else if (List.range 16).any (fun g => guardUnit g == u) then report h 0x1702 u
      else if (List.range 4).any (fun i => (seamEnds i).contains u) then report h 0x1701 u
      else if (List.range 8).any (fun r => paceUnit r == u) then report h 0x1503 u
      else h

/-- R22: a fault in the shared logic of a unit's cluster, or in its domain, found by that unit: every unit of the cluster is
quarantined, of each cluster that the domain holds. A cluster has no flag of its own: the unit that found it has its flag set and is
reported. (DESIGN CHOICE, log 50) -/
def clusterFault (h : Hub) (u : Nat) (ofDomain : Bool) : Hub :=
  let hit (v : Nat) : Bool := if ofDomain then domainOfUnit v == domainOfUnit u else v / 0x100 == u / 0x100
  forEach (allUnits.filter (fun v => hit v && v != u)) (unitFault h u) (fun h v => leaveService h v false)

/-! Restart and reset (R389, R479, R505) -/

/-- R479, R389: a unit starts again with its configuration from live values, its own state lost. (DEDUCED, log 6) -/
def restartUnit (m : List Host.Cell) (h : Hub) (u : Nat) : Hub :=
  if !inService h u then h
  else match unitKind u with
    | .gp n => if portIsUp h n then portFlushEnd (portGoDown h n) n else h
    | .head n =>
      let h := stopHead h n
      if getB h (Obj.H_ENABLE n) then restartHead m h n else putHead h n {}
    | .lane l => updLane (stopUnit h u) l (fun x => { laneDefault l with prbsBits := x.prbsBits, prbsErrs := x.prbsErrs })
    | .time => timeResumes h
    | .keys => keysRestart h
    | .security => failKeyOps h
    | .supervisor => later h .restart
    | .usbHub => if u == usb2HubUnit then hub2Reset h 0 else hotReset h
    | .bank _ => h
    | .tileLane => h
    | .other => if u == epmUnit then forEach ((List.range 7).map (· + 1)) h (fun h n => emptyTt h n (fun _ => true)) else h
    | _ => stopUnit h u

/-- R505: the unit, or the two members of a bonded pair, that an object's flags and counters belong to. Those of an object that is
seen through every PD or Guard block (R356, R455) are no one unit's: whether they are of the block's unit the manual leaves open,
and the model gives them to none. (DESIGN CHOICE, log 50) -/
def ownersOf (k : Nat) : List Nat :=
  let l := locate (keyIdx k)
  let pos := keyPos k
  match l.fam with
  | .gp => (bondMembers l.inst).map gpUnit
  | .usb4 => [usb4Unit l.inst]
  | .mac => [macUnit l.inst]
  | .nv => [nvUnit l.inst]
  | .head => [headUnit l.inst]
  | .layer => [headUnit (l.inst / 4)]
  | .outp => [outputUnit l.inst]
  | .pd => if l.off == 0x3F then [] else [pdUnit l.inst]
  | .lane => [laneUnit l.inst]
  | .guard => if l.off ≥ 0x3D then [] else [guardUnit l.inst]
  | .glob =>
    match keyIdx k with
    | 0x1401 => (allUnits[pos]?).toList
    | 0x3005 => ((List.range 8).filter (fun b => k == at_ pos (Obj.BANK_CE b) || k == at_ pos (Obj.BANK_UE b))).map (fun b => bankUnit (8 * pos + b))
    | 0x3806 => [gpUnit pos]
    | 0x3809 => [gpUnit pos]
    | 0x380B => [gpUnit (pos / 256)]
    | 0x5402 => [gpUnit pos]
    | 0x5A01 => [crUnit (pos / 6)]
    | 0x6431 => [outputUnit (outputOf pos)]
    | _ => []
  | _ => []

/-- R54: a flag, an event count, a counter or a peak. -/
def isCount (k : Nat) : Bool :=
  match rowAt (keyIdx k) (keySub k) with
  | some r => r.kind != .plain
  | none => false

/-- R389, R505, R387: a unit starts again after its domain was Off: its own state is lost, its flags, event counts and counters are kept. The link of a
drive is down and trains again; a head of a domain that is not On does not run. -/
def restartFromOff (m : List Host.Cell) (h : Hub) (u : Nat) : Hub :=
  let was := h
  let h := match unitKind u with
    | .head n => if domOn h (domainOfUnit u) then restartUnit m h u else stopHead h n
    | .nv k => if getN h (Obj.NV_LINK_SPEED k) == 0 then h else nvDown h k
    | .keys => keysRestart (keysForgotten (keysLost (failKeyOps h)))
    | _ => restartUnit m h u
  let counts := ((was.dict ++ h.dict).map (·.1)).eraseDups.filter isCount
  forEach counts h (fun h k => setN h k (getN was k))

/-- R479, R505: a unit reset: the unit starts again, and exactly its flags, counts and counters are cleared. (DEDUCED, log 18) -/
def resetUnit (m : List Host.Cell) (h : Hub) (u : Nat) : Hub :=
  let h := restartUnit m h u
  let h := match unitKind u with
    | .lane l => updLane h l (fun x => { x with prbsBits := 0, prbsErrs := 0 })
    | _ => h
  { h with dict := h.dict.filter (fun x => !((ownersOf x.1).contains u && isCount x.1)) }

end Sys2Proof.Machine
end

