-- ==== Sys2Proof/Machine/Health.lean ====
section
/-! DEFINITION. Health seasons (R456-R466): the health state table, the season with its log entry and emergency frame, the
steps of Winter, and the mapped-out set in the flash record. -/

namespace Sys2Proof.Machine

/-! The stored-dictionary records (R52, R464) -/

/-- R52, R478: the record in force: of those whose check verifies the one with the higher sequence. -/
def Store.inForce (s : Store) : Option StoreRecord :=
  if s.slotA.ok && (!s.slotB.ok || decide (s.slotB.seq ≤ s.slotA.seq)) then some s.slotA
  else if s.slotB.ok then some s.slotB else none

/-- R52: a record goes into the slot that does not hold the one in force, with a sequence one higher. -/
def Store.put (s : Store) (vals : SMap Val) (mapout : List Nat) : Store :=
  let seq := ((s.inForce.map (·.seq)).getD 0) + 1
  let r : StoreRecord := { seq := seq, ok := true, vals := vals, mapout := mapout }
  if s.inForce == some s.slotA && s.slotA.ok then { s with slotB := r } else { s with slotA := r }

def Store.vals (s : Store) : SMap Val := (s.inForce.map (·.vals)).getD []
def Store.mapout (s : Store) : List Nat := (s.inForce.map (·.mapout)).getD []

/-- R464: MAPOUT_SET becomes `l`, the stored values as they are. (DEDUCED, log 42) -/
def setMapoutSet (h : Hub) (l : List Nat) : Hub := { h with store := h.store.put h.store.vals l }

/-! Seasons (R456-R458) -/

/-- Table 25.1: the status pins, low in these seasons. (DESIGN CHOICE, log 39) -/
def replaceLow (h : Hub) : Bool := decide (2 ≤ season h)
/-- DESIGN CHOICE, log 39. -/
def faultLow (h : Hub) : Bool := season h == 3

/-- R457: the season that the conditions which hold ask for. -/
def seasonWant (h : Hub) : Nat :=
  max (maxOf (fun x => x.season) h.health.holds) (if h.mapped.isEmpty then 1 else 2)

/-- R458: an event of the season: a log entry and an emergency frame. -/
def healthNote (h : Hub) (code unit row : Nat) : Hub := emergency (healthLog h code unit row) code unit

/-- R463: the steps of entering Winter, after the emergency frame. -/
def winterSteps (h : Hub) (code : Nat) : Hub :=
  let h := dropToken (setN h Obj.WINTER_CAUSE code)
  let h := forEach [0, 1, 2, 3] (driveSnk (stopSources h [0, 1, 2, 3]) false) (fun h p => dropPort h p false)
  forEach ((List.range 64).filter (fun d => d != 57 && d != 63)) h (fun h d => forceDomain h true d)

/-- R457, R458: the season follows the conditions after an event of a unit that mapped `outs` out: each mapping-out has its entry. In Spring
only Winter is entered, in recovery hold not even that (R473); Winter is never left. -/
def seasonFollow (h : Hub) (code unit row : Nat) (outs : List Nat) : Hub :=
  let was := season h
  let w := seasonWant h
  let new := if was == 3 || inHold h then was else if was == 0 then (if w == 3 then 3 else 0) else w
  let h := if new == was then h else setFlag (setN h Obj.SEASON new) Obj.SEASON_CHANGED
  let who := if outs.isEmpty && new != was then [unit] else outs
  let h := forEach who h (fun h u => healthNote h (if new == 1 && was == 2 then 0 else code) u row)
  if new == 3 && was != 3 then winterSteps h code else h

/-! The health state table (R459, R460) -/

def htN (h : Hub) (row k : Nat) : Nat := getN h (at_ row k)

/-- R459: reports of a condition from one unit within a window of ms; 0 counts every report since the last reset. (DEDUCED, log 42) -/
def reportsWithin (h : Hub) (code unit window : Nat) : Nat :=
  ((h.health.reports.drop (if window == 0 then h.health.kept else 0)).filter (fun r => r.1 == code && r.2.1 == unit
    && (window == 0 || decide (h.now ≤ r.2.2 + window * 1000000)))).length

/-- R459: a valid row whose condition's reports from the unit reach its threshold fires. (DEDUCED, log 42) -/
def rowFires (h : Hub) (row code unit : Nat) : Bool :=
  htN h row Obj.HT_VALID == 1 && htN h row Obj.HT_CONDITION == code
    && decide (htN h row Obj.HT_THRESHOLD ≤ reportsWithin h code unit (htN h row Obj.HT_WINDOW))

/-- Table 25.2: the units that a row's action takes out for a report of `unit`. (DEDUCED, log 36) -/
def actionUnits (h : Hub) (code unit : Nat) : List Nat :=
  if code == 0x1103 then unitsOfDomain h (domainOfUnit unit)
  else if code == 0x1703 then allUnits.filter (fun u => uDie u == uDie unit && uRegion u == uRegion unit && h.part.has u)
  else [unit]

/-- R459, R464: map a unit out and add it to MAPOUT_SET. -/
def mapOut (h : Hub) (u : Nat) : Hub :=
  let h' := leaveService h u true
  if h'.mapped == h.mapped then h' else setMapoutSet h' (insertNew h'.store.mapout u)

/-- R459: the action of a row. -/
def rowAction (h : Hub) (action code unit : Nat) : Hub :=
  match action with
  | 1 => forEach (actionUnits h code unit) h mapOut
  | 2 => forEach (actionUnits h code unit) h (fun h u => leaveService h u false)
  | _ => h

/-- R459, R460: one row meets a report. -/
def rowMeets (h : Hub) (row code unit : Nat) : Hub :=
  if !rowFires h row code unit then h
  else
    let hold : HealthHold := { row := row, unit := unit, code := code, season := htN h row Obj.HT_SEASON, latch := htN h row Obj.HT_LATCH == 1 }
    let h' := rowAction (bump h (at_ row Obj.HT_HITS)) (htN h row Obj.HT_ACTION) code unit
    let h' := { h' with health := { h'.health with
      holds := h'.health.holds.filter (fun x => !(x.row == row && x.unit == unit)) ++ [hold] } }
    seasonFollow h' code unit row (h'.mapped.filter (fun u => !h.mapped.contains u))

/-- R460: a report is evaluated once, against the rows in position order. In Winter it is logged and acts no further. (DEDUCED, log 42) -/
def healthReport (h : Hub) (code unit : Nat) : Hub :=
  if inWinter h then healthLog h code unit 0xFF
  else
    let h := { h with health := { h.health with reports := h.health.reports ++ [(code, unit, h.now)] } }
    forEach (List.range 64) h (fun h row => rowMeets h row code unit)

/-- R461: what an unlatched row waited for has come, and its season no longer holds. -/
def clearHolds (h : Hub) (p : HealthHold → Bool) (unit row : Nat) : Hub :=
  if inWinter h || !h.health.holds.any (fun x => !x.latch && p x) then h
  else
    let h := { h with health := { h.health with holds := h.health.holds.filter (fun x => x.latch || !p x) } }
    seasonFollow h 0 unit row []

/-- R461: a condition of a unit has cleared; unit 0xFFFF stands for every unit that reported it. -/
def conditionCleared (h : Hub) (code unit : Nat) : Hub :=
  match h.health.holds.find? (fun x => x.code == code && (x.unit == unit || unit == 0xFFFF) && !x.latch) with
  | some x => clearHolds h (fun y => y.code == code && (y.unit == unit || unit == 0xFFFF)) x.unit x.row
  | none => h

/-- R460: the condition of one row clears for one unit. -/
def rowClear (h : Hub) (row unit : Nat) : Hub := clearHolds h (fun x => x.row == row && x.unit == unit) unit row

/-- R465: a COMMIT of a health row is refused for a code of neither table, or a Winter row without its latch. (DEDUCED, log 42) -/
def healthCheck (h : Hub) (row : Nat) : Option Abort :=
  if !(Tab.healthRows.map (fun r => r.headD 0)).contains (htN h row Obj.HT_CONDITION) then some (.table 0x80)
  else if htN h row Obj.HT_SEASON == 3 && htN h row Obj.HT_LATCH == 0 then some (.table 0x80)
  else none

/-- R462: BW_TJ has stayed at or above 110 °C for 1 s. The report names the pace monitor of a region, which no object of the
hub tells: a free value. -/
def junctionHot (h : Hub) : Hub :=
  if getI h Obj.BW_TJ ≥ 1100 then report (tick h) 0x2802 (paceUnit (Config.freeNat h.fresh % 8)) else h

/-- R33: a region's undervoltage trip: its units are quarantined, the region logic's fault flag (that of its pace monitor, the
one unit of the cluster that is neither a port nor a Guard) is set, and a package fault is reported. (DEDUCED, log 36, 42) -/
def regionTrip (h : Hub) (r : Nat) : Hub :=
  let u := paceUnit r
  let h := forEach (actionUnits h 0x1703 u) h (fun h u => leaveService h u false)
  report (setFault h u) 0x1703 u

/-- R457: the end of Spring. The manual names no code and unit for an Autumn that the mapped-out set alone brings: free. (DESIGN CHOICE, log 8; DEDUCED, log 22) -/
def leaveSpring (h : Hub) : Hub :=
  if season h != 0 then h
  else
    let w := seasonWant h
    let h := setFlag (setN h Obj.SEASON w) Obj.SEASON_CHANGED
    match h.health.holds.head? with
    | some x => healthNote h x.code x.unit x.row
    | none =>
      if w == 1 then healthNote h 0 0 0xFF
      else healthNote (tick h) (Config.freeNat h.fresh % 65536) (h.mapped.headD 0) 0xFF

end Sys2Proof.Machine
end

