-- ==== Sys2Proof/Machine/Absent.lean ====
section
/-! DEFINITION. Where an object stands: whether it exists (R8, R43), whether the part has it (R62, R484, R486), its window's
position (R55, R57), the domain its unit lies in (R48), and whether its unit is out of service (R47). -/

namespace Sys2Proof.Machine

/-- R8, R43: an index or sub-index that no chapter defines. -/
def existCheck (i s : Nat) : Option Abort :=
  if 0xF000 ≤ i then some .reservedIndex
  else if topSub i == 0 then some .noIndex
  else if s == 0 || (rowAt i s).isSome then none
  else some .noSub

/-- R62, R486: an object of an absent instance, or of a function that is fused off in a present unit. -/
def absentCheck (p : Part) (i s : Nat) : Option Abort :=
  let l := locate i
  let need (u : Nat) : Option Abort := if p.has u then none else some .absent
  match l.fam with
  | .gp => need (gpUnit l.inst)
  | .usb4 => need (usb4Unit l.inst)
  | .mac => need (macUnit l.inst)
  | .nv => need (nvUnit l.inst)
  | .head => need (headUnit l.inst)
  | .layer => need (headUnit (l.inst / 4))
  | .outp => need (outputUnit l.inst)
  | .pd => need (pdUnit l.inst)
  | .lane => need (laneUnit l.inst)
  | .guard => need (guardUnit l.inst)
  | .dom => if domPresent p l.inst then none else some .absent
  | .pool => none
  | .glob =>
    if p == .bw7720 && 0x6800 ≤ i && i ≤ 0x68FF then some .absent
    else if p != .bw7740 && 0x8400 ≤ i && i ≤ 0x84FF then some .absent
    else if p == .bw7720 && ((0x3809 ≤ i && i ≤ 0x380B) || i == 0x64E0 || i == 0x64E1) then some .absentFn
    else if p != .bw7740 && (i == 0x3407 || i == 0x340A) && s == 10 then some .absentFn
    else none

/-! Windows (R55-R57) -/

/-- R55: the entry count of window `i`, at index i - 1. -/
def windowCount (i : Nat) : Nat :=
  match rowAt (i - 1) 1 with
  | some r => if r.acc == .const then (match r.dflt with | .int v => v.toNat | _ => 0) else 0
  | none => 0

/-- R55: an index whose sub-index 1 is a position over the count before it. -/
def isWindow (i : Nat) : Bool :=
  match rowAt i 1 with
  | some r => r.sel && r.ty == .u 2 && windowCount i != 0
  | none => false

/-- R55: a window with a COMMIT. -/
def isStaging (i : Nat) : Bool := (rowAt i 0xFE).isSome

/-- R57: the entry that a carrier context has selected at an index; 0x380B shows entries of the port in GATE_PORT (R181). -/
def posOf (h : Hub) (c : Ctx) (i : Nat) : Nat :=
  if i == 0x380B then selN h c Obj.GATE_PORT * 256 + selN h c (0x380B * 256 + 1)
  else if i == 0x3809 then selN h c Obj.GATE_PORT
  else if isWindow i then selN h c (i * 256 + 1) else 0

/-- The key of an object as a carrier context sees it. -/
def keyOf (h : Hub) (c : Ctx) (i s : Nat) : Nat := at_ (posOf h c i) (i * 256 + s)

/-! Domains and units of objects (R47, R48) -/

/-- R48: the domain of the unit that the objects of an index belong to; objects of no unit are the supervisor core's, in PW57. An object
that is seen through every Guard block (R455) wakes the domain of the block that the access names: whose it is the manual leaves open.
(DESIGN CHOICE, log 50) -/
def indexDomain (i : Nat) : Nat :=
  let l := locate i
  match l.fam with
  | .gp => 41 + l.inst / 4
  | .usb4 => if l.inst == 0 then 50 else 51
  | .mac => 53
  | .nv => 54
  | .head => 36 + l.inst
  | .layer => 36 + l.inst / 4
  | .outp => 52
  | .pd => 60
  | .lane => domainOfUnit (laneUnit l.inst)
  | .guard => 41 + l.inst / 2
  | .dom => 63
  | .pool => 57
  | .glob =>
    let page := i / 256
    if page == 0x13 then 59
    else if page == 0x5A then 54
    else if page == 0x64 then 52
    else if page == 0x68 then 40
    else if page == 0x70 then 55
    else if page == 0x84 then 56
    else if page == 0x90 then 58
    else if page == 0x98 then 63
    else 57

/-- R48, R505: the domain of the unit of an object: for a field of a window entry that describes one unit, that unit's. The unit
directory is the supervisor core's, and a selector is its carrier's (R57). -/
def objDomain (k : Nat) : Nat :=
  let i := keyIdx k
  let own : Bool := match rowAt i (keySub k) with
    | some r => !r.sel
    | none => false
  if own && [0x3005, 0x3806, 0x3809, 0x380B, 0x5402, 0x5A01].contains i then
    match ownersOf k with
    | u :: _ => domainOfUnit u
    | [] => indexDomain i
  else indexDomain i

/-- R47: the units that an object belongs to: those of R505, and the unit that a chapter's global objects are about. (DEDUCED, log 18) -/
def unitsOfKey (k : Nat) : List Nat :=
  let i := keyIdx k
  let page := i / 256
  match ownersOf k with
  | [] =>
    if page == 0x84 then [tyvelUnit] else if page == 0x90 then [securityUnit, keyStoreUnit]
    else if page == 0x98 then [tamperUnit]
    else if i == 0x7005 then [epmUnit] else if page == 0x70 then [usb3HubUnit, usb2HubUnit]
    else if i == 0x5A20 then [fnUnit 1] else if page == 0x5A then (List.range 4).map fnUnit
    else if page == 0x13 then [timeUnit] else []
  | us => us

/-- R47: the first unit of an object that is quarantined or mapped out. The unit directory is exempt; the coder is out of service when
all of its tile lanes are, and stands under its first. (DEDUCED, log 18) -/
def outUnit (h : Hub) (k : Nat) : Option Nat :=
  let page := keyIdx k / 256
  if page == 0x14 then none
  else if page == 0x68 then
    (if (List.range 8).all (fun i => outOfService h (tileLaneUnit i)) then some (tileLaneUnit 0) else none)
  else (unitsOfKey k).find? (outOfService h)

end Sys2Proof.Machine
end

