-- ==== Sys2Proof/Machine/Commit.lean ====
section
/-! DEFINITION. Staging windows (R55-R57): staging a field, discarding, and the COMMIT of an entry, each window's checks and
consequences as its chapter states them. -/

namespace Sys2Proof.Machine

/-- R57: the position that a staged field remembers once the selected position has changed. -/
def disturbedPos : Nat := 0x1000000

/-- The staged fields of a window in a carrier context. -/
def stagedIn (h : Hub) (c : Ctx) (i : Nat) : List StagedField := h.staged.filter (fun x => x.ctx == c && x.window == i)

/-- R56: a field write stages the value, for the position selected now; a second write replaces the first. -/
def stageField (h : Hub) (c : Ctx) (i k pos : Nat) (v : Val) : Hub :=
  match h.staged.find? (fun x => x.ctx == c && x.window == i && x.key == k) with
  | some _ => { h with staged := h.staged.map (fun x => if x.ctx == c && x.window == i && x.key == k then { x with val := v } else x) }
  | none => { h with staged := h.staged ++ [{ ctx := c, window := i, key := k, pos := pos, val := v }] }

/-- R56: a COMMIT of 2 discards what is staged. -/
def discardStaged (h : Hub) (c : Ctx) (i : Nat) : Hub :=
  { h with staged := h.staged.filter (fun x => !(x.ctx == c && x.window == i)) }

/-- R57: a write of a position: staged fields of the window are disturbed if it moves. -/
def movePosition (h : Hub) (c : Ctx) (i k : Nat) (v : Val) : Hub :=
  let h' := if selV h c k == v then h
    else { h with staged := h.staged.map (fun x => if x.ctx == c && x.window == i then { x with pos := disturbedPos } else x) }
  setSel h' c k v

/-- A refusal leaves the old entry in force. -/
def orRefuse (h : Hub) : Except Abort Hub → Option Abort × Hub
  | .ok h' => (none, h')
  | .error a => (some a, h)

/-- R219: a path holds a subscriber (R189), or the switch has set it (R244). -/
def pathHolds (h : Hub) (u : Nat) : Bool := (pathOfSub h u).isSome

/-- R315, R420: a slot COMMIT; a change of a slot's source by the active ends Lockstep. -/
def slotCommit (h h' : Hub) (p : Nat) : Except Abort Hub :=
  let moved := getN h (at_ p Obj.SL_SOURCE) != getN h' (at_ p Obj.SL_SOURCE)
  (slotApply h h' p).map (fun x => if moved then leaveLockstep x else x)

/-- What each window's chapter makes of a COMMIT at a position, `h'` being the hub with the staged fields applied: the abort if it is
refused, and the hub that results. -/
def commitEntry (m : List Host.Cell) (h h' : Hub) (i pos : Nat) : Option Abort × Hub :=
  let check (a : Option Abort) (r : Hub) : Option Abort × Hub := match a with
    | some a => (some a, h)
    | none => (none, r)
  let ordered (lo hi : Nat) : Option Abort :=
    if getN h' (at_ pos lo) > getN h' (at_ pos hi) then some (.table 0x80) else none
  let l := locate i
  if l.fam == .mac then saApply h h' l.inst pos
  else if i == 0x3407 then check (exactCheck h h' pos) (exactApply h h' pos)
  else if i == 0x340A then check (wildCheck h h' pos) (wildApply h h' pos)
  else if i == 0x340C then check (mcCheck h' pos) h'
  else if i == 0x4001 then check (policerCheck h' pos) (policerApply h h' pos)
  else if i == 0x3802 then
    check ((subCheck h h' pos).orElse (fun _ => if allotRefuses h h' true pos then some (.table 0x82) else none)) (subApply h h' pos)
  else if i == 0x3804 then check (if allotRefuses h h' false pos then some (.table 0x82) else none) (svcApply h h' pos)
  else if i == 0x3806 then (none, portApply h h' pos)
  else if i == 0x5404 then check (ordered Obj.AV_MIN Obj.AV_MAX) h'
  else if i == 0x5406 then
    check ((ordered Obj.AS_MIN Obj.AS_MAX).orElse (fun _ =>
      if pathHolds h pos && getN h (at_ pos Obj.AS_MODE) != getN h' (at_ pos Obj.AS_MODE) then some (.table 0x81) else none)) h'
  else if i == 0x6802 then surfaceApply m h h' pos
  else if i == 0x6807 then orRefuse h (formatApply h h' pos)
  else if i == 0x64E1 then orRefuse h (timingApply m h h' pos)
  else if i == 0x6431 then orRefuse h (slotCommit h h' pos)
  else if i == 0x7005 then check (carveCheck h h' pos) h'
  else if i == 0x1202 then check (healthCheck h' pos) h'
  else (none, h')

/-- The hub with fields of an entry set. -/
def withFields (h : Hub) (pos : Nat) (fs : List StagedField) : Hub := forEach fs h (fun h x => setV h (at_ pos x.key) x.val)

/-- R56: a COMMIT of given fields to an entry, at one instant. -/
def commitFields (m : List Host.Cell) (h : Hub) (i pos : Nat) (fs : List StagedField) : Option Abort × Hub :=
  commitEntry m h (withFields h pos fs) i pos

/-- R56, R57: a COMMIT of 1 in a carrier context: staging that was disturbed is discarded, and so are fields that are refused. -/
def commitWindow (m : List Host.Cell) (h : Hub) (c : Ctx) (i : Nat) : Option Abort × Hub :=
  let fs := stagedIn h c i
  let pos := posOf h c i
  let h := discardStaged h c i
  if fs.any (fun x => x.pos != pos) then (some .disturbed, h) else commitFields m h i pos fs

end Sys2Proof.Machine
end

