-- ==== Sys2Proof/Machine/Check.lean ====
section
/-! DEFINITION. What a dictionary access is refused with, class by class in the order of R69: attributes and carriers (R46,
R404, R413, R432, R450), states of the hub (R463, R473), idleness (R46 and each chapter), and the values that a chapter
alone can judge. -/

namespace Sys2Proof.Machine

/-! Mirrored objects (R412) -/

/-- Table 22.5: index ranges of per-hub objects. -/
def perHub (i : Nat) : Bool :=
  let within (a b : Nat) : Bool := decide (a ≤ i) && decide (i ≤ b)
  within 0x1100 0x11FF || within 0x1300 0x13FF || within 0x5000 0x53FF || within 0x5800 0x58BF || within 0x7400 0x74FF
    || within 0x7800 0x7AFF || within 0x7C00 0x7CFF || within 0x8000 0x81FF || within 0x8400 0x84FF || within 0x9000 0x98FF
    || within 0xA000 0xA0FF

/-- R412: entries that each hub sets from its own cable: wildcards and subscribers of paths, and NV subscribers. -/
def cableEntry (h : Hub) (i pos : Nat) : Bool :=
  if i == 0x340A then h.usb4.paths.any (fun x => x.2.wild == pos)
  else if i == 0x3802 || i == 0x5406 then
    pathHolds h pos || (List.range 2).any (fun k => h.pcie.linkUp.contains (k + 1)
      && (getN h (Obj.NV_DOWN_SUBSCRIBER k) == pos || getN h (Obj.NV_UP_SUBSCRIBER k) == pos))
  else false

/-- R412: a write to a mirrored object; positions and selectors are each hub's and carrier's own (R57). (DEDUCED, log 19) -/
def mirrored (h : Hub) (i pos : Nat) (r : Row) : Bool :=
  (r.acc == .rw || r.acc == .rwi || r.acc == .wo) && !r.sel && !perHub i && !cableEntry h i pos

/-! Attributes (classes 0x03 and 0x09) -/

/-- R46, R136, R302, R404, R413: class 0x03 of a write. -/
def attributeCheck (h : Hub) (src : Src) (i s pos : Nat) : Option Abort :=
  match rowAt i s with
  | none => some .readOnly
  | some r =>
    if src.ctx == .tyvel then some .carrier
    else if r.acc == .const || r.acc == .ro then some .readOnly
    else if i == 0x3405 && s == 2 && pos < 11 then some .readOnly
    else if i == 0x6807 && r.staged && pos < 24 then some .readOnly
    else if isStandby h && mirrored h i pos r then some ⟨0x03, 0x80⟩
    else none

/-- R450: the objects of a Guard that its lock covers. -/
def lockCovers (i s : Nat) : Bool :=
  let l := locate i
  l.fam == .guard && ((l.off == 4 && decide (2 ≤ s)) || (l.off == 0 && s == 4) || (l.off == 0x3F && s == 1))

/-- R432, R439, R450: class 0x09 of a write, and the carriers of the key store. -/
def securityCheck (h : Hub) (src : Src) (i s : Nat) : Option Abort :=
  (keyGate h src (i * 256 + s)).orElse (fun _ => if lockCovers i s then guardLocked h src else none)

/-! States of the hub (class 0x05) -/

/-- R463, R473: what recovery hold and Winter serve. -/
def servedCheck (h : Hub) (i s : Nat) (write : Bool) : Option Abort :=
  let page := i / 256
  let hold := inHold h && !((0x10 ≤ page && page ≤ 0x14) || page == 0xA0)
  let k := i * 256 + s
  let winter := inWinter h && (if write then k != Obj.SEASON_CHANGED && k != Obj.HUB_RESET
    else page != 0x12 && page != 0x14 && page != 0x10)
  if hold || winter then some .quarantined else none

/-- The condition of each chapter under which a unit is not idle for an RWI write of `v`. -/
def rwiActive (h : Hub) (i s pos : Nat) (v : Nat) : Bool :=
  let l := locate i
  match l.fam with
  | .usb4 => getN h (Obj.LINK_MODE l.inst) != 0
  | .mac => getN h (Obj.MAC_MODE l.inst) != 0 && !(l.off == 0 && s == 1 && v == 0)
  | .nv => h.pcie.linkUp.contains (l.inst + 1)
  | .outp => getB h (Obj.OUT_ENABLE l.inst)
  | .pd => getB h (Obj.PD_ENABLE l.inst)
  | .lane => getB h (Obj.LN_ENABLE l.inst)
  | .glob =>
    if i == 0x3405 then profileBusy h pos
    else if i == 0x5A20 then busMaster h 1
    else if i == 0x6800 then bitOf h.coder.control 0
    else if i == 0x7000 then getN h Obj.USB2_STATE == 3 || getN h Obj.USB3_STATE == 3
    else if i == 0x7C00 then getB h Obj.BW_ENABLE
    else if i == 0x8400 then getN h Obj.TW_STATE != 0
    else false
  | _ => false

/-- R29: what a unit's command meets. -/
def releaseCheck (h : Hub) (u : Nat) : Option Abort :=
  if h.mapped.contains u then some .quarantined
  else if h.quarantined.contains u && faulted h u then some .faultSet else none

/-- Class 0x05 of a write: recovery hold and Winter, commands to units out of service (R47), idleness, and the firmware
(R474, R477). -/
def idleCheck (h : Hub) (i s pos : Nat) (r : Row) (v : Val) : Option Abort :=
  let k := i * 256 + s
  let n := v.toInt.toNat
  let out := (outUnit h (at_ pos k)).isSome
  (servedCheck h i s true).orElse (fun _ =>
    if r.acc == .wo && out then some .quarantined
    else if r.acc == .rwi && !out && rwiActive h i s pos n then some .active
    else if k == Obj.UNIT_RELEASE then releaseCheck h n
    else if (k == Obj.FW_IMAGE || k == Obj.FW_ACTIVATE) && getN h Obj.FW_UPDATE_STATUS == 1 then some (.state 0x80)
    else if k == Obj.FW_IMAGE && getN h Obj.FW_SET_STATE == 1 then some (.state 0x81)
    else if k == Obj.FW_ACCEPT && getN h Obj.FW_SET_STATE != 1 && getN h Obj.FW_SET_STATE != 2 then some (.state 0x81)
    else none)

/-! Values (class 0x04) -/

/-- R305: the codes of SL_SOURCE. -/
def sourceOk (n : Nat) : Bool := decide (n ≤ 4) || (decide (0x10 ≤ n) && decide (n ≤ 0x18))

/-- R45: elements of a byte string as I16 and U16. -/
def word16 (bs : List Byte) (i : Nat) : Nat := leNat ((bs.drop (2 * i)).take 2)
def int16 (bs : List Byte) (i : Nat) : Int := (BitVec.ofNat 16 (word16 bs i)).toInt

/-- R224, R201: the queue pairs meet a USB4 port's reservation. -/
def qpOverlaps (h : Hub) (base count : Nat) : Bool :=
  (List.range 4).any (fun k => h.part.has (usb4Unit k) &&
    let b := getN h (Obj.PORT_SUB_BASE k)
    let c := getN h (Obj.PORT_SUB_COUNT k)
    decide (0 < c) && decide (b < base + count) && decide (base < b + c))

/-- R224: a write of NIC_QP_BASE or NIC_QP_COUNT. -/
def qpCheck (h : Hub) (base count : Nat) : Option Abort :=
  if base + count > 1024 then some .above
  else if qpOverlaps h base count then some (.value 0x81) else none

/-- R204, Table 11.1: ports that the allotment controller can manage. -/
def allotPort (p : Part) (n : Nat) : Bool := n != 2 && n != 27 && decide (n < 29) && p.has (gpUnit n)

/-- R8, Table 8.1: a lookup key has a reserved bit set: bits [7:4] of its presence flags, or byte 3. -/
def keyReserved (key : List Byte) : Bool :=
  decide (16 ≤ ((key[2]?).getD 0).toNat) || ((key[3]?).getD 0) != 0

/-- The objects of global ranges whose values their chapters judge. (DEDUCED, log 13) -/
def globValue (h : Hub) (i s pos : Nat) (v : Val) : Option Abort :=
  let k := i * 256 + s
  let n := v.toInt.toNat
  let bs := v.toBytes
  if k == Obj.UNIT_QUARANTINE || k == Obj.UNIT_RELEASE || k == Obj.UNIT_RESET then
    if (unitPos n).isNone then some .notDefined
    else if k == Obj.UNIT_RESET && (n == tamperUnit || n == emberUnit) then some (.value 0x80) else none
  else if k == Obj.TIME_PRIORITY then
    if n ≥ 0x1000 then some .reservedBit
    else if (List.range 3).any (fun j => bitsOf n (4 * j + 3) (4 * j) > 3) then some .notDefined else none
  else if k == Obj.P_MASK then (if maskOk pos bs then none else some .notDefined)
  else if k == Obj.EX_E_KEY || k == Obj.WC_E_KEY || k == Obj.HK_KEY then (if keyReserved bs then some .reservedBit else none)
  else if k == Obj.EX_E_POLICER then (if n > 1 then some .above else none)
  else if k == Obj.WC_E_POLICER then (if n > 8191 && n != 0xFFFF then some .above else none)
  else if k == Obj.DSCP_COLOUR_MAP then
    if (List.range 64).any (fun d => bitsOf (leNat bs) (2 * d + 1) (2 * d) == 3) then some .notDefined else none
  else if k == Obj.SL_SOURCE then (if sourceOk n then none else some .notDefined)
  else if k == Obj.SF_SLOT then
    if n == 0 then none else if n > 400 then some .above else if n < 16 then some .below
    else if n % 16 == 0 then none else some .notDefined
  else if k == Obj.CV_OWNER then (if (ownerMin n).isSome then none else some .notDefined)
  else if k == Obj.AP_ENABLE then (if n == 1 && !allotPort h.part pos then some (.value 0x80) else none)
  else if k == Obj.NIC_QP_BASE then qpCheck h n (getN h Obj.NIC_QP_COUNT)
  else if k == Obj.NIC_QP_COUNT then qpCheck h (getN h Obj.NIC_QP_BASE) n
  else if k == Obj.BW_LOW_MARK || k == Obj.BW_HIGH_MARK then markCheck h k n
  else if k == Obj.TP_ENABLE then
    if getN h Obj.TP_ENABLE &&& n == getN h Obj.TP_ENABLE then none else some (.value 0x80)
  else none

/-- The objects of a USB4 port, of a MAC and of a lane whose values differ per instance. (DEDUCED, log 13) -/
def usb4Value (h : Hub) (k s n : Nat) : Option Abort :=
  if s == 6 then (if n != 0 && k != 0 then some (.value 0x80) else none)
  else if s == 7 then (if n != 0 && k == 0 then some (.value 0x80) else none)
  else if s == 9 then (if n + getN h (Obj.PORT_SUB_COUNT k) > 1024 then some .above else none)
  else if s == 10 then (if getN h (Obj.PORT_SUB_BASE k) + n > 1024 then some .above else none)
  else none

/-- DEDUCED, log 13. -/
def macValue (m s n : Nat) : Option Abort :=
  if s == 1 then (if macModeOk m n then none else some (.value 0x80))
  else if s == 2 then (if n != 0 && 2 ≤ m then some .above else none)
  else none

/-- R359, R360, R367, R368, R371: the objects of a lane. (DEDUCED, log 13) -/
def laneValue (h : Hub) (l off s : Nat) (v : Val) : Option Abort :=
  let n := v.toInt.toNat
  if off == 1 && s == 2 then txFfeCheck h l v.toBytes
  else if off == 4 && s == 2 then prbsCheck l n false
  else if off == 4 && s == 3 then prbsCheck l n true
  else if off == 4 && s == 8 then (if (Tab.laneRates l).contains n then none else some .notDefined)
  else none

/-- R359, R367, R371: what a lane refuses of a value in range or not: any value of TX_FFE and TX_SWING while training sets them, and on a
Type B lane any but the default of a receiver's object. -/
def laneRefuses (h : Hub) (l off s : Nat) (v : Val) : Option Abort :=
  let rxOnly : Bool := (off == 2 && (s == 1 || s == 2 || s == 3 || s == 5)) || (off == 3 && s == 1) || (off == 4 && s == 3)
  if off == 1 && (s == 2 || s == 4) && getN h (Obj.TX_FFE_MODE l) == 0 then some (.value 0x82)
  else if off == 4 && s == 1 then loopCheck l v.toInt.toNat
  else if typeB l && rxOnly && v != defaultVal h.part ((0x7800 + 0x10 * l + off) * 256 + s) then some (.value 0x80)
  else none

/-- Class 0x04 of a value in its type's and row's range, as the object's chapter judges it. (DEDUCED, log 13) -/
def valueCheck (h : Hub) (i s pos : Nat) (v : Val) : Option Abort :=
  let l := locate i
  let n := v.toInt.toNat
  match l.fam with
  | .gp => if l.off == 0 && s == 2 && n == 1 && reservedPort l.inst then some .notDefined else none
  | .pool => if l.off == 0 && (s == 1 || s == 2) && !quotaSumOk h (i * 256 + s) n then some .above else none
  | .usb4 => if l.off == 0 then usb4Value h l.inst s n else none
  | .mac => if l.off == 0 then macValue l.inst s n else none
  | .head =>
    if l.off == 0 && s == 4 then
      (if n == 12 && getN h (at_ 8 Obj.SL_SOURCE) == l.inst + 1 then some (.value 0x82) else none)
    else if l.off == 0 && s == 6 then
      (if (List.range 3).any (fun j => word16 v.toBytes j > 4095) then some .above else none)
    else none
  | .layer =>
    if l.off == 1 && s == 1 then
      if (v.toBytes.drop 24).any (· != 0) then some .reservedBit
      else if [9, 10, 11].any (fun j => int16 v.toBytes j > 8191 || int16 v.toBytes j < -8192) then some .above else none
    else none
  | .outp =>
    if l.off == 0 && s == 2 then (if (Tab.laneRates (outLane l.inst 0)).contains n then none else some .notDefined)
    else if l.off == 0 && s == 4 then (if n != 0 && l.inst == 2 then some .above else none)
    else none
  | .pd => if l.off == 1 && s == 2 && l.inst != 0 && n > 100000 then some .above else none
  | .lane => laneValue h l.inst l.off s v
  | .dom => if l.off == 0 && s == 2 && n > Tab.domLimit l.inst then some .above else none
  | .glob => globValue h i s pos v
  | _ => none

/-- R55: a position's value, and the range of any other object. -/
def rangeOf (i s : Nat) (r : Row) (v : Val) : Option Abort :=
  if s == 1 && isWindow i then (if v.toInt ≥ windowCount i then some .position else none) else rangeCheck r v

/-- Class 0x04 whole. (DEDUCED, log 13) -/
def fullRange (h : Hub) (i s pos : Nat) (r : Row) (v : Val) : Option Abort :=
  let l := locate i
  (if l.fam == .lane then laneRefuses h l.inst l.off s v else none).orElse (fun _ =>
    (rangeOf i s r v).orElse (fun _ => valueCheck h i s pos v))

/-! The order of R69 -/

/-- Class 0x02 of a write, with those that a value decides (R29, R62). -/
def absentWrite (p : Part) (i s : Nat) (bs : List Byte) : Option Abort :=
  let n := leNat bs
  let k := i * 256 + s
  (absentCheck p i s).orElse (fun _ =>
    if i == 0x1403 && bs.length == 2 && (unitPos n).isSome && !p.has n then some .absent
    else if p == .bw7720 && (locate i).fam == .pool && k % 256 == 2 && (locate i).off == 0 && n != 0 then some .absentFn
    else none)

/-- Table 26.3: the size of a slot of a kind, 1 to 4. -/
def slotSize (kind : Nat) : Nat := nth [0x400000, 0x800000, 0x100000, 0x200000] (kind - 1) 0

/-- Table 4.1, R482: the length check of an object's write; FW_IMAGE holds up to the slot size of FW_TARGET's kind. -/
def objectLength (h : Hub) (c : Ctx) (i s : Nat) (t : Ty) (n : Nat) : Option Abort :=
  (lengthCheck t n).orElse (fun _ =>
    if i * 256 + s == Obj.FW_IMAGE && n > slotSize (selN h c Obj.FW_TARGET) then some .domainMax else none)

/-- R69: the first condition that a write of bytes meets, of classes 0x01 to 0x04, or its row and value. -/
def writeCheck (h : Hub) (src : Src) (i s pos : Nat) (bs : List Byte) : Except Abort (Row × Val) :=
  let early := (existCheck i s).orElse (fun _ => (absentWrite h.part i s bs).orElse (fun _ =>
    (attributeCheck h src i s pos).orElse (fun _ => securityCheck h src i s)))
  match early, rowAt i s with
  | some a, _ => .error a
  | none, none => .error .readOnly
  | none, some r =>
    let v := toVal r.ty bs
    let late := (objectLength h src.ctx i s r.ty bs.length).orElse (fun _ => (idleCheck h i s pos r v).orElse (fun _ =>
      fullRange h i s pos r v))
    match late with
    | some a => .error a
    | none => .ok (r, v)

/-- R46: a read of a WO object. -/
def readable (i s : Nat) : Option Abort :=
  match rowAt i s with
  | some r => if r.acc == .wo then some .writeOnly else none
  | none => none

/-- R69: the first condition that a read meets. -/
def readCheck (h : Hub) (i s : Nat) : Option Abort :=
  (existCheck i s).orElse (fun _ => (absentCheck h.part i s).orElse (fun _ =>
    (readable i s).orElse (fun _ => servedCheck h i s false)))

end Sys2Proof.Machine
end

