-- ==== Sys2Proof/Machine/Firmware.lean ====
section
/-! DEFINITION. Images in the boot flash (R469-R477, R483): their checks, the choice of a set, updating, accepting. -/

namespace Sys2Proof.Machine

def setFw (h : Hub) (f : Firmware → Firmware) : Hub := { h with fw := f h.fw }

/-- R483: the position of a slot. -/
def imageKey (kind slot : Nat) : Nat := 2 * (kind - 1) + slot

/-- R470, R60: the steppings an image names; 0 is an unused entry. (DEDUCED, log 43) -/
def supportsStepping (im : Image) : Bool := (im.steppings.filter (· != 0)).contains (Config.stepping % 256)

/-- R471, R476: what is wrong with an image for a kind: 0 nothing, 1 header, 4 too long, 2 digest or signature, 3 stepping. (DEDUCED, log 43) -/
def imageFault (kind : Nat) (im : Image) : Nat :=
  if !im.magicOk || im.kind != kind then 1
  else if 4096 + im.length > slotSize kind then 4
  else if !im.digestOk || !im.signatureOk then 2
  else if !supportsStepping im then 3 else 0

/-- R471: the image of a slot if it is valid. -/
def validImage (h : Hub) (kind slot : Nat) : Option Image :=
  match mget? h.fw.images (imageKey kind slot) with
  | some im => if imageFault kind im == 0 then some im else none
  | none => none

/-- The slot of a kind in the known-good set. -/
def knownSlot (h : Hub) (kind : Nat) : Nat := nth h.fw.known (kind - 1) 0

/-- R473: the trial set's slot of each kind. -/
def trialSlots (h : Hub) : List Nat :=
  [1, 2, 3, 4].map (fun k => let o := 1 - knownSlot h k; if (validImage h k o).isSome then o else knownSlot h k)

/-- The images of a set of slots, none unless each is valid. -/
def setImages (h : Hub) (slots : List Nat) : Option (List Image) :=
  [1, 2, 3, 4].mapM (fun k => validImage h k (nth slots (k - 1) 0))

/-- R472: one image lists another's version. -/
def lists (a b : Image) : Bool := ((nth a.tested (b.kind - 1) []).filter (· != 0)).contains b.version

/-- R472: a set is tested when one of every two lists the other. -/
def testedSet (ims : List Image) : Bool := ims.all (fun a => ims.all (fun b => decide (b.kind ≤ a.kind) || lists a b || lists b a))

/-- R473: what the choice of a set comes to: FW_SET_STATE, the slots, the log entries, whether the permission was used. -/
structure Chosen where
  state : Nat
  slots : List Nat
  entries : List Nat
  used : Bool := false
deriving Inhabited

/-- R473, step 3 and 4: the known-good set, or recovery hold. -/
def chooseKnown (h : Hub) (entries : List Nat) : Chosen :=
  match setImages h h.fw.known with
  | some ims => if testedSet ims then ⟨0, h.fw.known, entries, false⟩ else ⟨3, [], entries ++ [0x3006], false⟩
  | none => ⟨3, [], entries ++ [0x3006], false⟩

/-- R473, R475: the choice of a set. (DEDUCED, log 41) -/
def chooseSet (h : Hub) : Chosen :=
  let t := trialSlots h
  if h.straps.bootMode == 3 then ⟨3, [], [], false⟩
  else if t == h.fw.known || h.straps.bootMode == 2 || !h.fw.trial then chooseKnown h []
  else match setImages h t with
    | none => chooseKnown h [0x3003]
    | some ims =>
      if testedSet ims then ⟨1, t, [], false⟩
      else if h.fw.permit then ⟨2, t, [0x3002], true⟩
      else chooseKnown h [0x3003]

/-- R466: start-up's and the firmware's own entries name no unit and no row. -/
def fwLog (h : Hub) (code : Nat) : Hub := healthLog h code 0 0xFF

/-- R60: the version objects of the images in use; one whose image is not running reads 0. -/
def setVersions (h : Hub) (ims : List Image) : Hub :=
  let ver (k : Nat) : Nat := ((ims.find? (fun im => im.kind == k)).map (·.version)).getD 0
  let h := forEach [1, 2, 3, 4] h (fun h k => setN h (Obj.KINDLING_VERSION + k) (ver k))
  setN h Obj.DICTIONARY_LAYOUT (((ims.find? (fun im => im.kind == 1)).map (·.layout)).getD 0)

/-- R483: IM_STATE and IM_ROLE of a position. A slot in use reads that, the other slots of the set record known-good, and an image that
a trial would take, trial. (DEDUCED, log 43) -/
def imageState (h : Hub) (pos : Nat) : Nat :=
  match mget? h.fw.images pos with
  | none => 0
  | some im => if imageFault (pos / 2 + 1) im == 0 then 1 else 2

/-- DEDUCED, log 43. -/
def imageRole (h : Hub) (pos : Nat) : Nat :=
  if h.fw.running[pos / 2]? == some (pos % 2) then 3
  else if knownSlot h (pos / 2 + 1) == pos % 2 then (if (mget? h.fw.images pos).isSome then 1 else 0)
  else if imageState h pos == 1 then 2 else 0

/-! Updating (R476, R477) -/

/-- R470: an image as the bytes of a block write hold it. -/
def parseImage (bs : List Byte) : Image :=
  let u32 (o : Nat) : Nat := leNat ((bs.drop o).take 4)
  let body := bs.drop 4096
  let digest := leNat ((bs.drop 160).take 48)
  { magicOk := u32 0 == 0x4D495742
    digest := digest
    kind := ((bs[4]?).getD 0).toNat
    version := u32 8
    length := u32 12
    layout := u32 16
    steppings := ((bs.drop 24).take 8).map (·.toNat)
    tested := [0, 1, 2, 3].map (fun k => (List.range 8).map (fun i => u32 (32 + 32 * k + 4 * i)))
    digestOk := body.length == u32 12 && Config.crypto 0x20 body == digest
    signatureOk := Config.crypto 0x21 (bs.take 304) == 1 }

/-- R476: a write of FW_IMAGE: the image is checked, or the programming of the slot starts, which is invalid until it is done. R477: one that
comes after an activation whose restart still waits is discarded by that. (DEDUCED, log 43) -/
def fwImage (h : Hub) (c : Ctx) (im : Image) : Hub :=
  let kind := selN h c Obj.FW_TARGET
  let fault := imageFault kind im
  if h.fw.trial && h.fw.resetWait then h
  else if fault != 0 then setN (setN h Obj.FW_UPDATE_STATUS 3) Obj.FW_UPDATE_DETAIL fault
  else
    let key := imageKey kind (1 - knownSlot h kind)
    let h := setFw h (fun f => { f with writing := some (key, im), images := mset f.images key { im with magicOk := false } })
    send (setN (setN h Obj.FW_UPDATE_STATUS 1) Obj.FW_UPDATE_DETAIL 0) (.flash "program" [key])

/-- R476, step 3: programming ends. (DEDUCED, log 43) -/
def imageProgrammed (h : Hub) (ok : Bool) : Hub :=
  match h.fw.writing with
  | none => h
  | some (key, im) =>
    let h := setFw h (fun f => { f with writing := none, images := if ok then mset f.images key im else f.images })
    setN h Obj.FW_UPDATE_STATUS (if ok then 2 else 4)

/-- R474, R475: the set in use becomes the known-good set, with a new set record. (DEDUCED, log 41) -/
def acceptSet (h : Hub) : Hub :=
  send (setN (setFw h (fun f => { f with known := f.running })) Obj.FW_SET_STATE 0) (.flash "setRecord" h.fw.running)

/-- R476, R474: FW_ACTIVATE: a trial is pending, and the hub restarts as a hub reset does. -/
def fwActivate (h : Hub) : Hub := setFw h (fun f => { f with trial := true, resetWait := true })

/-- R475: FW_PERMIT_UNTESTED. (DEDUCED, log 41) -/
def fwPermit (h : Hub) : Hub := fwLog (setFw h (fun f => { f with permit := true })) 0x3001

/-- R474, R475: FW_TRIAL_TIME has passed in Summer or Autumn with no Winter condition: a trial set is accepted, an untested one never is. -/
def trialTime (h : Hub) : Hub :=
  if getN h Obj.FW_SET_STATE == 1 && getB h Obj.FW_AUTO_ACCEPT && [1, 2].contains (season h) then acceptSet h else h

end Sys2Proof.Machine
end

