-- ==== Sys2Proof/Machine/Spdm.lean ====
section
/-! DEFINITION. SPDM (R435, R436): the responder, over the objects of 0x9006 and over the DOE mailbox of F0, and the application data of its
sessions. The manual names SPDM 1.3 and PCI-SIG's data object types; the messages' codes and layouts are those of DSP0274, DSP0277 and PCI
Express. (PRESUMED, log 56) -/

namespace Sys2Proof.Machine

/-! What the responder tells -/

/-- R435: the certificate chain of a slot. -/
def certificate (h : Hub) (slot : Nat) : Option (List Byte) := if slot == 0 then some Config.certificate else mget? h.keys.certs slot

/-- R435: the slots that hold a chain, as a mask. -/
def certMask (h : Hub) : Nat := sumOf (fun i => if (certificate h i).isSome then 2 ^ i else 0) (List.range 3)

/-- R435: what the stored dictionary in use holds, as bytes: each persistent value with its key. -/
def storedBytes (h : Hub) : List Byte :=
  ((if h.store.slotA.ok && (!h.store.slotB.ok || h.store.slotB.seq ≤ h.store.slotA.seq) then h.store.slotA else h.store.slotB).vals.map
    (fun x => leBytes 8 x.1 ++ x.2.toBytes)).flatten

/-- R435: measurement block 1 to 6: Kindling, the images of kinds 1 to 4 in use, and the stored dictionary. Of Kindling the model has its version
alone, and of an image the digest that its header holds. (DESIGN CHOICE, log 56) -/
def measurement (h : Hub) (i : Nat) : List Byte :=
  if i == 1 then sha384 (leBytes 4 Config.kindlingVersion)
  else if i ≤ 5 then
    match h.fw.running[i - 2]? with
    | some slot => beBytes 48 ((mget? h.fw.images (imageKey (i - 1) slot)).map (·.digest) |>.getD 0)
    | none => List.replicate 48 0
  else sha384 (storedBytes h)

/-- A measurement block as MEASUREMENTS holds it: of the ROM type 0, of firmware 1, of configuration 3. -/
def measurementBlock (h : Hub) (i : Nat) : List Byte :=
  leBytes 1 i ++ [1] ++ leBytes 2 51 ++ leBytes 1 (if i == 1 then 0 else if i ≤ 5 then 1 else 3) ++ leBytes 2 48 ++ measurement h i

/-- R435: CERT, CHAL, MEAS with signatures, KEY_EX, ENCRYPT, MAC, KEY_UPD and HBEAT. -/
def spdmFlags : Nat := 2 ^ 1 + 2 ^ 2 + 2 ^ 4 + 2 ^ 6 + 2 ^ 7 + 2 ^ 9 + 2 ^ 13 + 2 ^ 14

/-- R435: ECDSA P-384 with SHA-384, DHE secp384r1, AEAD AES-256-GCM. -/
def spdmAlgorithms : List Byte :=
  [0x13, 0x63, 4, 0] ++ leBytes 2 52 ++ [1, 2] ++ leBytes 4 4 ++ leBytes 4 0x80 ++ leBytes 4 2 ++ List.replicate 12 0 ++ [0, 0, 0, 0]
    ++ [2, 0x20] ++ leBytes 2 0x10 ++ [3, 0x20] ++ leBytes 2 2 ++ [4, 0x20, 0, 0] ++ [5, 0x20] ++ leBytes 2 1

/-- An ERROR response. -/
def spdmError (code : Nat) : List Byte := [0x13, 0x7F] ++ leBytes 1 code ++ [0]

/-- Bytes of a response that the manual leaves to the standard and to secrets: a free value. (DESIGN CHOICE, log 10) -/
def spdmFree (h : Hub) (msg : List Byte) (n : Nat) : List Byte := (Config.spdm h.fresh msg).take n

/-- R435: a response is signed by the identity key over a digest of the request and of what the response says. -/
def spdmSigned (h : Hub) (msg body : List Byte) : List Byte × Hub :=
  let (sig, h) := ecdsa h 5 (identityKey h) (sha384 (msg ++ body))
  (body ++ sig, h)

/-- R435: MEASUREMENTS: of operation 0 the number of blocks, of 0xFF every block, of another the one it names. -/
def measurements (h : Hub) (msg : List Byte) : List Byte × Hub :=
  let op := leNat ((msg.drop 3).take 1)
  let blocks := if op == 0 then [] else if op == 0xFF then (List.range 6).map (· + 1) else if op ≤ 6 then [op] else []
  let record := (blocks.map (measurementBlock h)).flatten
  if op != 0 && blocks.isEmpty then (spdmError 1, h)
  else
    let (nonce, h) := drbg h 32
    let body := [0x13, 0x60] ++ leBytes 1 (if op == 0 then 6 else 0) ++ [0] ++ leBytes 1 blocks.length ++ leBytes 3 record.length ++ record
      ++ nonce ++ [0, 0]
    if bitOf (leNat ((msg.drop 2).take 1)) 0 then spdmSigned h msg body else (body, h)

/-- R435: CERTIFICATE: the part of a slot's chain that the request asks for. -/
def certificatePart (h : Hub) (msg : List Byte) : List Byte :=
  let slot := leNat ((msg.drop 2).take 1) % 16
  let from_ := leNat ((msg.drop 4).take 2)
  match certificate h slot with
  | none => spdmError 1
  | some c =>
    let part := (c.drop from_).take (min (leNat ((msg.drop 6).take 2)) 4000)
    if c.length < from_ then spdmError 1
    else [0x13, 0x02] ++ leBytes 1 slot ++ [0] ++ leBytes 2 part.length ++ leBytes 2 (c.length - from_ - part.length) ++ part

/-- R436: the VENDOR_DEFINED_REQUEST of vendor 0x4257 under PCI-SIG's registry: its payload names a slot and brings the nonce, for which the manual
gives no layout. (DESIGN CHOICE, log 56) -/
def vendorResponse (h : Hub) (msg : List Byte) : List Byte × Hub :=
  let payload := msg.drop 11
  let slot := leNat (payload.take 1)
  if (msg.drop 4).take 5 != leBytes 2 3 ++ [2] ++ leBytes 2 0x4257 then (spdmError 7, h)
  else if 64 ≤ slot || payload.length != 33 || (keySlot h slot).alg == 0 then (spdmError 1, h)
  else
    let (bs, h) := statement h slot (payload.drop 1)
    ([0x13, 0x7E, 0, 0] ++ leBytes 2 3 ++ [2] ++ leBytes 2 0x4257 ++ leBytes 2 bs.length ++ bs, h)

/-! Requests -/

/-- R435, R427: KEY_EXCHANGE opens the session of a carrier; without one the response is an ERROR, whose code R427 names and does not give a number: a
free value. -/
def keyExchange (h : Hub) (c : Nat) (doe : Bool) (msg : List Byte) : List Byte × Hub :=
  let own := Config.freeNat h.fresh % 65536
  let id := leNat ((msg.drop 4).take 2) + own * 65536
  let h := openSession (tick (closeSession h c)) c id doe
  if (mget? h.keys.sessions c).isNone then ([0x13, 0x7F] ++ (spdmFree h msg 1 ++ [0]).take 1 ++ [0], tick h)
  else
    let (r, h) := drbg h 32
    let body := [0x13, 0x64, 0, 0] ++ leBytes 2 own ++ [0, 0] ++ r ++ spdmFree h msg 96 ++ [0, 0]
    spdmSigned (tick h) msg body

/-- R435: both traffic keys of a session follow their last ones. -/
def updateKeys (h : Hub) (c : Nat) : Hub :=
  match mget? h.keys.sessions c with
  | some x => forEach x.slots h (fun h s => putSlot h s { keySlot h s with key := nextKey (keySlot h s).key })
  | none => h

/-- R435, R411: a request to the responder, on a carrier, and its response. -/
def spdmAnswer (h : Hub) (c : Nat) (doe : Bool) (msg : List Byte) : List Byte × Hub :=
  let p1 := (msg.drop 2).take 1
  let open_ := (mget? h.keys.sessions c).isSome
  if msg.length < 4 then (spdmError 1, h)
  else match leNat ((msg.drop 1).take 1) with
    | 0x84 => ([0x10, 0x04, 0, 0, 0, 1, 0, 0x13], h)
    | 0xE1 => ([0x13, 0x61, 0, 0, 0, 0, 0, 0] ++ leBytes 4 spdmFlags ++ leBytes 4 4096 ++ leBytes 4 4096, h)
    | 0xE3 => (spdmAlgorithms, h)
    | 0x81 => ([0x13, 0x01, 0] ++ leBytes 1 (certMask h) ++ (((List.range 3).filterMap (certificate h)).map sha384).flatten, h)
    | 0x82 => (certificatePart h msg, h)
    | 0x83 =>
      match certificate h (leNat p1 % 16) with
      | none => (spdmError 1, h)
      | some chain =>
        let (nonce, h) := drbg h 32
        let all := ((List.range 6).map (fun i => measurementBlock h (i + 1))).flatten
        spdmSigned h msg ([0x13, 0x03] ++ p1 ++ leBytes 1 (certMask h) ++ sha384 chain ++ nonce
          ++ (if (msg.drop 3).take 1 == [0xFF] then sha384 all else []) ++ [0, 0])
    | 0xE0 => measurements h msg
    | 0xE4 => keyExchange h c doe msg
    | 0xE5 => (if open_ then [0x13, 0x65, 0, 0] ++ spdmFree h msg 48 else spdmError 4, tick h)
    | 0xE8 => (if open_ then [0x13, 0x68, 0, 0] else spdmError 4, h)
    | 0xE9 => if open_ then ([0x13, 0x69] ++ (msg.drop 2).take 2, updateKeys h c) else (spdmError 4, h)
    | 0xEC => if open_ then ([0x13, 0x6C, 0, 0], closeSession h c) else (spdmError 4, h)
    | 0xEE =>
      let slot := leNat p1 % 16
      if slot == 1 || slot == 2 then ([0x13, 0x6E] ++ leBytes 1 slot ++ [0], setKeys h (fun k => { k with certs := mset k.certs slot (msg.drop 4) }))
      else (spdmError 1, h)
    | 0xFE => vendorResponse h msg
    | _ => (spdmError 7, h)

/-! Application data (R435, R87) -/

/-- DSP0277: a secured message: the session's number, the length of what follows, ciphertext and tag. -/
def securedMessage (key : List Byte) (id n : Nat) (text : List Byte) : List Byte :=
  let head := leBytes 4 id ++ leBytes 2 (text.length + 16)
  let (c, tag) := gcmSeal key (leBytes 12 n) head text
  head ++ c ++ tag

/-- The key of a session's direction, 0 requests and 1 responses. -/
def sessionKey (h : Hub) (x : SpdmSession) (dir : Nat) : List Byte := ((x.slots[dir]?).map (fun s => (keySlot h s).key)).getD []

/-- DSP0277: the application data of a secured message: none if it is not of the session, or its tag fails. -/
def openSecured (h : Hub) (x : SpdmSession) (msg : List Byte) : Option (List Byte) :=
  let head := msg.take 6
  let c := (msg.drop 6).take (msg.length - 22)
  let key := sessionKey h x 0
  let nonce := leBytes 12 x.taken
  if 24 ≤ msg.length && leNat (msg.take 4) == x.id && leNat ((msg.drop 4).take 2) + 6 == msg.length
    && msg.drop (msg.length - 16) == beBytes 16 (Config.gcmTag key nonce head c) then
    let text := xorBytes c ((List.range c.length).map (Config.gcmStream key nonce))
    some ((text.drop 2).take (leNat (text.take 2)))
  else none

/-- R435: what comes in a session is taken as a PDU on the session's carrier; a message that does not open is answered with DecryptError. -/
def takeSecured (h : Hub) (c : Ctx) (msg : List Byte) : Option (List Byte) × Hub :=
  match mget? h.keys.sessions (ctxNo c) with
  | none => (some (spdmError 6), h)
  | some x => match openSecured h x msg with
    | none => (some (spdmError 6), h)
    | some bs => (none, later (setKeys h (fun k => { k with sessions := mset k.sessions (ctxNo c) { x with taken := x.taken + 1 } })) (.sessionPdu c bs))

/-- R435: a write of SPDM_REQUEST: a message that names the session's number is one of its secured messages, any other a request. -/
def spdmRequest (h : Hub) (c : Ctx) (msg : List Byte) : Hub :=
  let mine := (mget? h.keys.sessions (ctxNo c)).any (fun x => !x.doe && 24 ≤ msg.length && x.id == leNat (msg.take 4))
  let (r, h) := if mine then takeSecured h c msg
    else let (r, h) := spdmAnswer h (ctxNo c) false msg; (some r, h)
  match r with
  | some bs => setSel h c Obj.SPDM_RESPONSE (.bytes (bs.take 4096))
  | none => setSel h c Obj.SPDM_RESPONSE (.bytes [])

/-! The DOE mailbox of F0 -/

/-- The words of a byte string. -/
def toWords (bs : List Byte) : List Nat := (List.range (ceilDiv bs.length 4)).map (fun i => leNat ((bs.drop (4 * i)).take 4))

/-- PCI Express: a data object of PCI-SIG's: its type and length in words, then its bytes. -/
def doeObject (type : Nat) (bs : List Byte) : List Nat := [1 + type * 65536, 2 + ceilDiv bs.length 4] ++ toWords bs

/-- R435: the data object that the host has written is taken: discovery (0), SPDM (1) or secured SPDM (2); any other, and one whose length is
wrong, is an error of the mailbox. The session is that of BAR 2's carrier, which is F0's. (DESIGN CHOICE, log 56) -/
def doeGo (h : Hub) : Hub :=
  let l := h.pcie.doeIn
  let h := setPcie h (fun p => { p with doeIn := [] })
  let reply (h : Hub) (type : Nat) (bs : List Byte) : Hub := setPcie h (fun p => { p with doeOut := p.doeOut ++ doeObject type bs })
  let bytes := ((l.drop 2).map (leBytes 4)).flatten
  let type := nth l 0 0 / 65536 % 256
  if l.length < 2 || nth l 0 0 % 65536 != 1 || nth l 1 0 != l.length || 2 < type || tampered h then setPcie h (fun p => { p with doeError := true })
  else if type == 0 then
    let i := nth l 2 0 % 256
    reply h 0 (leBytes 4 (1 + min i 2 * 65536 + (if i < 2 then i + 1 else 0) * 2 ^ 24))
  else if type == 1 then let (r, h) := spdmAnswer h (ctxNo .bar2) true bytes; reply h 1 r
  else
    -- the length of a secured message says where it ends
    match takeSecured h .bar2 (bytes.take (6 + leNat ((bytes.drop 4).take 2))) with
    | (some r, h) => reply h 1 r
    | (none, h) => h

/-- PCI Express: a write of a DOE register: abort, go, the write mailbox, and the read mailbox, which takes the next word. -/
def doeWrite (h : Hub) (reg v : Nat) : Hub :=
  if reg == 0x168 then
    let h := if bitOf v 0 then setPcie h (fun p => { p with doeIn := [], doeOut := [], doeError := false }) else h
    if bitOf v 31 then doeGo h else h
  else if reg == 0x170 then setPcie h (fun p => { p with doeIn := p.doeIn ++ [v] })
  else if reg == 0x174 then setPcie h (fun p => { p with doeOut := p.doeOut.drop 1 })
  else h

/-- PCI Express: DOE status and the read mailbox. -/
def doeRead (h : Hub) (reg : Nat) : Option Nat :=
  if reg == 0x16C then some ((if h.pcie.doeError then 4 else 0) + (if h.pcie.doeOut.isEmpty then 0 else 2 ^ 31))
  else if reg == 0x174 then some (nth h.pcie.doeOut 0 0)
  else none

/-- R435: a PDU of the hub's in a session: application data of a secured message, by the way the session came. -/
def sealPdu (h : Hub) (c : Ctx) (p : Pdu) : Hub :=
  match mget? h.keys.sessions (ctxNo c) with
  | none => h
  | some x =>
    let bs := pduWire p
    let msg := securedMessage (sessionKey h x 1) x.id x.sent (leBytes 2 bs.length ++ bs)
    let h := setKeys (countTx h p) (fun k => { k with sessions := mset k.sessions (ctxNo c) { x with sent := x.sent + 1 } })
    if x.doe then setPcie h (fun p => { p with doeOut := p.doeOut ++ doeObject 2 msg })
    else setSel h c Obj.SPDM_RESPONSE (.bytes (selBytes h c Obj.SPDM_RESPONSE ++ msg))

end Sys2Proof.Machine
end

