-- ==== Sys2Proof/Machine/Startup.lean ====
section
/-! DEFINITION. Resets and start-up (R467-R481): what each reset keeps, restoring the stored dictionary (R49, R478, R488), and the
steps of Table 26.1 that a reset's command carries out; rails, wakes and links that follow are commands of their own. -/

namespace Sys2Proof.Machine

/-- R479: the sources of a reset that restarts the supervisor core, by RESET_CAUSE. -/
inductive Cause where
  | powerOn | resetN | watchdog | hubReset | retention
deriving DecidableEq, Repr, Inhabited

def Cause.code : Cause → Nat
  | .powerOn => 1
  | .resetN => 2
  | .watchdog => 3
  | .hubReset => 4
  | .retention => 5

/-- R479: a reset that leaves PW60 and PW63 as they are. -/
def Cause.warm (c : Cause) : Bool := c == .watchdog || c == .hubReset || c == .retention

/-! Stored values (R46, R49, R51) -/

/-- R46, R49: a persistent object. -/
def persistent (k : Nat) : Bool :=
  match rowAt (keyIdx k) (keySub k) with
  | some r => r.pers && (r.acc == .rw || r.acc == .rwi)
  | none => false

/-- R51: the snapshot of all persistent objects; one that is not listed holds its default. -/
def snapshotVals (h : Hub) : SMap Val := h.dict.filter (fun x => persistent x.1)

/-- R51-R53: a record is written: of the snapshot, or of no values. -/
def storeStart (h : Hub) (vals : SMap Val) : Hub :=
  let r : StoreRecord := { vals := vals, mapout := h.store.mapout }
  send (setN { h with store := { h.store with snapshot := some r } } Obj.STORE_STATUS 1) (.flash "store" [])

/-- R52: the record under way is verified, or fails. -/
def storeDone (h : Hub) (ok : Bool) : Hub :=
  match h.store.snapshot with
  | none => h
  | some r =>
    let s := { h.store with snapshot := none }
    if ok then setN { h with store := s.put r.vals h.store.mapout } Obj.STORE_STATUS 2
    else setFlag (setN { h with store := s } Obj.STORE_STATUS 3) Obj.STORE_FAILED

/-! Restoring (R49, R478, R488) -/

/-- R49, R488: one stored value on a hub that holds it: its range, and what its window's COMMIT would refuse. (DEDUCED, log 21) -/
def loadRefuses (m : List Host.Cell) (h h' : Hub) (k : Nat) (v : Val) : Bool :=
  let i := keyIdx k
  match rowAt i (keySub k) with
  | none => true
  | some r =>
    (fullRange h' i (keySub k) (keyPos k) r v).isSome || (r.staged && (commitEntry m h h' i (keyPos k)).1.isSome)

/-- R49, R488: a stored value is loaded if it passes with the whole stored set, or on top of what has been loaded; else it is
skipped, with a health event unless the object is absent. (DEDUCED, log 21) -/
def loadOne (m : List Host.Cell) (all : Hub) (h : Hub) (x : Nat × Val) : Hub :=
  let i := keyIdx x.1
  if (absentCheck h.part i (keySub x.1)).isSome then h
  else if !persistent x.1 then healthEvent h i (keySub x.1)
  else
    let h' := setV h x.1 x.2
    if !loadRefuses m { all with dict := merase all.dict x.1 } all x.1 x.2 || !loadRefuses m h h' x.1 x.2 then h'
    else healthEvent h i (keySub x.1)

/-- R478: the stored set is loaded. -/
def loadVals (m : List Host.Cell) (h : Hub) (vals : SMap Val) : Hub :=
  let all := forEach vals h (fun h x => if persistent x.1 then setV h x.1 x.2 else h)
  forEach vals h (loadOne m all)

/-- R478, R468, R464: the stored dictionary, unless the boot mode leaves it out, and the mapped-out set. (DEDUCED, log 21) -/
def restoreStored (m : List Host.Cell) (h : Hub) : Hub :=
  match h.store.inForce with
  | none => fwLog h 0x3005
  | some r =>
    let h := if h.straps.bootMode == 1 then h else loadVals m h r.vals
    forEach r.mapout h (fun h u => leaveService h u true)

/-! What a reset keeps (R479) -/

/-- R439, R466, R482, R391, R479: the objects that a reset does not return to their defaults: the tamper latch; with PW60 and
PW63 left alone also the health log, their counts, the rails and the PD ports' contracts and budget. -/
def keepsObject (c : Cause) (k : Nat) : Bool :=
  let i := keyIdx k
  let l := locate i
  (i == 0x9800 && k != Obj.TP_ENABLE)
  || (c.warm && (i == 0x1204 || i == 0x1205 || k == Obj.WATCHDOG_RESETS || k == Obj.BOOT_COUNT || k == Obj.RAIL_STATE 0
    || (l.fam == .pd && (match rowAt i (keySub k) with
      | some r => r.acc == .ro && r.kind == .plain
      | none => false))))

/-- R479, R467: the domains after a reset: PW57 and PW63 On, PW60 as it was where it is not reset. -/
def domainsAfter (h : Hub) (c : Cause) : SMap Domain :=
  let d := mset (mset [] 57 { st := 1 }) 63 { st := 1 }
  if c.warm then mset d 60 (domain h 60) else d

/-- R479: the hub with everything that a reset resets at its reset value: flash, fuses, what the pins show and what it has
sent stay. (DEDUCED, log 21) -/
def resetHub (h : Hub) (c : Cause) (straps : Straps) : Hub := {
  part := h.part
  straps := { straps with tamper := [] }
  now := if c == .powerOn then 0 else h.now
  bootedAt := if c == .powerOn then 0 else h.now
  fresh := h.fresh
  dict := h.dict.filter (fun x => keepsObject c x.1)
  store := { h.store with snapshot := none }
  grate := State.reset.hub.grate
  domains := domainsAfter h c
  keys := h.keys
  tampers := if c == .powerOn then straps.tamper else h.tampers
  pd := if c.warm then h.pd
    else if c == .resetN then { adapterOk := h.pd.adapterOk, supply := if h.pd.adapterOk then .fed else .holdUp }
    else {}
  health := if c.warm then let l := h.health.reports.filter (fun r => r.1 == 0x2801); { reports := l, kept := l.length } else {}
  fw := { images := h.fw.images, known := h.fw.known, trial := h.fw.trial && c.warm, permit := h.fw.permit && c.warm }
  out := h.out }

/-! The steps of Table 26.1 -/

/-- R71, R86, R90: the node number and the CAN rates, taken at a reset of the supervisor core. -/
def setNode (h : Hub) : Hub :=
  let h := { h with jdp := { h.jdp with canRates := (getN h Obj.CAN_NOMINAL_RATE, getN h Obj.CAN_DATA_RATE) } }
  let o := getN h Obj.NODE_ID_OVERRIDE
  let n := if o != 0 then o else h.straps.nodeId
  if n == 0 || n == 0x7F then healthEvent (setN { h with jdp := { h.jdp with node := 0 } } Obj.NODE_ID_ACTIVE 0) 0x1100 0x01
  else setN { h with jdp := { h.jdp with node := n } } Obj.NODE_ID_ACTIVE n

/-- R467, step 5: a domain that start-up wakes; no cause of R388 brought the wake. (DEDUCED, log 22) -/
def startWake (h : Hub) (d : Nat) : Hub :=
  if !domPresent h.part d || (domain h d).st != 3 then h
  else
    let h := wakeDomain h d .request
    { h with domains := h.domains.map (fun x => if x.2.st == 5 then (x.1, { x.2 with cause := 0 }) else x) }

/-- R467: the domains of the C-die, of the seam's clients that start-up uses, and those that never are Off. (DEDUCED, log 22) -/
def startDomains : List Nat := List.range 50 ++ [58, 59, 60]

/-- R338, R355: a port whose stored PD_ENABLE is 0 detaches. -/
def disabledDetach (h : Hub) : Hub := forEach (List.range 4) h (fun h p => if getB h (Obj.PD_ENABLE p) then h else pdDetach h p)

/-- R467, steps 3 to 7, with the images running. (DEDUCED, log 22) -/
def runImages (m : List Host.Cell) (h : Hub) (c : Cause) (mins : List Nat) : Hub :=
  let h := setNode (guardsStart (restoreStored m h))
  let h := { h with jdp := { h.jdp with reachable := true } }
  let h := keysRestart (if c == .powerOn then keysPowerOn h else h)
  let h := budgetRestored (disabledDetach (bellowsStart h)) mins
  let h := forEach startDomains h startWake
  let h := if tampered h then healthReport h 0x1801 tamperUnit else h
  let h := if c == .watchdog then healthReport h 0x2801 supervisorUnit else h
  leaveSpring h

/-- R473: recovery hold: Kindling serves the dictionary, and the season stays Spring. (DEDUCED, log 22) -/
def holdStart (h : Hub) (c : Cause) (mins : List Nat) : Hub :=
  let h := setNode (setN h Obj.FW_HOLD_REASON (if h.straps.bootMode == 3 then 2 else 1))
  let h := budgetRestored { h with jdp := { h.jdp with reachable := true } } mins
  let h := if c == .watchdog then healthReport h 0x2801 supervisorUnit else h
  keysExpire (if c == .powerOn then keysPowerOn h else h)

/-- R467, R468, R473, R474: start-up after a reset. A trial set that was in use and not accepted leaves its entry. (DEDUCED, log 22) -/
def startup (m : List Host.Cell) (h : Hub) (c : Cause) (straps : Straps) : Hub :=
  let onTrial := getN h Obj.FW_SET_STATE == 1 || getN h Obj.FW_SET_STATE == 2
  let mins := (List.range 4).map (fun p => if c.warm then pbMin h p else 0)
  let h := resetHub h c straps
  let h := setN (setN h Obj.RESET_CAUSE c.code) Obj.BOOT_MODE_LATCHED straps.bootMode
  let h := bump h Obj.BOOT_COUNT
  let h := if c == .watchdog then bump h Obj.WATCHDOG_RESETS else h
  let ch := chooseSet h
  let h := setFw (setN h Obj.FW_SET_STATE ch.state) (fun f => { f with running := ch.slots, trial := false, permit := f.permit && !ch.used })
  let h := forEach ((if onTrial then [0x3004] else []) ++ ch.entries) h fwLog
  if ch.state == 3 then holdStart h c mins
  else runImages m (setVersions h ((setImages h ch.slots).getD [])) c mins

/-! The resets -/

/-- R467: VDD_AON rises: a power-on reset. (DEDUCED, log 23) -/
def powerOn (m : List Host.Cell) (h : Hub) (straps : Straps) : Hub := startup m h .powerOn straps

/-- R496: a low level on RESET_N. The PD contracts end, with VBUS removed. One at the moment of the power-on overlaps the power-on reset,
which is ordered first and gives the cause. (DESIGN CHOICE, log 8) -/
def resetN (m : List Host.Cell) (h : Hub) (straps : Straps) (width : Nat) : Hub :=
  let go (h : Hub) : Hub := if h.now == 0 then startup m h .powerOn straps else startup m (forEach [0, 1, 2, 3] (driveSnk (stopSources h [0, 1, 2, 3]) false) (fun h p => dropPort h p false)) .resetN straps
  if width < 500 then h
  else if width ≥ 1000 then go h
  else
    let n := h.fresh
    if Config.freeNat n % 2 == 1 then go (tick h) else tick h

/-- R480: WD_TIMEOUT expires. -/
def watchdog (m : List Host.Cell) (h : Hub) : Hub := startup m h .watchdog h.straps

/-- R481: a hub reset that has been asked for, once no flash operation is under way. -/
def pendingReset (m : List Host.Cell) (h : Hub) : Hub :=
  if h.fw.resetWait && getN h Obj.STORE_STATUS != 1 && getN h Obj.FW_UPDATE_STATUS != 1 then
    startup m h .hubReset h.straps
  else h

/-- R407, R467: the hub loses its power: everything but the flash is lost at the next power-on, and nothing runs until then. (DEDUCED, log 23) -/
def powerLoss (h : Hub) : Hub :=
  { setFw (dropToken h) (fun f => { f with powered := false }) with domains := [] }

end Sys2Proof.Machine
end

