-- ==== Sys2Proof/Machine/Write.lean ====
section
/-! DEFINITION. What an accepted dictionary write does: staging and COMMIT (R56), selectors (R57), the effect of each command
and setting as its chapter states it, held writes (R47), and mirroring to the twin (R412, R413). -/

namespace Sys2Proof.Machine

/-- R41-R44: how an access is answered, and the hub after it. -/
abbrev Result := Answer × Hub

def ofExcept (h : Hub) : Except Abort Hub → Result
  | .ok h' => (.done, h')
  | .error a => (.abort a, h)

def ofOption (r : Option Abort × Hub) : Result :=
  match r.1 with
  | some a => (.abort a, r.2)
  | none => (.done, r.2)

/-- R68: an access that has been accepted. -/
def Answer.accepted : Answer → Bool
  | .abort a => a.cls == 0x08 && a != .storeBusy
  | _ => true

/-! Snapshots that a position write latches (R203, R250) -/

/-- R203: writing PA_POS latches PA_PARTNER, PA_OWED, PA_HELD and PA_OUT_GRANT. -/
def latchPath (h : Hub) (c : Ctx) (k pos : Nat) : Hub :=
  let v : List Nat := match mget? h.usb4.paths (pathKey k pos) with
    | some x => [x.partner, pathOwed h (pathKey k pos) x, pathHeld h (pathKey k pos), x.grant]
    | none => [0, 0, 0, 0]
  forEach [0, 1, 2, 3] h (fun h j => setSel h c (Obj.PA_PARTNER k + j) (.int ((nth v j 0 : Nat) : Int)))

/-- R250: writing CR_POS latches CR_PARTNER, CR_OWED and CR_HELD; position 6 * port + type. -/
def latchCredit (h : Hub) (c : Ctx) (pos : Nat) : Hub :=
  let p := pos / 6
  let t := pos % 6
  let v : List Nat := [crPartner h p t, crOwed h p t, crHeld h p t]
  forEach [0, 1, 2] h (fun h j => setSel h c (Obj.CR_PARTNER + j) (.int ((nth v j 0 : Nat) : Int)))

/-- R57: a write of a position or another selector. -/
def writeSelector (h : Hub) (c : Ctx) (i s : Nat) (v : Val) : Hub :=
  let k := i * 256 + s
  let l := locate i
  let n := v.toInt.toNat
  let h := if s == 1 then movePosition h c i k v else setSel h c k v
  if l.fam == .usb4 && l.off == 4 && s == 1 then latchPath h c l.inst n
  else if k == Obj.CR_POS then latchCredit h c n
  else h

/-! Commands and settings with an effect beyond their own value -/

/-- R314, R311: a write of OUT_ENABLE: a disabled output has no link, an enabled one with a sink trains. (PRESUMED, log 33) -/
def writeOutEnable (h : Hub) (o v : Nat) : Hub :=
  let h := setN h (Obj.OUT_ENABLE o) v
  if v == 0 then
    let h := setOutputs (unplaceAll h o) (fun x => { x with training := x.training.filter (· != o) })
    tellHost (fitOutput (setOutLink h o 0 0) o) o
  else if getB h (Obj.SINK_PRESENT o) && getN h (Obj.LINK_RATE o) == 0 then
    startTraining h o
  else h

/-- R361: while RX_CTLE_MODE is 1 the code stays at RX_CTLE; adaptation goes on from there. -/
def writeCtleMode (h : Hub) (l v : Nat) : Hub :=
  let h := if v == 0 && getN h (Obj.RX_CTLE_MODE l) == 1 then updLane h l (fun x => { x with code := getN h (Obj.RX_CTLE l), code2 := getN h (Obj.RX_CTLE l) }) else h
  setN h (Obj.RX_CTLE_MODE l) v

/-- R359: a write of TX_FFE_MODE: back in mode 0 a lane keeps its set until link training asks for another. (DEDUCED, log 29) -/
def writeFfeMode (h : Hub) (l v : Nat) : Hub :=
  let h := if v == 0 && getN h (Obj.TX_FFE_MODE l) == 1 then updLane h l (fun x => { x with goal := x.ffe }) else h
  setN h (Obj.TX_FFE_MODE l) v

/-- R366, R370: a write of LN_ENABLE; the link that runs over a lane responds to its removal as to a loss of lock. -/
def writeLane (h : Hub) (l v : Nat) : Hub :=
  let used := (lane h l).locked
  let h := writeLnEnable h l v
  if v == 0 && used then laneGone h l else h

/-- R83: a write of MANAGER_NODE: the heartbeats of another node are watched from now on. -/
def writeManager (h : Hub) (n : Nat) : Hub :=
  let was := getN h Obj.MANAGER_NODE
  let h := setN h Obj.MANAGER_NODE n
  if n == was then h else { h with jdp := { h.jdp with managerSeen := true } }

/-- R230, R418: a write of TIME_PRIORITY; the standby of a pair goes on following the active. -/
def writeTimePriority (h : Hub) (v : Nat) : Hub :=
  let h := setN h Obj.TIME_PRIORITY v
  selectSource h

/-- R410: a write of TW_ENABLE. R424: a hub without the token is standby from now on. -/
def writeTwinEnable (h : Hub) (v : Nat) : Hub :=
  let h := setN h Obj.TW_ENABLE v
  if v == 0 then twinDisabled h else tryPair (dropSwitched h)

/-- R410, R423: TW_COMMAND. -/
def twinCommand (h : Hub) (v : Nat) : Result :=
  match v with
  | 1 => (.done, pairCommand h)
  | 2 => (.done, unpairCommand h)
  | _ => ofExcept h (plannedEquinox h)

/-- R106: a write to AUDIT_START. -/
def auditStart (h : Hub) : Result :=
  if getN h Obj.AUDIT_STATUS == 1 then (.abort .pending, h) else (.done, setN h Obj.AUDIT_STATUS 1)

/-- R51-R53: a write to STORE or RESTORE_DEFAULTS. -/
def storeCommand (h : Hub) (vals : SMap Val) : Result :=
  if getN h Obj.STORE_STATUS == 1 then (.abort .storeBusy, h) else (.done, storeStart h vals)

/-- R430, R433: a write to KC_OP. -/
def writeKeyOp (h : Hub) (src : Src) (op : Nat) : Result := keyCommand h src op

/-- R340: a write of PB_MIN, PB_SUPPLY or PB_RESERVE. -/
def writeBudget (h : Hub) (k n : Nat) : Result :=
  match pbWrite h (canonKey k) n with
  | .error a => (.abort a, h)
  | .ok (true, h') => (.abort .pending, h')
  | .ok (false, h') => (.done, h')

/-- R338, R341: a write of a setting that moves what ports may be given. -/
def writeBudgetSetting (h : Hub) (k n : Nat) : Hub := settleBudget h (setN h k n)

/-- R212: a write of AP_UTIL or AP_LIMIT. -/
def writeAllotment (h : Hub) (k pos n : Nat) : Hub :=
  let was := allotted h (bondBase pos)
  passIfFell (setN h (at_ pos k) n) (bondBase pos) was

/-- R131: a write of PORT_ENABLE. -/
def writePortEnable (h : Hub) (n v : Nat) : Hub :=
  let was := portBlocked h n
  portFollow (setN h (Obj.PORT_ENABLE n) v) n was

/-- R448, R449: a write of G_COMMIT. -/
def writeGuardCommit (h : Hub) (g v : Nat) : Result := if v == 1 then ofOption (commitShadow h g) else (.done, commitCopy h g)

/-- R42, R388, R395: a write of DM_REQUEST. -/
def domainRequest (h : Hub) (d v : Nat) : Result := if v == 1 then ofExcept h (requestSleep h d) else (.done, wakeDomain h d .request)

/-- Global objects whose write does more than set their value, with `set` the plain write. R211: AP_ENABLE or AL_ENABLE set to 1 over rates
that the port's allotted rate does not cover runs no pass before the next periodic one, for which the manual names none, and a
COMMIT that raises fixed_v above SV_CIR does not either. (DESIGN CHOICE, log 29) -/
def globEffect (h : Hub) (src : Src) (k pos : Nat) (v : Val) (set : Hub) : Result :=
  let n := v.toInt.toNat
  if k == Obj.STORE then storeCommand h (snapshotVals h)
  else if k == Obj.RESTORE_DEFAULTS then storeCommand h []
  else if k == Obj.UNIT_QUARANTINE then (.done, leaveService h n false)
  else if k == Obj.MAPOUT_CLEAR then (.done, setMapoutSet h [])
  else if k == Obj.TIME_PRIORITY then (.done, writeTimePriority h n)
  else if k == Obj.USB3_HUB_ENABLE then (.done, writeUsb3Enable h n)
  else if k == Obj.PORT_DISABLE then (.done, writePortDisable h n)
  else if k == Obj.MANAGER_NODE then (.done, writeManager h n)
  else if k == Obj.GPTP_MACS then (.done, writeGptpMacs h n)
  else if k == Obj.AUDIT_START then auditStart h
  else if k == Obj.CONFIG_CHANGE then ofExcept h (configChange h pos)
  else if k == Obj.RETRY_POOL then (.done, setV (freeRetry h) k v)
  else if k == Obj.AP_UTIL || k == Obj.AP_LIMIT then (.done, writeAllotment h k pos n)
  else if k == Obj.BW_ENABLE then (.done, writeBwEnable h n)
  else if k == Obj.TW_ENABLE then (.done, writeTwinEnable h n)
  else if k == Obj.TW_SWITCHED then (.done, dropSwitched (setN h Obj.TW_SWITCHED n))
  else if k == Obj.TW_LOCKSTEP_ALLOW then (.done, lockstepCheck set)
  else if k == Obj.TW_COMMAND then twinCommand h n
  else if k == Obj.KC_OP then writeKeyOp h src n
  else if k == Obj.TP_ENABLE then (.done, writeTamperEnable h n)
  else if k == Obj.SPDM_REQUEST then (.done, spdmRequest h src.ctx v.toBytes)
  else if k == Obj.HUB_RESET then (.done, setFw h (fun f => { f with resetWait := true }))
  else if k == Obj.FW_ACTIVATE then (.done, fwActivate h)
  else if k == Obj.FW_ACCEPT then (.done, acceptSet h)
  else if k == Obj.FW_PERMIT_UNTESTED then (.done, fwPermit h)
  else if k == Obj.FW_IMAGE then (.abort .pending, fwImage h src.ctx (parseImage v.toBytes))
  else (.done, set)

/-- The same of a lane's objects. -/
def laneEffect (h : Hub) (l off s n : Nat) (set : Hub) : Hub :=
  if off == 0 && s == 2 then writeLane h l n
  else if off == 2 && s == 2 then writeCtleMode h l n
  else if off == 4 && s == 1 then writeLoop h l n
  else if off == 4 && s == 2 then writePrbsTx h l n
  else if off == 1 && s == 1 then writeFfeMode h l n
  else if off == 4 && s == 3 then writePrbsRx h l n
  else if off == 4 && s == 4 then prbsInject h l
  else set

/-- The same of a head's. -/
def headEffect (m : List Host.Cell) (h : Hub) (hd off s n : Nat) (set : Hub) : Result :=
  if off == 0 && s == 1 then ofExcept h (writeEnable m h hd n)
  else if off == 0 && s == 2 then (.done, writeTiming m h hd n)
  else if off == 0 && s == 4 then (.done, fitHead set hd)
  else if off == 0 && s == 9 then (.done, present h hd)
  else (.done, set)

/-- The same of a PD port's. -/
def pdEffect (h : Hub) (k p off s n : Nat) (set : Hub) : Result :=
  if off == 0 && s == 1 then (.done, writePdEnable h p n)
  else if (off == 1 && s == 1) || (off == 0x3F && (s == 1 || s == 2)) then writeBudget h k n
  else if off == 1 && (s == 2 || s == 3) then (.done, writeBudgetSetting h k n)
  else (.done, set)

/-- An object's write, with the window position it acts on. -/
def objectEffect (m : List Host.Cell) (h : Hub) (src : Src) (i s pos : Nat) (v : Val) : Result :=
  let k := i * 256 + s
  let n := v.toInt.toNat
  let set := setV h (at_ pos k) v
  let l := locate i
  match l.fam with
  | .gp => (.done, if l.off == 0 && s == 2 then writePortEnable h l.inst n else set)
  | .mac => (.done, if l.off == 0 && s == 1 then macSetMode h l.inst n else set)
  | .head => headEffect m h l.inst l.off s n set
  | .layer => if l.off == 0 && s == 2 then ofExcept h (writeSurface h (l.inst / 4) (l.inst % 4) n) else (.done, set)
  | .outp => (.done, if l.off == 0 && s == 1 then writeOutEnable h l.inst n else set)
  | .pd => pdEffect h k l.inst l.off s n set
  | .lane => (.done, laneEffect h l.inst l.off s n set)
  | .dom => if l.off == 0 && s == 7 then domainRequest h l.inst n else (.done, set)
  | .guard => if l.off == 0 && s == 4 then writeGuardCommit h l.inst n else (.done, set)
  | .glob => globEffect h src k pos v set
  | _ => (.done, set)

/-! Held writes and units (R47, R29, R479) -/

/-- R47: a held write takes effect, unless a check that depends on other objects refuses it now, or another owner of the object is
still out of service, for which it is held on. (DEDUCED, log 18) -/
def applyHeldOne (m : List Host.Cell) (u : Nat) (h : Hub) (x : HeldWrite) : Hub :=
  let i := keyIdx x.key
  let s := keySub x.key
  match rowAt i s, (unitsOfKey (at_ x.pos x.key)).find? (fun w => w != u && outOfService h w) with
  | _, some w => { h with held := h.held ++ [{ x with unit := w }] }
  | none, none => h
  | some r, none =>
    if (fullRange h i s x.pos r x.val).isSome then healthEvent h i s
    else
      let (a, h') := objectEffect m h { ctx := .supervisor } i s x.pos x.val
      if a.accepted then h' else healthEvent h' i s

/-- R47: the writes held for a unit, in the order in which they were written. (DEDUCED, log 18) -/
def applyHeld (m : List Host.Cell) (h : Hub) (u : Nat) : Hub :=
  let lanes := (List.range 8).map tileLaneUnit
  let its (x : HeldWrite) : Bool := x.unit == u || (lanes.contains x.unit && lanes.contains u)
  forEach (h.held.filter its) { h with held := h.held.filter (fun x => !its x) } (applyHeldOne m u)

/-- R29, R30: UNIT_RELEASE: held writes first, then the unit's isolation is released. A fault that came before it, also while the
write waited for its apply time (R413), aborts it, and so does a mapping out. -/
def releaseUnit (m : List Host.Cell) (h : Hub) (u : Nat) : Result :=
  if h.mapped.contains u then (.abort .quarantined, h)
  else if !h.quarantined.contains u then (.done, h)
  else if faulted h u then (.abort .faultSet, h)
  else (.done, backInService m (applyHeld m h u) u)

/-- R28, R479: UNIT_RESET; one that names the supervisor core is a hub reset. (DEDUCED, log 18) -/
def unitResetCommand (m : List Host.Cell) (h : Hub) (u : Nat) : Hub :=
  if u == supervisorUnit then setFw h (fun f => { f with resetWait := true }) else resetUnit m h u

/-- A write that has passed its checks: staged, committed, selected, or carried out. -/
def perform (m : List Host.Cell) (h : Hub) (src : Src) (i s pos : Nat) (r : Row) (v : Val) : Result :=
  let k := i * 256 + s
  let n := v.toInt.toNat
  if k == Obj.SPDM_REQUEST || k == Obj.FW_IMAGE then objectEffect m h src i s pos v
  else if r.sel then (.done, writeSelector h src.ctx i s v)
  else if s == 0xFE then
    if n == 1 then ofOption (commitWindow m h src.ctx i) else (.done, discardStaged h src.ctx i)
  else if r.staged then (.done, stageField h src.ctx i k pos v)
  else if k == Obj.UNIT_RELEASE then releaseUnit m h n
  else if k == Obj.UNIT_RESET then (.done, unitResetCommand m h n)
  else match (if r.acc == .rw || r.acc == .rwi then outUnit h (at_ pos k) else none) with
    | some u => (.done, { h with held := h.held ++ [{ unit := u, key := k, pos := pos, val := v }] })
    | none => objectEffect m h src i s pos v

/-! Mirroring (R412, R413) -/

/-- R413: the running head that an object concerns: that of its block, or one that uses a timing entry. -/
def headOfObject (h : Hub) (i pos : Nat) : Option Nat :=
  let l := locate i
  let own : Nat → Bool := fun hd => match l.fam with
    | .head => l.inst == hd
    | .layer => l.inst / 4 == hd
    | _ => i == 0x64E1 && getN h (Obj.H_TIMING hd) == pos
  (List.range 4).find? (fun hd => own hd && (headOfHub h hd).running)

/-- R412: the items of a write: the fields that a COMMIT applies, then the write itself. (DEDUCED, log 19) -/
def mirrorItems (i s pos : Nat) (r : Row) (v : Val) (fs : List StagedField) : List MirrorItem :=
  fs.map (fun x => .write i (keySub x.key) pos (match rowAt i (keySub x.key) with
    | some q => ofVal q.ty x.val
    | none => [])) ++ [.write i s pos (ofVal r.ty v)]

/-- R413: the active of a pair in Paired or Lockstep mirrors a write and applies it at its apply time. (DEDUCED, log 19) -/
def deferWrite (h : Hub) (src : Src) (i s pos : Nat) (r : Row) (v : Val) (reply : Reply) : Option Answer × Hub :=
  let fs := if s == 0xFE then stagedIn h src.ctx i else []
  let h := if s == 0xFE then discardStaged h src.ctx i else h
  if fs.any (fun x => x.pos != pos) then (some (.abort .disturbed), h)
  else
    let h := forEach (mirrorItems i s pos r v fs) h mirrorSend
    let n := h.twin.txSeq
    let hd := headOfObject h i pos
    let t := applyAt h hd
    let h := tyvel h { type := .commit, args := [n, t] }
    (none, setTwin h (fun x => { x with applies := x.applies ++ [{
      descriptor := false, seq := n, time := some t, item := some (.write i s pos (ofVal r.ty v)), src := some src
      reply := some reply, fields := fs }] }))

/-- R412: a write that is mirrored when the active accepts it: not the staging of a field, which its COMMIT brings. (DEDUCED, log 19) -/
def mirrorsNow (h : Hub) (i s pos : Nat) (r : Row) (v : Val) : Bool :=
  isActive h && decide (2 ≤ getN h Obj.TW_STATE) && mirrored h i pos r && !r.staged && !(s == 0xFE && v.toInt == 2)

/-- R44, R69, R413: a dictionary write, with how it is to be answered: its answer, none while it waits for its apply time. -/
def dictWrite (m : List Host.Cell) (h : Hub) (src : Src) (i s : Nat) (bs : List Byte) (reply : Reply) : Option Answer × Hub :=
  let pos := posOf h src.ctx i
  match writeCheck h src i s pos bs with
  | .error a => (some (.abort a), h)
  | .ok (r, v) =>
    let mir := mirrorsNow h i s pos r v
    if mir && decide (3 ≤ getN h Obj.TW_STATE) then deferWrite h src i s pos r v reply
    else
      let fs := if s == 0xFE then stagedIn h src.ctx i else []
      let (a, h') := perform m h src i s pos r v
      (some a, if mir && a.accepted then forEach (mirrorItems i s pos r v fs) h' mirrorSend else h')

/-- R413: a mirrored write is carried out: at its apply time, or at once on the standby of a pair that is catching up. What its value is
judged by may have changed since it was accepted, by another write that waited as well (R100): it is judged again. (DEDUCED, log 19) -/
def applyWrite (m : List Host.Cell) (h : Hub) (src : Src) (i s pos : Nat) (bs : List Byte) (fs : List StagedField) : Result :=
  match rowAt i s with
  | none => (.done, h)
  | some r =>
    if s == 0xFE then ofOption (commitFields m h i pos fs)
    else match fullRange h i s pos r (toVal r.ty bs) with
      | some a => (.abort a, h)
      | none => perform m h src i s pos r (toVal r.ty bs)

/-- R412, R413: the standby takes an item: a record is stored, a field is staged, another write is applied now in Catch-up and
waits for its COMMIT frame afterwards. -/
def takeItem (m : List Host.Cell) (h : Hub) (n : Nat) (x : MirrorItem) : Hub :=
  match x with
  | .record s p t bytes => if tileExists h s p t then laneDo m h { surface := s, plane := p, tile := t, work := .twin bytes } else h
  | .write i s pos bs =>
    match rowAt i s with
    | none => h
    | some r =>
      if r.staged then stageField h .tyvel i (i * 256 + s) pos (toVal r.ty bs)
      else
        let fs := if s == 0xFE then (stagedIn h .tyvel i).filter (fun y => y.pos == pos) else []
        let h := if s == 0xFE then discardStaged h .tyvel i else h
        if getN h Obj.TW_STATE == 2 then (applyWrite m h { ctx := .tyvel } i s pos bs fs).2
        else setTwin h (fun t => { t with
          applies := t.applies ++ [{ descriptor := false, seq := n, time := mget? t.early n, item := some x, fields := fs }]
          early := t.early.filter (fun y => y.1 != n) })

/-- R403: a MIRROR frame: applied in order only, a duplicate discarded, and acknowledged with the highest in order. -/
def mirrorFrame (m : List Host.Cell) (h : Hub) (n : Nat) (x : MirrorItem) : Hub :=
  if !isStandby h then h
  else
    let h := if n == (h.twin.rxSeq + 1) % 2 ^ 32 then takeItem m (setTwin h (fun t => { t with rxSeq := n })) n x else h
    tyvel h { type := .mirrorAck, args := [h.twin.rxSeq] }

end Sys2Proof.Machine
end

