-- ==== Sys2Proof/Machine/Read.lean ====
section
/-! DEFINITION. Reads of the dictionary: the objects that the hub works out from its state when they are read, each as its
object table says, and the value of any other. -/

namespace Sys2Proof.Machine

/-! The unit directory and identity (R28, R504, R60, R61) -/

/-- R28, R395: DIR_STATE: 4 and 5 take precedence over the domain's state. -/
def unitState (h : Hub) (u : Nat) : Nat :=
  if !h.part.has u then 0
  else if h.mapped.contains u then 5
  else if h.quarantined.contains u then 4
  else domDirState h (domainOfUnit u)

/-- R504: the base of the block that belongs to a unit. -/
def blockIndex (u : Nat) : Nat :=
  let c := uCluster u
  let n := uUnit u
  let r := uRegion u
  if uDie u == 0 then
    if c == 4 then
      if n < 4 then 0x2000 + 0x40 * (4 * r + n) else if n < 6 then 0x9400 + 0x40 * (2 * r + n - 4) else 0
    else if c == 5 && 4 ≤ r then 0x6000 + 0x100 * (r - 4)
    else 0
  else match (List.range 42).find? (fun l => laneUnit l == u) with
    | some l => 0x7800 + 0x10 * l
    | none =>
      if r == 0 && n == 0 then 0x5000 + 0x100 * c
      else if r == 1 && n == 0 then 0x6400 + 0x10 * c
      else if r == 2 && c < 6 && n == 0 then 0x5800 + 0x20 * c
      else if r == 3 && (c == 1 || c == 2) && n == 0 then 0x5A10 + 2 * (c - 1)
      else if r == 5 && c == 2 then 0x7400 + 0x40 * n
      else 0

/-- R61: UNIT_PRESENCE. -/
def presence (p : Part) : List Byte :=
  leBytes 54 (((List.range allUnits.length).zip allUnits).foldl (fun a x => if p.has x.2 then a + 2 ^ x.1 else a) 0)

/-- R28: the unit at a directory position. -/
def unitAt (pos : Nat) : Nat := nth allUnits pos 0

def readDirectory (h : Hub) (c : Ctx) (i s pos : Nat) : Option Val :=
  let u := unitAt pos
  if i == 0x1402 then
    if s == 2 then some (.int (match unitPos (selN h c Obj.LOOKUP_UNIT) with | some p => (p : Int) | none => 0xFFFF)) else none
  else match s with
    | 2 => some (.int (u : Nat))
    | 3 => some (.int (blockIndex u : Nat))
    | 4 => some (.int (unitState h u : Nat))
    | 7 => some (.int (domainOfUnit u : Nat))
    | 8 => some (.int (guardOf u : Nat))
    | _ => none

/-- R60: the part's identity. -/
def readIdentity (h : Hub) (i s : Nat) : Option Val :=
  match i, s with
  | 0x1000, 2 => some (.int (match h.part with | .bw7740 => 0x7740 | .bw7730 => 0x7730 | .bw7720 => 0x7720))
  | 0x1000, 3 => some (.int (Config.stepping % 256 : Nat))
  | 0x1000, 4 => some (.bytes (leBytes 16 Config.serial))
  | 0x1008, 1 => some (.int (Config.kindlingVersion % 2 ^ 32 : Nat))
  | 0x1010, 1 => some (.bytes (presence h.part))
  | 0x1010, 2 => some (.int (allUnits.filter h.part.has).length)
  | 0x1020, 4 => some (.int (match h.store.inForce with | some r => (r.seq : Int) | none => 0))
  | 0x1102, 6 => some (.bytes (Tab.macAddress 6))
  | 0x1200, 4 => some (.int h.mapped.length)
  | 0x1300, 1 => some (.int (h.net : Nat))
  | _, _ => none

/-! The Hearth and its pools (R109-R111) -/

def readHearth (h : Hub) (i s pos : Nat) : Option Val :=
  let nat (n : Nat) : Option Val := some (.int (n : Int))
  let out := groupState h pos != 0
  match i, s with
  | 0x3000, 1 => nat h.part.rows
  | 0x3000, 2 => nat h.part.rows
  | 0x3000, 3 => nat (2 * h.part.rows)
  | 0x3000, 5 => nat (groupsIn h).length
  | 0x3000, 6 => nat (sumOf (fun g => 2 ^ g) (groupsIn h))
  | 0x3001, 1 => nat (occupancy h)
  | 0x3001, 3 => nat (h.hearth.chunks.length)
  | 0x3001, 4 => nat (borrowed h)
  | 0x3005, 2 => nat (groupState h pos)
  | 0x3005, 3 => nat (if out then 0 else groupFree h pos)
  | 0x3005, 4 => nat (if out then 0 else groupQueued h pos)
  | 0x3005, 5 => nat (if out then 0 else groupTransit h pos)
  | 0x3005, 6 => nat (if out then 0 else groupSurface h pos)
  | 0x3005, 12 => nat (if out then 0 else groupReserved h pos)
  | _, _ => none

/-! The Flow Table and Damper (R151-R155, R176-R181) -/

/-- R152: the hash helper's key as masked by its profile, none for a profile above 15. -/
def helperKey (h : Hub) (c : Ctx) : Option (List Byte) :=
  let k := selBytes h c Obj.HK_KEY
  if (k.headD 0).toNat > 15 then none else some (maskKey h k)

/-- R150-R155: what the Flow Table's windows read. P_BASE of profiles 0 to 10 reads the profile's own number: the table gives no value.
(DESIGN CHOICE, log 57) -/
def readFlow (h : Hub) (c : Ctx) (i s pos : Nat) : Option Val :=
  let nat (n : Nat) : Option Val := some (.int (n : Int))
  match i, s with
  | 0x3400, 1 => nat (validExact h).length
  | 0x3400, 2 => nat (validWild h).length
  | 0x3405, 2 => if pos < 11 then nat pos else none
  | 0x3405, 4 => nat (((validExact h).filter (fun x => (getBytes h (at_ x Obj.EX_E_KEY)).headD 0 == BitVec.ofNat 8 pos)).length
      + ((validWild h).filter (fun x => (getBytes h (at_ x Obj.WC_E_KEY)).headD 0 == BitVec.ofNat 8 pos)).length)
  | 0x3408, 2 => nat (match helperKey h c with | some k => bucket0 k | none => 0xFFFF)
  | 0x3408, 3 => nat (match helperKey h c with | some k => bucket1 k | none => 0xFFFF)
  | 0x3408, 4 => nat (match helperKey h c with
      | some k => (((bucketPositions k).filter (fun p => !getB h (at_ p Obj.EX_E_VALID))).min?).getD 0xFFFF
      | none => 0xFFFF)
  | 0x3408, 5 => nat (match helperKey h c with | some k => (exactMatch h k).getD 0xFFFF | none => 0xFFFF)
  | 0x4001, 9 => some (.int (max (wholeBytes (policerBuckets h pos).a) 0))
  | 0x4001, 10 => some (.int (max (wholeBytes (policerBuckets h pos).b) 0))
  | _, _ => none

/-- R181: the objects of the port that GATE_PORT selects. While two swaps are pending (R175), CHANGE_TIME reads the B of the nearer one, of which
the manual says only "B of the pending swap". (DESIGN CHOICE, log 28) -/
def readGate (h : Hub) (i s pos : Nat) : Option Val :=
  let nat (n : Nat) : Option Val := some (.int (n : Int))
  if i == 0x380B then
    let e := ((operList h (pos / 256)).entries)[pos % 256]?
    match s with
    | 4 => nat (match e with | some x => x.1 | none => 0xFF)
    | 5 => nat (match e with | some x => x.2 | none => 0)
    | _ => none
  else
    let o := operList h pos
    let w := mget h.damper.pending [] pos
    match s with
    | 8 => nat (if w.isEmpty then 0 else 1)
    | 9 => nat (match w with | [] => 0 | x :: _ => x.1)
    | 10 => nat (if o.enable then 1 else 0)
    | 11 => nat o.base
    | 12 => nat o.cycle
    | 13 => nat o.entries.length
    | 14 => nat o.lead
    | _ => none

def readDamper (h : Hub) (i s pos : Nat) : Option Val :=
  let nat (n : Nat) : Option Val := some (.int (n : Int))
  match i, s with
  | 0x3800, 3 => nat (damperBacklog h)
  | 0x3802, 10 => some (.int (wholeBytes (subBuckets h pos).a))
  | 0x3802, 11 => some (.int (wholeBytes (subBuckets h pos).b))
  | 0x3802, 12 => nat (sumOf (fun j => (queueOf h (8 * pos + j)).length) (List.range 8))
  | 0x3802, 13 => nat (sumOf (fun j => queueBytes h (8 * pos + j)) (List.range 8))
  | 0x3804, 8 => some (.int (wholeBytes (svcBuckets h pos).a))
  | 0x3804, 9 => some (.int (wholeBytes (svcBuckets h pos).b))
  | 0x3804, 10 => nat ((enabledSubs h).filter (fun u => svcOf h u == pos)).length
  | 0x3806, 7 => some (.int (wholeBytes (portBucket h pos)))
  | 0x3806, 8 => nat (lineRate h pos)
  | 0x3806, 9 => nat (portBacklog h pos)
  | 0x3808, 2 => nat (queueOf h pos).length
  | 0x3808, 3 => nat (queueBytes h pos)
  | 0x3809, _ => readGate h i s pos
  | 0x380B, _ => readGate h i s pos
  | _, _ => none

/-! USB4, PCIe, Ethernet (R201, R203, R235, R250) -/

/-- R203: the live fields of a path, and the snapshot that PA_POS latched. -/
def readPath (h : Hub) (c : Ctx) (k s pos : Nat) : Option Val :=
  let nat (n : Nat) : Option Val := some (.int (n : Int))
  if 13 ≤ s && s ≤ 16 then some (selV h c (Obj.PA_PARTNER k + (s - 13)))
  else match mget? h.usb4.paths (pathKey k pos) with
    | none => none
    | some x => match s with
      | 2 => nat x.state
      | 3 => nat x.spec.inAdapter
      | 4 => nat x.spec.inHop
      | 5 => nat x.spec.outAdapter
      | 6 => nat x.spec.outHop
      | 7 => nat x.spec.priority
      | 8 => nat x.spec.weight
      | 9 => nat (if x.spec.flowControlled then 1 else 0)
      | 10 => nat x.wild
      | 11 => nat x.sub
      | 12 => nat x.spec.credits
      | _ => none

def readCredits (h : Hub) (c : Ctx) (s pos : Nat) : Option Val :=
  let nat (n : Nat) : Option Val := some (.int (n : Int))
  match s with
  | 2 => nat (crAdvertised (pos % 6))
  | 6 => nat (crOutLimit h (pos / 6) (pos % 6))
  | _ => if 3 ≤ s && s ≤ 5 then some (selV h c (Obj.CR_PARTNER + (s - 3))) else none

/-! Tile coding and display (R273-R275, R299, R302, R315) -/

def readSurface (h : Hub) (s pos : Nat) : Option Val :=
  let nat (n : Nat) : Option Val := some (.int (n : Int))
  let st (n : Nat) : Nat := ((surfaceTiles h pos).filter (fun x => x.2.st == n)).length
  match s with
  | 12 => nat (surfaceState h pos)
  | 13 => nat (chunksOf h pos).length
  | 20 => nat (st 1)
  | 21 => nat (st 2)
  | 22 => nat (if surfaceState h pos == 0 then 0
      else ((List.range (shapeOf h pos).ovBlocks).filter (fun b => !blockTaken h pos b)).length)
  | _ => if 14 ≤ s && s ≤ 19 then nat (census h pos (s - 14)) else none

/-- R275: the tile that the three selectors name. (DEDUCED, log 32) -/
def readTile (h : Hub) (c : Ctx) (s : Nat) : Option Val :=
  let nat (n : Nat) : Option Val := some (.int (n : Int))
  let su := selN h c Obj.TQ_SURFACE
  let p := selN h c Obj.TQ_PLANE
  let t := selN h c Obj.TQ_INDEX
  if s == 7 then
    let later := (surfaceTiles h su).filter (fun x => x.1 / 0x40000 % 4 == p && decide (t ≤ x.1 % 0x40000)
      && (x.2.st == 1 || x.2.st == 2))
    nat ((later.map (fun x => x.1 % 0x40000)).min?.getD 0xFFFFFFFF)
  else if surfaceState h su == 0 || !tileInside h su p t then none
  else
    let x := tileInfo h su p t
    match s with
    | 4 => nat x.st
    | 5 => nat x.e
    | 6 => nat x.bytes
    | _ => none

def readDisplay (h : Hub) (c : Ctx) (i s pos : Nat) : Option Val :=
  let nat (n : Nat) : Option Val := some (.int (n : Int))
  match i, s with
  | 0x6800, 2 => nat h.coder.retry.length
  | 0x6802, _ => readSurface h s pos
  | 0x6805, _ => readTile h c s
  | 0x6807, 7 => nat (planesOf (getN h (at_ pos Obj.FD_MODEL)))
  | 0x6431, 4 => nat (slotState h pos)
  | 0x6431, 5 => nat (slotTimes h pos)
  | 0x6431, 6 => nat (slotPayload h pos)
  | 0x6431, 7 => nat (starvedLines h pos)
  | 0x7000, 7 => nat (epmFree h)
  | 0x7003, 3 => nat (portStateNow h (pos + 1))
  | _, _ => none

/-! The key store, the twin, firmware (R425, R441, R483) -/

def readKeys (h : Hub) (i s pos : Nat) : Option Val :=
  let nat (n : Nat) : Option Val := some (.int (n : Int))
  let x := keySlot h pos
  match i, s with
  | 0x9000, 1 => nat (secureState h)
  | 0x9002, 2 => nat x.state
  | 0x9002, 3 => nat x.alg
  | 0x9002, 4 => nat x.attrs
  | 0x9002, 5 => nat x.limit
  | 0x9002, 6 => nat x.left
  | 0x9002, 7 => nat x.gen
  | 0x9002, 8 => some (.bytes (publicKey x))
  | 0x9002, 9 => nat (recordSeq h pos)
  | 0x9800, 5 => nat (sumOf (fun t => 2 ^ tamperBit t) (qualified h))
  | _, _ => none

/-- R483: an image slot; an empty one reads 0. -/
def readImage (h : Hub) (s pos : Nat) : Option Val :=
  let nat (n : Nat) : Option Val := some (.int (n : Int))
  match s with
  | 2 => nat (imageState h pos)
  | 6 => nat (imageRole h pos)
  | _ => match mget? h.fw.images pos with
    | none => none
    | some im => match s with
      | 3 => nat im.version
      | 4 => nat im.length
      | 5 => some (.bytes (((List.range 8).map (fun j => BitVec.ofNat 8 (nth im.steppings j 0)))))
      | _ => none

def readGlobal (h : Hub) (c : Ctx) (i s pos : Nat) : Option Val :=
  let nat (n : Nat) : Option Val := some (.int (n : Int))
  let page := i / 256
  if page == 0x14 then (if i == 0x1401 || i == 0x1402 then readDirectory h c i s pos else none)
  else if page < 0x14 then readIdentity h i s
  else if page == 0x30 then readHearth h i s pos
  else if page == 0x34 || page == 0x40 then readFlow h c i s pos
  else if page == 0x38 then readDamper h i s pos
  else if page == 0x54 then readAllot h i s pos
  else if i == 0x5A01 then readCredits h c s pos
  else if page == 0x64 || page == 0x68 || page == 0x70 then readDisplay h c i s pos
  else if i == 0x7C01 && s == 4 then nat (bankPaceNow h)
  else if i == 0x7C01 && s == 5 then nat (logicPaceNow h)
  else if i == 0x8400 && s == 2 then nat h.straps.twinSide
  else if i == 0x8401 && s == 2 then nat (twinRole h)
  else if page == 0x90 || page == 0x98 then readKeys h i s pos
  else if i == 0xA004 then readImage h s pos
  else none

/-! Blocks of instances -/

/-- R371: a lane's objects. -/
def readLane (h : Hub) (l off s : Nat) : Option Val :=
  let nat (n : Nat) : Option Val := some (.int (n : Int))
  let x := lane h l
  match off, s with
  | 0, 1 => nat (if typeB l then 1 else 0)
  | 0, 3 => nat (laneModulation h l)
  | 0, 4 => nat (laneRateNow h l)
  | 0, 5 => nat x.tx
  | 0, 6 => nat (rxStateNow h l)
  | 0, 7 => nat (if lockedNow h l then 1 else 0)
  | 1, 3 => some (.bytes (ffeNow h l))
  | 1, 4 => nat (swingNow h l)
  | 2, 3 => if typeB l then none else nat (ctleNow h l)
  | 2, 4 => if typeB l then none else some (.bytes (x.taps.map (fun t => BitVec.ofInt 8 t)))
  | 4, 6 => nat x.prbsBits
  | 4, 7 => nat x.prbsErrs
  | _, _ => none

/-- R355, R356: a PD port's objects. -/
def readPd (h : Hub) (p off s : Nat) : Option Val :=
  let nat (n : Nat) : Option Val := some (.int (n : Int))
  match off, s with
  | 0, 2 => nat (pdState h p)
  | 0, 11 => nat (if p == 0 && frsArmed h then 1 else 0)
  | 1, 5 => nat (pbCap h p)
  | 0x3F, 4 => nat (unallotted h)
  | 0x3F, 5 => nat (if adapterLevel h then 1 else 0)
  | _, _ => none

/-- What the hub works out when an object is read; none for an object whose value stands as it was set. -/
def derived (h : Hub) (c : Ctx) (i s pos : Nat) : Option Val :=
  let nat (n : Nat) : Option Val := some (.int (n : Int))
  let l := locate i
  match l.fam with
  | .gp =>
    if l.off == 0 && s == 1 then nat (portState h l.inst)
    else if l.off == 0 && s == 3 then
      nat (((bondMembers l.inst).find? (fun n => n != l.inst)).getD 0xFF)
    else none
  | .pool => if l.off == 1 && s == 1 then nat (poolCells h l.inst)
    else if l.off == 1 && s == 3 then nat (poolChunks h l.inst) else none
  | .usb4 => if l.off == 0 && s == 13 then nat (creditsAdvertised h l.inst)
    else if l.off == 4 then readPath h c l.inst s pos else none
  | .mac => if l.off == 0 && s == 8 then some (.bytes (Tab.macAddress l.inst)) else none
  | .head => if l.off == 0 && s == 10 then nat (headOfHub h l.inst).line else none
  | .pd => readPd h l.inst l.off s
  | .lane => readLane h l.inst l.off s
  | .dom => if l.off == 0 && s == 1 then nat (domState h l.inst) else none
  | .guard => if l.off == 0 && s == 1 then nat ((guardCluster l.inst).getD 0xFFFF) else none
  | .glob => readGlobal h c i s pos
  | _ => none

/-- R43, R39, R56, R57: the value that a read of an object returns to a carrier context. -/
def readObj (h : Hub) (c : Ctx) (i s : Nat) : Ty × Val :=
  let pos := posOf h c i
  let k := i * 256 + s
  match rowAt i s with
  | none => (.u 1, .int (topSub i : Nat))
  | some r =>
    if r.sel then (r.ty, selV h c k)
    else if s == 0xFF && isStaging i then (r.ty, .int (if (stagedIn h c i).isEmpty then 0 else 1))
    else (r.ty, (derived h c i s pos).getD (getV h (at_ pos k)))

/-- R44, R69: a dictionary read: its bytes or its abort. -/
def dictRead (h : Hub) (src : Src) (i s : Nat) : Answer :=
  match readCheck h i s with
  | some a => .abort a
  | none =>
    let (t, v) := readObj h src.ctx i s
    .data (ofVal t v)

/-! Router configuration space (R186, R187) -/

/-- The number that a read of an object returns now. -/
def shownN (h : Hub) (k : Nat) : Nat :=
  let (t, v) := readObj h .supervisor (keyIdx k) (keySub k)
  leNat (ofVal t v)

/-- R186: vendor ID, product ID and UUID of the router. -/
def routerIds (h : Hub) : Nat × Nat × Nat := (0x4257, shownN h Obj.PART_NUMBER, shownN h Obj.SERIAL_NUMBER)

/-- Table 10.4, R187: what a read of a dword of the vendor-specific capability returns now. The manual leaves the places of the
header's fields to the USB4 specification: dword 0 holds what it names, VSEC ID 0x42 and a length of 10. (DEDUCED, log 29) -/
def vendorDword (h : Hub) (n : Nat) : Nat :=
  match n with
  | 0 => 0x42 * 0x10000 + 10 * 0x1000000
  | 1 => 0x4257 + shownN h Obj.PART_NUMBER * 0x10000
  | 2 => shownN h Obj.DICTIONARY_LAYOUT
  | 3 => shownN h Obj.NODE_ID_ACTIVE + shownN h Obj.SEASON * 0x100 + shownN h Obj.TW_STATE * 0x400
      + (if h.pcie.inReset.contains 0 then 0 else 0x2000) + (if usbUp h then 0x4000 else 0)
      + shownN h Obj.UDP_ENABLE * 0x8000
  | 4 => shownN h Obj.UDP_IPV4_ADDRESS
  | 5 => shownN h Obj.STEPPING
  | 6 => shownN h Obj.SERIAL_NUMBER % 2 ^ 32
  | 7 => shownN h Obj.SERIAL_NUMBER / 2 ^ 32 % 2 ^ 32
  | 8 => shownN h Obj.SERIAL_NUMBER / 2 ^ 64 % 2 ^ 32
  | 9 => shownN h Obj.SERIAL_NUMBER / 2 ^ 96
  | _ => 0

end Sys2Proof.Machine
end

