-- ==== Sys2Proof/Machine/Jdp.lean ====
section
/-! DEFINITION. Reaching the dictionary: the Jehel protocol (R70-R87, R512), the BAR 0 window (R63-R66), the BAR 2 mailbox (R88, R89),
and accesses that wait for a domain (R48). -/

namespace Sys2Proof.Machine

def setJdp (h : Hub) (f : Jdp → Jdp) : Hub := { h with jdp := f h.jdp }

/-! Transfers (R73) -/

/-- R73: a client: its carrier, with its IP address and port on UDP, and its node. -/
def sameClient (a b : TransferId) : Bool :=
  a.peer.ctx == b.peer.ctx && a.peer.ip == b.peer.ip && a.peer.udpPort == b.peer.udpPort && a.node == b.node

def sameTransfer (a b : TransferId) : Bool := sameClient a b && a.seq == b.seq

def findXfer (h : Hub) (id : TransferId) : Option Xfer := h.jdp.xfers.find? (fun x => sameTransfer x.id id)

def dropXfer (h : Hub) (id : TransferId) : Hub :=
  setJdp h (fun j => { j with xfers := j.xfers.filter (fun x => !sameTransfer x.id id) })

/-- Keep a transfer, in place of what stood under its identity. -/
def putXfer (h : Hub) (x : Xfer) : Hub := setJdp (dropXfer h x.id) (fun j => { j with xfers := j.xfers ++ [x] })

/-- R73: a client may not start one more transfer. -/
def tooMany (h : Hub) (id : TransferId) : Bool :=
  (findXfer h id).isSome
  || decide ((h.jdp.xfers.filter (fun x => sameClient x.id id)).length ≥ (if id.peer.ctx == .can then 4 else 16))

/-! Answers (R75, R76) -/

/-- R73, R71: a frame of a transfer, from the node that the hub was addressed by. -/
def replyPdu (id : TransferId) (asNode func segment : Nat) (data : List Byte) : Pdu where
  func := func
  source := asNode
  dest := id.node
  seq := id.seq
  segment := segment
  data := data

/-- Table 5.2: index, sub-index and the byte after them. -/
def objHead (i s b : Nat) : List Byte := leBytes 2 i ++ leBytes 1 s ++ leBytes 1 b

/-- R67, R75: an abort frame. -/
def jdpAbort (h : Hub) (id : TransferId) (asNode i s : Nat) (a : Abort) : Hub :=
  sendPdu h id.peer (replyPdu id asNode 0x06 0 (objHead i s a.cls ++ leBytes 1 a.det ++ [0, 0, 0]))

/-- 64 value bytes each, the last of them what is left. -/
def segments : Nat → List Byte → List (List Byte)
  | 0, _ => []
  | n + 1, bs => if bs.isEmpty then [] else bs.take 64 :: segments n (bs.drop 64)

/-- R76: the frames of an expedited or segmented read. -/
def sendRead (h : Hub) (id : TransferId) (asNode i s : Nat) (bs : List Byte) : Hub :=
  let more := if bs.length > 56 then 1 else 0
  let h := sendPdu h id.peer (replyPdu id asNode 0x02 0 (objHead i s more ++ leBytes 4 bs.length ++ bs.take 56))
  let rest := segments 63 (bs.drop 56)
  forEach ((List.range rest.length).zip rest) h (fun h x => sendPdu h id.peer (replyPdu id asNode 0x02 (x.1 + 1) x.2))

/-- R79-R81: the next block of a block or bulk read, from the acknowledged byte count. -/
def sendBlock (h : Hub) (x : Xfer) : Hub :=
  match x.kind with
  | .blockRead bulk stream acked size _ =>
    let rest := segments size (stream.drop acked)
    forEach ((List.range rest.length).zip rest) h (fun h y =>
      sendPdu h x.id.peer (replyPdu x.id x.asNode (if bulk then 0x10 else 0x05) y.1 y.2))
  | _ => h

/-- A block size as a frame names it: 1 to 64. (DEDUCED, log 15) -/
def blockSizeOf (b : Byte) : Nat := max 1 (min b.toNat 64)

/-- R66: what an aborted BAR 0 access latches. -/
def latchAbort (h : Hub) (i s : Nat) (a : Abort) : Hub :=
  { h with bar0 := { h.bar0 with
    abortCode := 0x80000000 + a.cls * 256 + a.det
    abortAddress := i * 256 + s
    abortCount := (h.bar0.abortCount + 1) % 2 ^ 32 } }

/-- An access is answered. -/
def deliver (h : Hub) (reply : Reply) (ans : Answer) : Hub :=
  match reply with
  | .cmd src => send h (.answer src ans)
  | .dropped => h
  | .bar0 i s => match ans with
    | .abort a => latchAbort h i s a
    | _ => h
  | .jdp id asNode i s block => match ans with
    | .abort a => jdpAbort (dropXfer h id) id asNode i s a
    | .done => sendPdu (dropXfer h id) id.peer (replyPdu id asNode 0x04 0 (objHead i s 0))
    | .data bs => match block with
      | none => sendRead (dropXfer h id) id asNode i s bs
      | some b =>
        let x : Xfer := { id := id, asNode := asNode, idx := i, sub := s, kind := .blockRead false bs 0 b 0 }
        let h := sendPdu (putXfer h x) id.peer (replyPdu id asNode 0x02 0 (objHead i s 2 ++ leBytes 4 bs.length))
        sendBlock h x

/-! Window bulk reads (R81) -/

/-- R81: one field of an entry at its type's size. -/
def fieldBytes (h : Hub) (c : Ctx) (i s pos : Nat) (r : Row) : List Byte :=
  let v := if r.sel then selV h c (i * 256 + s) else (derived h c i s pos).getD (getV h (at_ pos (i * 256 + s)))
  let bs := ofVal r.ty v
  bs ++ List.replicate (r.ty.size - bs.length) 0

/-- R81: one record: the entry's position and its fields, live. -/
def bulkRecord (h : Hub) (c : Ctx) (i pos : Nat) : List Byte :=
  let at0 := if i == 0x380B then selN h c Obj.GATE_PORT * 256 + pos else pos
  let l := locate i
  let h := if l.fam == .usb4 then latchPath h c l.inst pos else if i == 0x5A01 then latchCredit h c pos else h
  leBytes 4 pos ++ (List.range 0xFC).flatMap (fun j => match rowAt i (j + 2) with
    | some r => fieldBytes h c i (j + 2) at0 r
    | none => [])

/-- R81: the stream of a bulk read: its header, then the records of the positions that there are. -/
def bulkStream (h : Hub) (c : Ctx) (i first count : Nat) : List Byte :=
  let n := min count (windowCount i - first)
  let rs := (List.range n).map (fun j => bulkRecord h c i (first + j))
  let body := rs.flatMap id
  leBytes 4 (8 + body.length) ++ leBytes 2 (bulkRecord h c i first).length ++ leBytes 2 n ++ body

/-- R81: a bulk read is served. -/
def serveBulk (h : Hub) (src : Src) (reply : Reply) (i first count : Nat) : Hub :=
  match reply with
  | .jdp id asNode _ _ block =>
    let x : Xfer := { id := id, asNode := asNode, idx := i, sub := 0
                      kind := .blockRead true (bulkStream h src.ctx i first count) 0 (block.getD 64) 0 }
    sendBlock (putXfer h x) x
  | _ => h

/-! Serving an access (R42, R44, R48, R66) -/

/-- What an access meets before its unit's domain matters: it names no object, or an absent one, or one that is not served now. R69:
of the last, what it meets of the classes between (`ahead`) is reported first. (DEDUCED, log 12) -/
def earlyCheck (h : Hub) (i s : Nat) (w : Option (List Byte)) (ahead : Option Abort) : Option Abort :=
  (existCheck i s).orElse (fun _ => (absentWrite h.part i s (w.getD [])).orElse (fun _ =>
    match servedCheck h i s w.isSome with
    | some a => some (ahead.getD a)
    | none => none))

/-- R46, R404, R413, R432, R450: what refuses a write ahead of its length; its bytes matter where they name what is absent (R29, R62), and
are none while they have not all come. (DEDUCED, log 12) -/
def aheadCheck (h : Hub) (src : Src) (i s : Nat) (bs : List Byte) : Option Abort :=
  (existCheck i s).orElse (fun _ => (absentWrite h.part i s bs).orElse (fun _ =>
    (attributeCheck h src i s (posOf h src.ctx i)).orElse (fun _ => securityCheck h src i s)))

/-- R69: what refuses a write of `n` bytes ahead of class 0x05: classes 0x01 to 0x03, 0x09 and 0x06. (DEDUCED, log 12) -/
def aheadWrite (h : Hub) (src : Src) (i s : Nat) (bs : List Byte) (n : Nat) : Option Abort :=
  (aheadCheck h src i s bs).orElse (fun _ => match rowAt i s with
    | some r => objectLength h src.ctx i s r.ty n
    | none => none)

/-- R69: what refuses a read ahead of its length: classes 0x01 to 0x03. -/
def aheadRead (h : Hub) (i s : Nat) : Option Abort :=
  (existCheck i s).orElse (fun _ => (absentCheck h.part i s).orElse (fun _ => readable i s))

/-- The same of an access: a read of the bytes it has, or a write. -/
def aheadOf (h : Hub) (src : Src) (i s : Nat) : Option (List Byte) → Option Abort
  | none => readable i s
  | some bs => aheadWrite h src i s bs bs.length

/-- R48, Table 21.5: the domain that an access of a carrier context waits for: PW57, where the dictionary is served, then that of
the object's unit at the position that the context selects. (DEDUCED, log 12) -/
def sleepingDomain (h : Hub) (c : Ctx) (i s : Nat) : Option Nat :=
  [57, objDomain (keyOf h c i s)].find? (fun d => domState h d != 1)

/-- An access whose domains are On. (DEDUCED, log 12) -/
def serve (m : List Host.Cell) (h : Hub) (src : Src) (i s : Nat) (w : Option (List Byte)) (bulk : Option (Nat × Nat))
    (reply : Reply) : Hub :=
  match bulk, w with
  | some (first, count), _ => serveBulk h src reply i first count
  | none, none => deliver h reply (dictRead h src i s)
  | none, some bs =>
    let (a, h') := dictWrite m h src i s bs reply
    match a with
    | some x => deliver h' reply x
    | none => h'

/-- R44, R48: an access over JDP, or one of the model's own commands. It waits at the isolation stage of a domain that is not On, and
wakes it. (DEDUCED, log 12) -/
def access (m : List Host.Cell) (h : Hub) (src : Src) (i s : Nat) (w : Option (List Byte)) (bulk : Option (Nat × Nat))
    (reply : Reply) (kept : Option KeptCtx := none) : Hub :=
  match earlyCheck h i s w (aheadOf h src i s w), sleepingDomain h src.ctx i s with
  | some a, _ => deliver h reply (.abort a)
  | none, some d =>
    let x : Waiting := { domain := d, src := src, idx := i, sub := s, write := w, reply := reply, bulk := bulk }
    let kept := if kept.isSome || d == 57 then kept else some { sel := h.sel.filter (fun x => ofCtx src.ctx x.1) }
    wakeDomain (setJdp h (fun j => { j with waiting := j.waiting ++ [{ x with kept := kept }] })) d .dictionary
  | none, none => serve m h src i s w bulk reply

/-- A dictionary write by the model's own command. In Winter and in recovery hold a carrier that is not served brings none. (DEDUCED, log 14) -/
def writeBy (m : List Host.Cell) (h : Hub) (src : Src) (i s : Nat) (bs : List Byte) : Hub :=
  if carrierServed h src.ctx then access m h src i s (some bs) none (.cmd src) else h

/-- The same of a number, at the width of the object. (DEDUCED, log 14) -/
def writeNat (m : List Host.Cell) (h : Hub) (src : Src) (k n : Nat) : Hub :=
  let t := match rowAt (keyIdx k) (keySub k) with
    | some r => r.ty.size
    | none => 1
  writeBy m h src (keyIdx k) (keySub k) (leBytes t n)

/-- R55, R56: a write of a window's COMMIT, sub-index 0xFE: 1 commits, 2 discards. (DEDUCED, log 14) -/
def commitBy (m : List Host.Cell) (h : Hub) (src : Src) (i v : Nat) : Hub := writeBy m h src i 0xFE [BitVec.ofNat 8 v]

/-- R476, R477, R69: a write of FW_IMAGE whose image stands in the command in fields. (DEDUCED, log 14) -/
def imageAccess (h : Hub) (src : Src) (im : Image) : Hub :=
  let i := keyIdx Obj.FW_IMAGE
  let s := keySub Obj.FW_IMAGE
  let reply : Reply := .cmd src
  match earlyCheck h i s (some []) (aheadWrite h src i s [] (4096 + im.length)), sleepingDomain h src.ctx i s, rowAt i s with
  | some a, _, _ => deliver h reply (.abort a)
  | none, some d, _ =>
    wakeDomain (setJdp h (fun j => { j with waiting := j.waiting ++ [
      { domain := d, src := src, idx := i, sub := s, write := none, reply := reply, image := some im }] })) d .dictionary
  | none, none, none => deliver h reply (.abort .readOnly)
  | none, none, some r =>
    match (aheadCheck h src i s []).orElse (fun _ => (objectLength h src.ctx i s r.ty (4096 + im.length)).orElse (fun _ =>
      idleCheck h i s 0 r (.bytes []))) with
    | some a => deliver h reply (.abort a)
    | none => deliver (fwImage h src.ctx im) reply (.abort .pending)

/-- The same from a carrier that is served. -/
def imageBy (h : Hub) (src : Src) (im : Image) : Hub := if carrierServed h src.ctx then imageAccess h src im else h

/-- An access that waited is carried out as it was accepted: at the positions and with the selectors that its context held then. What it
changes of them stays, unless the context has been reset since. (DEDUCED, log 12) -/
def inContext (h : Hub) (c : Ctx) (k : KeptCtx) (f : Hub → Hub) : Hub :=
  let others (l : SMap Val) : SMap Val := l.filter (fun x => !ofCtx c x.1)
  let put (h : Hub) (mine : SMap Val) : Hub := { h with sel := mine.foldl (fun l x => mset l x.1 x.2) (others h.sel) }
  let live := h.sel.filter (fun x => ofCtx c x.1)
  let staged := h.staged
  let h := f (put (if k.gone then { h with staged := h.staged.filter (fun x => x.ctx != c) ++ k.staged } else h) k.sel)
  let set := h.sel.filter (fun x => ofCtx c x.1 && mget? k.sel x.1 != some x.2)
  if k.gone then { put h live with staged := staged } else put h (set.foldl (fun l x => mset l x.1 x.2) live)

/-- R48: accesses that waited for a domain go on, in the order in which they came. -/
def wokenAccesses (m : List Host.Cell) (h : Hub) (d : Nat) : Hub :=
  let mine := h.jdp.waiting.filter (fun w => w.domain == d)
  forEach mine (setJdp h (fun j => { j with waiting := j.waiting.filter (fun w => w.domain != d) })) (fun h w =>
    match w.image with
    | some im => imageAccess h w.src im
    | none => match w.kept with
      | some k => inContext h w.src.ctx k (fun h => access m h w.src w.idx w.sub w.write w.bulk w.reply (some k))
      | none => access m h w.src w.idx w.sub w.write w.bulk w.reply)

/-- R48: 50 ms have passed: accesses that still wait for a domain abort; the wake continues. -/
def wakeTimedOut (h : Hub) (d : Nat) : Hub :=
  let mine := h.jdp.waiting.filter (fun w => w.domain == d)
  forEach mine (setJdp h (fun j => { j with waiting := j.waiting.filter (fun w => w.domain != d) })) (fun h w =>
    deliver h w.reply (.abort .wakeTime))

/-! Requests (R76-R81) -/

/-- R70-R73, R71: a carrier on which JDP is served now. -/
def carrierUp (h : Hub) (p : Peer) : Bool :=
  h.jdp.reachable && carrierServed h p.ctx && (match p.ctx with
    | .can => getN h Obj.NODE_ID_ACTIVE != 0 && inService h canUnit
    | .udp => getB h Obj.UDP_ENABLE
    | .usb => usbUp h && !deviceAsleep h
    | .bar2 => bitOf h.mbx.control 0
    | .tyvel => h.twin.linkUp
    | _ => false)

/-- R79: the hub's block size, which the manual leaves to it: a free value of 1 to 64. (DESIGN CHOICE, log 8) -/
def freeBlockSize (h : Hub) : Nat × Hub := (Config.freeNat h.fresh % 64 + 1, tick h)

def isDomainTy : Ty → Bool
  | .domain _ => true
  | _ => false

/-- A byte of a PDU's data, 0 where it has none. -/
def pduByte (p : Pdu) (i : Nat) : Byte := (p.data[i]?).getD 0
def pduNat (p : Pdu) (off n : Nat) : Nat := leNat ((p.data.drop off).take n)

/-- R75, R76: a read request. (DEDUCED, log 15) -/
def readRequest (m : List Host.Cell) (h : Hub) (id : TransferId) (p : Pdu) : Hub :=
  let i := pduNat p 0 2
  let s := pduNat p 2 1
  let block := bitOf (pduNat p 3 1) 1
  let src : Src := { ctx := id.peer.ctx, session := id.peer.session }
  if tooMany h id then jdpAbort h id p.dest i s .tooMany
  else
    let dom := match rowAt i s with
      | some r => isDomainTy r.ty
      | none => false
    if dom && !block then jdpAbort h id p.dest i s ((aheadRead h i s).getD .tooLong)
    else
      let h := putXfer h { id := id, asNode := p.dest, idx := i, sub := s, kind := .waiting }
      access m h src i s none none (.jdp id p.dest i s (if dom then some (blockSizeOf (pduByte p 4)) else none))

/-- A write whose last segment has been accepted (R78). -/
def acceptWrite (m : List Host.Cell) (h : Hub) (id : TransferId) (asNode i s : Nat) (bs : List Byte) : Hub :=
  let h := putXfer h { id := id, asNode := asNode, idx := i, sub := s, kind := .waiting }
  access m h { ctx := id.peer.ctx, session := id.peer.session } i s (some bs) none (.jdp id asNode i s none)

/-- R75-R79: segment 0 of a write request. (DEDUCED, log 15) A block write of a DOMAIN of total length 0 has no block that could follow:
the model applies it at once and answers with status 0x00 alone. (DESIGN CHOICE, log 49) -/
def writeRequest (m : List Host.Cell) (h : Hub) (id : TransferId) (p : Pdu) : Hub :=
  let i := pduNat p 0 2
  let s := pduNat p 2 1
  let more := bitOf (pduNat p 3 1) 0
  let block := bitOf (pduNat p 3 1) 1
  let total := pduNat p 4 4
  let src : Src := { ctx := id.peer.ctx, session := id.peer.session }
  let refuse (h : Hub) (a : Abort) : Hub := jdpAbort h id p.dest i s ((aheadCheck h src i s []).getD a)
  let repeats : Bool := match findXfer h id with
    | some x => x.idx == i && x.sub == s && (match x.kind with | .segWrite 1 t _ => t == total | _ => false)
    | none => false
  if repeats then h
  else if tooMany h id then jdpAbort h id p.dest i s .tooMany
  else match rowAt i s with
    | some r =>
      if isDomainTy r.ty then
        if !block then refuse h .tooLong
        else match (aheadCheck h src i s []).orElse (fun _ => objectLength h src.ctx i s r.ty total) with
          | some a => jdpAbort h id p.dest i s a
          | none =>
            let (b, h) := freeBlockSize h
            if total == 0 then acceptWrite m h id p.dest i s []
            else
              let h := putXfer h { id := id, asNode := p.dest, idx := i, sub := s, kind := .blockWrite 0 b total [] }
              sendPdu h id.peer (replyPdu id p.dest 0x04 0 (objHead i s 1 ++ leBytes 1 b))
      else if total > 4088 then refuse h .tooLong
      else
        let v := (p.data.drop 8).take (min 56 total)
        if v.length == total then
          if p.data.length > canLen (8 + total) then refuse h .tooLong else acceptWrite m h id p.dest i s v
        else if !more then refuse h .tooShort
        else putXfer h { id := id, asNode := p.dest, idx := i, sub := s, kind := .segWrite 1 total v }
    | none => refuse h .readOnly

/-- A transfer ends with an abort by the hub. -/
def endXfer (h : Hub) (x : Xfer) (a : Abort) : Hub := jdpAbort (dropXfer h x.id) x.id x.asNode x.idx x.sub a

/-- R76, R77: a continuation segment of a write. (DEDUCED, log 15) -/
def writeSegment (m : List Host.Cell) (h : Hub) (id : TransferId) (p : Pdu) : Hub :=
  match findXfer h id with
  | none => h
  | some x => match x.kind with
    | .segWrite next total got =>
      let need := total - got.length
      if p.segment + 1 == next then h
      else if p.segment != next then endXfer h x .tooShort
      else if p.data.length > canLen (min need 64) then endXfer h x .tooLong
      else
        let got := got ++ p.data.take (min need 64)
        if got.length == total then acceptWrite m h id x.asNode x.idx x.sub got
        else if p.segment == 63 then endXfer h x .tooShort
        else putXfer h { x with kind := .segWrite (next + 1) total got }
    | _ => h

/-- R79, R80: a block segment of a block write: segments after a gap are discarded, a block that starts again replaces what was
taken of it, and the block's last segment is acknowledged. (DEDUCED, log 15) -/
def blockSegment (m : List Host.Cell) (h : Hub) (x : Xfer) (p : Pdu) (next size total : Nat) (got : List Byte) : Hub :=
  let base := if p.segment == 0 then got.take (got.length - 64 * next) else got
  let next := if p.segment == 0 then 0 else next
  let start := base.length - 64 * next
  let lastSeg := min size ((total - start + 63) / 64) - 1
  let got := if p.segment == next then base ++ p.data.take (min 64 (total - base.length)) else base
  let next := if p.segment == next then next + 1 else next
  if p.segment < lastSeg then putXfer h { x with kind := .blockWrite next size total got }
  else
    let (b, h) := freeBlockSize h
    let h := sendPdu h x.id.peer (replyPdu x.id x.asNode 0x05 0 (leBytes 4 got.length ++ leBytes 1 b ++ [0, 0, 0]))
    if got.length == total then acceptWrite m h x.id x.asNode x.idx x.sub got
    else putXfer h { x with kind := .blockWrite 0 b total got }

/-- R79, R80: an acknowledgement: the sender goes on from the acknowledged byte count, or the transfer ends. (DEDUCED, log 15) -/
def blockAck (h : Hub) (x : Xfer) (p : Pdu) (bulk : Bool) (stream : List Byte) : Hub :=
  let n := pduNat p 0 4
  if n ≥ stream.length then dropXfer h x.id
  else
    let x := { x with kind := .blockRead bulk stream n (blockSizeOf (pduByte p 4)) 0 }
    sendBlock (putXfer h x) x

/-- R79-R81: a block frame on function 0x05 or 0x10, told apart by who sends the data. -/
def blockFrame (m : List Host.Cell) (h : Hub) (id : TransferId) (p : Pdu) : Hub :=
  match findXfer h id with
  | none => h
  | some x => match x.kind with
    | .blockWrite next size total got => if p.func == 0x05 then blockSegment m h x p next size total got else h
    | .blockRead bulk stream _ _ _ => if bulk == (p.func == 0x10) then blockAck h x p bulk stream else h
    | _ => h

/-- R78: a client's abort ends a transfer whose last segment has not been accepted; a block read ends too, any other is answered. -/
def clientAbort (h : Hub) (id : TransferId) : Hub :=
  match findXfer h id with
  | none => h
  | some x => match x.kind with
    | .waiting => h
    | _ => dropXfer h id

/-- R81: a window bulk request. (DEDUCED, log 15) -/
def bulkRequest (m : List Host.Cell) (h : Hub) (id : TransferId) (p : Pdu) : Hub :=
  let i := pduNat p 0 2
  let first := pduNat p 4 4
  let src : Src := { ctx := id.peer.ctx, session := id.peer.session }
  if tooMany h id then jdpAbort h id p.dest i 0 .tooMany
  else match earlyCheck h i 0 none none with
    | some a => jdpAbort h id p.dest i 0 a
    | none =>
      if !isWindow i then jdpAbort h id p.dest i 0 .noSub
      else if first ≥ windowCount i then jdpAbort h id p.dest i 0 .position
      else
        let h := putXfer h { id := id, asNode := p.dest, idx := i, sub := 0, kind := .waiting }
        access m h src i 0 none (some (first, pduNat p 8 4)) (.jdp id p.dest i 0 (some (blockSizeOf (pduByte p 3))))

/-- R71-R75: a PDU arrives on a carrier; its function code says which of the frames of Table 5.2 it is. R72 speaks of requests for
another node: the model counts every frame of codes 0x03 and 0x10 that is addressed elsewhere in DISCARDED, continuation segments
and acknowledgements among them. Of a read request whose SEGMENT is not 0 the manual says nothing: the model passes it over, without an
answer and without a count. (DESIGN CHOICE, log 49) -/
def receive (m : List Host.Cell) (h : Hub) (peer : Peer) (p : Pdu) : Hub :=
  if !carrierUp h peer then h
  else
    let h := bump h Obj.FRAMES_RX
    let own := if peer.ctx == .can then getN h Obj.NODE_ID_ACTIVE else h.jdp.node
    let discard := bump h Obj.DISCARDED
    if peer.ctx == .can && !p.fd then discard
    else
      let h := whenH (p.source != 0 && p.source == own) h (fun h => setFlag h Obj.NODE_CONFLICT)
      let discard := bump h Obj.DISCARDED
      let mine := p.dest != 0x7F && (p.dest == own || (peer.ctx != .can && p.dest == 0))
      let id : TransferId := ⟨peer, p.source, p.seq⟩
      match p.func with
      | 0x01 => if !mine then discard else if p.segment == 0 then readRequest m h id p else h
      | 0x03 => if !mine then discard else if p.segment == 0 then writeRequest m h id p else writeSegment m h id p
      | 0x05 => if mine then blockFrame m h id p else h
      | 0x06 => if mine then clientAbort h id else h
      | 0x08 => if p.source == getN h Obj.MANAGER_NODE && p.source != 0 then setJdp h (fun j => { j with managerSeen := true }) else h
      | 0x10 =>
        if !mine then discard
        else match findXfer h id with
          | some x => (match x.kind with
            | .blockRead true _ _ _ _ => blockFrame m h id p
            | _ => bulkRequest m h id p)
          | none => bulkRequest m h id p
      | 0x02 => h
      | 0x04 => h
      | 0x09 => h
      | 0x0A => h
      | 0x0B => h
      | _ => discard

/-! Timeouts and the hub's own frames (R80-R85) -/

/-- R82: 100 ms without the next segment or block. -/
def segmentGap (h : Hub) (id : TransferId) : Hub :=
  match findXfer h id with
  | none => h
  | some x => match x.kind with
    | .segWrite _ _ _ => endXfer h x .transferTime
    | .blockWrite _ _ _ _ => endXfer h x .transferTime
    | _ => h

/-- R80: 200 ms without an acknowledgement: the block is sent again, at most three times. -/
def blockAckLate (h : Hub) (id : TransferId) : Hub :=
  match findXfer h id with
  | none => h
  | some x => match x.kind with
    | .blockRead bulk stream acked size resends =>
      if resends ≥ 3 then endXfer h x .transferTime
      else
        let x := { x with kind := .blockRead bulk stream acked size (resends + 1) }
        sendBlock (putXfer h x) x
    | _ => h

/-- R83, Table 5.2: a heartbeat. Whose role bit [0] of byte 3, "twin active", tells the table does not say: the model sends this hub's own,
1 while it is the active one. (DESIGN CHOICE, log 49) -/
def heartbeat (h : Hub) : Hub :=
  if !h.jdp.reachable || getN h Obj.HEARTBEAT_PERIOD == 0 then h
  else
    let d := leBytes 1 (getN h Obj.SEASON) ++ leBytes 1 (getN h Obj.TW_STATE) ++ leBytes 1 h.jdp.heartbeatCount
      ++ leBytes 1 ((if isActive h then 1 else 0) + (if replaceLow h then 2 else 0))
      ++ leBytes 4 ((h.now - h.bootedAt) / 1000000000)
    let h := setJdp h (fun j => { j with heartbeatCount := (j.heartbeatCount + 1) % 256 })
    forEach (reportPeers h) h (fun h p => sendPdu h p (ownPdu h 0x08 0x7F d))

/-- R83: MANAGER_TIMEOUT passes without a heartbeat of the manager. -/
def managerLate (h : Hub) : Hub :=
  if getN h Obj.MANAGER_NODE == 0 || !h.jdp.managerSeen then h
  else setFlag (setJdp h (fun j => { j with managerSeen := false })) Obj.MANAGER_LOST

/-- R85: a time broadcast; the time it holds lies within 1 µs of the frame's start on CAN FD, within 10 µs elsewhere: a free
value of that width. (DEDUCED, log 46) -/
def timeBroadcast (h : Hub) : Hub :=
  if !h.jdp.reachable || getN h Obj.TIME_PERIOD == 0 then h
  else forEach (reportPeers h) h (fun h p =>
    let w := if p.ctx == .can then 1000 else 10000
    let t := h.net + Config.freeNat h.fresh % (2 * w + 1) - w
    sendPdu (tick h) p (ownPdu h 0x0B 0x7F (leBytes 8 t ++ leBytes 1 (getN h Obj.TIME_SOURCE)
      ++ leBytes 1 (if inHoldover h then 1 else 0))))

/-- R84: EMERGENCY_INHIBIT has passed since the last emergency frame of a carrier: the next one goes. (DEDUCED, log 16) -/
def inhibitEnds (h : Hub) (c : Ctx) : Hub :=
  let n := ctxNo c
  let h := setJdp h (fun j => { j with inhibited := j.inhibited.filter (· != n) })
  match mget h.jdp.emergencies [] n, (reportPeers h).find? (fun p => p.ctx == c) with
  | [], _ => h
  | _, none => setJdp h (fun j => { j with emergencies := merase j.emergencies n })
  | e :: r, some p =>
    if p.ctx == .usb && usbWaits h then h
    else
    let h := setJdp h (fun j => { j with emergencies := mset j.emergencies n r, inhibited := insertNew j.inhibited n })
    sendPdu h p (ownPdu h 0x09 0x7F e.data)

/-! Datagrams, transfers and the mailbox (R87-R89, R512) -/

/-- R512: the PDUs of a datagram or USB transfer, and whether the rest of it is discarded. (DEDUCED, log 15) -/
def unwrap : Nat → List Byte → List Pdu × Bool
  | 0, _ => ([], false)
  | n + 1, bs =>
    if bs.isEmpty then ([], false)
    else
      let len := ((bs[4]?).getD 0).toNat
      let whole := 8 + (len + 3) / 4 * 4
      if bs.length < 8 || len > 64 || bs.length < whole then ([], true)
      else
        let (ps, bad) := unwrap n (bs.drop whole)
        (pduOf (leNat (bs.take 4)) ((bs.drop 8).take len) :: ps, bad)

/-- R512: the PDUs are served in order. An OUT endpoint without a carve-out answers with STALL (R324). Of a datagram above 1,472 bytes, or a
transfer above 4,096 (R87), the manual names no outcome: the model serves its PDUs. (DESIGN CHOICE, log 49) -/
def receiveAll (m : List Host.Cell) (h : Hub) (peer : Peer) (bs : List Byte) : Hub :=
  if !carrierUp h peer then h
  else if peer.ctx == .usb && outOfService h epmUnit then send h (.usb "err" [1] [])
  else if peer.ctx == .usb && unitsOf h 0x02 == 0 then send h (.usb "stall" [1] [])
  else
    let (ps, bad) := unwrap (bs.length / 8 + 1) bs
    let h := forEach ps h (fun h p => receive m h peer p)
    whenH bad h (fun h => bump h Obj.DISCARDED)

/-- R87: a UDP datagram to port 47400. (DEDUCED, log 16) -/
def udpDatagram (m : List Host.Cell) (h : Hub) (mac srcIp srcPort dstIp vlan : Nat) (bs : List Byte) : Hub :=
  if dstIp == getN h Obj.UDP_IPV4_ADDRESS && vlan == getN h Obj.UDP_VLAN && bitOf (getN h Obj.UDP_MACS) mac && macRuns h mac then
    receiveAll m h { ctx := .udp, ip := srcIp, udpPort := srcPort, mac := mac } bs
  else h

/-- R87: an ARP request for the hub's address. (DEDUCED, log 16) -/
def arpRequest (h : Hub) (mac target senderIp senderMac : Nat) : Hub :=
  if h.jdp.reachable && getB h Obj.UDP_ENABLE && carrierServed h .udp && target == getN h Obj.UDP_IPV4_ADDRESS
      && bitOf (getN h Obj.UDP_MACS) mac && macRuns h mac then
    send h (.arp mac senderIp (leNat (Tab.macAddress 6)) senderMac)
  else h

/-- R23: a read that is addressed to F0 while it is isolated: it completes at once, with an error. -/
def f0Isolated (h : Hub) : Bool := outOfService h (fnUnit 0) && !h.pcie.inReset.contains 0

/-- R240: F0 answers on its BARs: it is out of reset, and in service. (DEDUCED, log 17) -/
def f0On (h : Hub) : Bool := inService h (fnUnit 0) && !h.pcie.inReset.contains 0 && carrierServed h .bar0 && h.jdp.reachable

/-- R88: what the host wrote ahead of a pointer. (DEDUCED, log 16) -/
def mailboxSetup (h : Hub) (x : MailboxSetup) : Hub :=
  { h with mbx := { h.mbx with
    control := match x.control with
      | some v => v % 4
      | none => h.mbx.control
    h2d := x.ring.foldl (fun m w => if w.1 < 32768 then mset m w.1 w.2 else m) h.mbx.h2d } }

/-- R89: the hub reads the host-to-hub ring up to H2D_PRODUCER. (DEDUCED, log 16) -/
def readRing (m : List Host.Cell) : Nat → Hub → Hub
  | 0, h => h
  | n + 1, h =>
    let c := h.mbx.h2dConsumer
    let prod := h.mbx.h2dProducer
    if c == prod then h
    else
      let limit := if prod > c then prod else 32768
      let bytes (k : Nat) : List Byte := (List.range k).map (fun j => mget h.mbx.h2d 0 (c + j))
      let len := ((bytes 8)[4]?).getD 0 |>.toNat
      let whole := 8 + (len + 3) / 4 * 4
      let bad := { h with mbx := { h.mbx with status := h.mbx.status ||| 1, h2dConsumer := prod } }
      if prod < c && leNat (bytes 4) == 0 then readRing m n { h with mbx := { h.mbx with h2dConsumer := 0 } }
      else if c + 8 > limit || len > 64 || c + whole > limit then bad
      else
        let p := pduOf (leNat (bytes 4)) ((bytes whole).drop 8 |>.take len)
        let h := { h with mbx := { h.mbx with h2dConsumer := (c + whole) % 32768 } }
        readRing m n (receive m h { ctx := .bar2 } p)

/-- R89: a write of H2D_PRODUCER. -/
def writeProducer (m : List Host.Cell) (h : Hub) (x : MailboxSetup) (v : Nat) : Hub :=
  if !f0On h then h
  else
    let h := mailboxSetup h x
    if v % 4 != 0 || v > 32764 then { h with mbx := { h.mbx with status := h.mbx.status ||| 4 } }
    else
      let h := { h with mbx := { h.mbx with h2dProducer := v } }
      if bitOf h.mbx.control 0 then readRing m 4097 h else h

/-- R89: a write of D2H_CONSUMER. -/
def writeConsumer (h : Hub) (x : MailboxSetup) (v : Nat) : Hub :=
  if !f0On h then h
  else
    let h := mailboxSetup h x
    if v % 4 != 0 || v > 32764 || ringUsed h.mbx.d2hProducer v > ringUsed h.mbx.d2hProducer h.mbx.d2hConsumer then
      { h with mbx := { h.mbx with status := h.mbx.status ||| 4 } }
    else { h with mbx := { h.mbx with d2hConsumer := v } }

/-- R88: a read of MBX_STATUS. -/
def readMailboxStatus (h : Hub) : Hub :=
  if f0Isolated h then send h .errorCompletion
  else if !f0On h then h else send { h with mbx := { h.mbx with status := 0 } } (.completion h.mbx.status)

/-! The BAR 0 window (R63-R66) -/

/-- R65: the window's own page. -/
def pageRead (h : Hub) (off size : Nat) : Nat × Hub :=
  let w := match off / 4 % 256 with
    | 0 => h.bar0.wideHigh
    | 1 => h.bar0.abortCode
    | 2 => h.bar0.abortAddress
    | 3 => h.bar0.abortCount
    | _ => 0
  if !oneSlot off size then (0, h)
  else
    let h := if off / 4 % 256 == 1 && off % 4 + size == 4 then { h with bar0 := { h.bar0 with abortCode := h.bar0.abortCode % 0x80000000 } } else h
    (w / 256 ^ (off % 4) % 256 ^ size, h)

/-- R65, R64: a write to the window's own page. Of a write of part of WIDE_HIGH, and of an access to this page that spans two slots,
R63 would latch 0x06/0x03 or 0x06/0x01 where R65 says that none of its accesses latches an abort: the model discards the write,
reads 0 and latches none. (DESIGN CHOICE, log 49) -/
def pageWrite (h : Hub) (off size : Nat) (data : List Byte) : Hub :=
  let v := leNat (data.take 4)
  if off == 0x3FFFC00 && size == 4 then { h with bar0 := { h.bar0 with wideHigh := v, wideWritten := v } } else h

/-- A read that ends with an abort (R66). -/
def barAbortRead (h : Hub) (i s : Nat) (a : Abort) : Hub := send (latchAbort h i s a) (.completion 0)

/-- R63, R64: a read of a slot. -/
def slotRead (h : Hub) (off size : Nat) : Hub :=
  let i := slotIdx off
  let s := slotSub off
  let src : Src := { ctx := .bar0 }
  let reach := match rowAt i s with
    | some r => slotReach r.ty
    | none => true
  let size6 : Option Abort := if oneSlot off size && reach then none else some .tooLong
  let ahead := (readable i s).orElse (fun _ => size6)
  match (earlyCheck h i s none ahead).orElse (fun _ => ahead), sleepingDomain h .bar0 i s with
    | some a, _ => barAbortRead h i s a
    | none, some d => barAbortRead (wakeDomain h d .dictionary) i s .notOn
    | none, none =>
      match dictRead h src i s with
      | .abort a => barAbortRead h i s a
      | .done => send h (.completion 0)
      | .data bs =>
        let t := (readObj h .bar0 i s).1
        let h := if t.size == 8 then { h with bar0 := { h.bar0 with wideHigh := leNat (bs.drop 4) } } else h
        send h (.completion (leNat (((slotBytes t bs).drop (off % 4)).take size)))

/-- R63, R64: a write of a slot. (DEDUCED, log 17) -/
def slotWriteBar (m : List Host.Cell) (h : Hub) (off size : Nat) (data : List Byte) : Hub :=
  let i := slotIdx off
  let s := slotSub off
  let src : Src := { ctx := .bar0 }
  let val : List Byte := match rowAt i s with
    | some r => data.take r.ty.size
    | none => []
  let refuse (a : Abort) : Hub := latchAbort h i s ((aheadCheck h src i s val).getD a)
  if !oneSlot off size || size != 4 then refuse .partialBar0
  else match earlyCheck h i s (some val) ((aheadCheck h src i s val).orElse (fun _ => match rowAt i s with
      | some r => if slotReach r.ty then none else some .tooLong
      | none => none)), rowAt i s with
    | some a, _ => latchAbort h i s a
    | none, none => refuse .readOnly
    | none, some r =>
      if !slotReach r.ty then refuse .tooLong
      else match sleepingDomain h .bar0 i s with
        | some d => latchAbort (wakeDomain h d .dictionary) i s .notOn
        | none =>
          match slotWrite r.ty (data.take 4) (leBytes 4 h.bar0.wideWritten) with
          | .ok bs => serve m h src i s (some bs) none (.bar0 i s)
          | .error a =>
            refuse ((idleCheck h i s (posOf h .bar0 i) r (toVal r.ty (data.take r.ty.size))).getD a)

/-- R63-R66: an access to BAR 0; while F0 is isolated a read completes with an error, and a write is discarded (R23). (DEDUCED, log 12, 17) -/
def barAccess (m : List Host.Cell) (h : Hub) (write : Bool) (off size : Nat) (data : List Byte) : Hub :=
  if f0Isolated h then (if write then h else send h .errorCompletion)
  else if !f0On h then h
  else if slotIdx off == 0xFFFF then
    if write then pageWrite h off size data
    else
      let (v, h) := pageRead h off size
      send h (.completion v)
  else if write then slotWriteBar m h off size data
  else slotRead h off size

end Sys2Proof.Machine
end

