-- ==== Sys2Proof/Machine/Bars.lean ====
section
/-! DEFINITION. Memory and configuration requests that reach the PCIe switch and its functions: BAR 0 and BAR 2 of F0 (R63, R88), the
queue pair registers of F1 (R508), F2's ingest registers (R269), F3's counters, and the MSI-X tables of BAR 4 (R240). -/

namespace Sys2Proof.Machine

/-! Registers and rings behind the BARs -/

/-- R508, R88: a naturally aligned access of 4 bytes. -/
def aligned4 (off n : Nat) : Bool := off % 4 == 0 && n == 4

/-- R88: a register of BAR 2; reading MBX_STATUS clears it. -/
def mailboxReg (h : Hub) (off : Nat) : Nat × Hub :=
  match off with
  | 0x00 => (h.mbx.control, h)
  | 0x04 => (h.mbx.h2dProducer, h)
  | 0x08 => (h.mbx.h2dConsumer, h)
  | 0x0C => (h.mbx.d2hProducer, h)
  | 0x10 => (h.mbx.d2hConsumer, h)
  | 0x14 => (h.mbx.status, { h with mbx := { h.mbx with status := 0 } })
  | _ => (0, h)

/-- R88: a read of BAR 2: the registers, the two rings, and 0 elsewhere. Of an access to the registers that is no aligned one of 4 bytes
the manual names no outcome: the model returns zeros, leaves MBX_STATUS, and discards a write. (DESIGN CHOICE, log 49) -/
def mailboxRead (h : Hub) (off n : Nat) : List Byte × Hub :=
  if off < 0x18 then
    if aligned4 off n then
      let (v, h) := mailboxReg h off
      (leBytes 4 v, h)
    else (List.replicate n 0, h)
  else
    let byte (a : Nat) : Byte :=
      if 0x1000 ≤ a && a < 0x9000 then mget h.mbx.h2d 0 (a - 0x1000)
      else if 0x9000 ≤ a && a < 0x11000 then mget h.mbx.d2h 0 (a - 0x9000) else 0
    ((List.range n).map (fun i => byte (off + i)), h)

/-- R88: a write of BAR 2. -/
def mailboxWrite (m : List Host.Cell) (h : Hub) (off : Nat) (bs : List Byte) : Hub :=
  if off < 0x18 then
    if !aligned4 off bs.length then h
    else match off with
      | 0x00 => mailboxSetup h { control := some (leNat bs), ring := [] }
      | 0x04 => writeProducer m h { control := none, ring := [] } (leNat bs)
      | 0x10 => writeConsumer h { control := none, ring := [] } (leNat bs)
      | _ => h
  else
    let ring := ((List.range bs.length).zip bs).filterMap (fun x =>
      if 0x1000 ≤ off + x.1 && off + x.1 < 0x9000 then some (off + x.1 - 0x1000, x.2) else none)
    if ring.isEmpty then h else mailboxSetup h { control := none, ring := ring }

/-- R508: a read of F1's BAR 0: queue pair q at q × 1,024; 0 beyond the registers and beyond NIC_QP_COUNT. -/
def queueRead (h : Hub) (off n : Nat) : List Byte :=
  let q := off / 1024
  let w := off % 1024 / 4
  if !aligned4 off n || !qpExists h q then List.replicate n 0
  else leBytes 4 (if w < 8 then ringReg (mget h.nic.rx {} q) w else if w < 16 then ringReg (mget h.nic.tx {} q) (w - 8) else 0)

/-- R508, R511: a write of F1's BAR 0; F1 goes on with the ring. -/
def queueWrite (h : Hub) (off : Nat) (bs : List Byte) : Hub :=
  let q := off / 1024
  let w := off % 1024 / 4
  let v := leNat bs
  if !aligned4 off bs.length || !qpExists h q then h
  else if w < 8 then { h with nic := { h.nic with rx := mset h.nic.rx q (ringWrite (mget h.nic.rx {} q) w v) } }
  else if w < 16 then txLoop q 4096 { h with nic := { h.nic with tx := mset h.nic.tx q (ringWrite (mget h.nic.tx {} q) (w - 8) v) } }
  else h

/-- Table 14.4: the 32 bytes of a descriptor. -/
def ingDescBytes (d : IngDesc) : List Byte :=
  leBytes 8 d.srcAddr ++ leBytes 4 d.srcPitch ++ leBytes 1 d.surface ++ leBytes 1 d.plane ++ leBytes 2 d.tileX0 ++ leBytes 2 d.tileY0
  ++ leBytes 2 d.tilesW ++ leBytes 2 d.tilesH ++ leBytes 1 d.flags ++ leBytes 1 d.status ++ leBytes 4 d.deferred ++ leBytes 4 d.refused

/-- A byte of F2's ring of 256 descriptors. -/
def ingRingByte (h : Hub) (a : Nat) : Byte := ((ingDescBytes (mget h.coder.ring {} (a / 32)))[a % 32]?).getD 0

/-- R269: a read of F2's BAR 0. -/
def ingestRead (h : Hub) (off n : Nat) : List Byte :=
  if off < 0x0C then
    if aligned4 off n then leBytes 4 (nth [h.coder.control, h.coder.producer, h.coder.consumer] (off / 4) 0) else List.replicate n 0
  else (List.range n).map (fun i => if 0x1000 ≤ off + i && off + i < 0x3000 then ingRingByte h (off + i - 0x1000) else 0)

/-- One byte written into F2's ring. -/
def ingRingPut (h : Hub) (a : Nat) (b : Byte) : Hub :=
  let d := (ingDescBytes (mget h.coder.ring {} (a / 32))).set (a % 32) b
  setCoder h (fun c => { c with ring := mset c.ring (a / 32) (ingDescOf d) })

/-- R269: a write of F2's BAR 0. -/
def ingestWrite (h : Hub) (off : Nat) (bs : List Byte) : Hub :=
  if off < 0x0C then
    if !aligned4 off bs.length then h
    else match off with
      | 0x00 => ingControl h (leNat bs)
      | 0x04 => ingProducer h [] (leNat bs)
      | _ => h
  else
    forEach ((List.range bs.length).zip bs) h (fun h x =>
      if 0x1000 ≤ off + x.1 && off + x.1 < 0x3000 then ingRingPut h (off + x.1 - 0x1000) x.2 else h)

/-- R240: a word of BAR 4: the table of 64 vectors at 0, the PBA at 0x2000. (PRESUMED, log 54) -/
def msixBarWord (h : Hub) (fn w : Nat) : Nat :=
  if w < 256 then msixWord h fn (w / 4) (w % 4)
  else if w == 0x800 || w == 0x801 then
    sumOf (fun i => if h.pcie.pba.contains (fn * 64 + 32 * (w - 0x800) + i) then 2 ^ i else 0) (List.range 32)
  else 0

/-- R240: a read of BAR 4. -/
def msixRead (h : Hub) (fn off n : Nat) : List Byte :=
  (List.range n).map (fun i => BitVec.ofNat 8 (msixBarWord h fn ((off + i) / 4) / 256 ^ ((off + i) % 4)))

/-- R240: a write of BAR 4: whole words of the table. -/
def msixWrite (h : Hub) (fn off : Nat) (bs : List Byte) : Hub :=
  if off % 4 != 0 || bs.length % 4 != 0 then h
  else
    let h := forEach (List.range (bs.length / 4)) h (fun h i =>
      let w := off / 4 + i
      let v := leNat ((bs.drop (4 * i)).take 4)
      if w < 256 then setPcie h (fun p => { p with msix := mset p.msix (fn * 256 + w) (if w % 4 == 3 then v % 2 else v) }) else h)
    msixFlush h fn

/-! Accesses of a function -/

/-- What the newest completion of a BAR 0 read says, taken out of what has been sent. -/
def takeCompletion (h : Hub) : Nat × Hub :=
  match h.out with
  | .completion v :: r => (v, { h with out := r })
  | _ => (0, h)

/-- R240, Table 13.2: a read of a BAR. What F3's counters hold the manual does not say: free values. (DESIGN CHOICE, log 8) -/
def barRead (m : List Host.Cell) (h : Hub) (fn bar off n : Nat) : List Byte × Hub :=
  if bar == 4 then (msixRead h fn off n, h)
  else match fn with
    | 0 =>
      if bar == 2 then (if f0On h then mailboxRead h off n else (List.replicate n 0, h))
      else if !f0On h then (List.replicate n 0, h)
      else
        let (v, h) := takeCompletion (barAccess m h false off n [])
        (leBytes n v, h)
    | 1 => (queueRead h off n, h)
    | 2 => (ingestRead h off n, h)
    | _ => ((List.range n).map (fun i => Config.telemetry (off + i) h.fresh), tick h)

/-- R240, Table 13.2: a write of a BAR. -/
def barWrite (m : List Host.Cell) (h : Hub) (fn bar off : Nat) (bs : List Byte) : Hub :=
  if bar == 4 then msixWrite h fn off bs
  else match fn with
    | 0 => if bar == 2 then (if f0On h then mailboxWrite m h off bs else h) else barAccess m h true off bs.length bs
    | 1 => queueWrite h off bs
    | 2 => ingestWrite h off bs
    | _ => h

/-- PCI Express: the first byte that byte enables select, and the one after the last. -/
def firstByte (be : Nat) : Nat := ((List.range 4).find? (bitOf be)).getD 4
def lastByte (be : Nat) : Nat := match (List.range 4).reverse.find? (bitOf be) with
  | some i => i + 1
  | none => 0

/-- PCI Express: where in its words a memory request begins, and how many bytes it names. -/
def tlpSpan (x : Headers) : Nat × Nat :=
  let n := if x.lenDw == 0 then 1024 else x.lenDw
  let a := firstByte (x.byteEn % 16)
  let b := if n == 1 then lastByte (x.byteEn % 16) else 4 * (n - 1) + lastByte (x.byteEn / 16 % 16)
  (a % 4, b - a)

/-- PCI Express: a read is answered by completions of at most 512 bytes (R241), each saying where its bytes begin and how many are still
to come. -/
def readReply (src : Nat) (x : Headers) : Nat → Nat → Hub → List Byte → Hub
  | 0, _, h, _ => h
  | k + 1, a, h, bs =>
    let n := 512 - a % 4
    let f := completionOf x 0 (bs.take n) a
    let h := toPort h src { f with hdr := { f.hdr with byteCount := max 1 bs.length } }
    if bs.length ≤ n then h else readReply src x k (a + n) h (bs.drop n)

/-- R239, R240: a TLP reaches F0 to F3. Reads are answered; what is no memory read or write is not supported. -/
def functionTlp (m : List Host.Cell) (h : Hub) (src : Nat) (f : Frame) : Hub :=
  let x := f.hdr
  let (a, n) := tlpSpan x
  if tlpClass x == 2 || 16 ≤ x.fmtType % 32 then h
  else match barOf h (x.address / 4 * 4 + a) with
    | none => unsupported h src f
    | some (fn, bar, off) =>
      if x.fmtType % 32 != 0 then unsupportedAt h fn src f
      else if bitOf x.fmtType 6 then barWrite m h fn bar off ((f.bytes.drop a).take n)
      else
        let (bs, h) := if n == 0 then ([0, 0, 0, 0], h) else barRead m h fn bar off n
        if src == 6 then
          (match routeId h 6 x.requester with
            | .port p => readReply p x 9 (x.address / 4 * 4 + a) h bs
            | _ => h)
        else readReply src x 9 (x.address / 4 * 4 + a) h bs

/-! Configuration requests (R240) -/

/-- R240, R484: a space that answers: a function that the part has and that is out of reset, or a port of a switch whose upstream link is
up. On the BW-7720, F2 is not present. -/
def spaceAnswers (h : Hub) (s : Nat) : Bool :=
  if s < 4 then inService h (fnUnit s) && !h.pcie.inReset.contains s
  else !h.pcie.inReset.contains 0 && h.part.has (crUnit (s - 4))

/-- R240, R241: what a configuration read finds; an NV port's link status reads its speed and width, and its slot status whether there is a
drive, which the model takes from the link. -/
def configValue (h : Hub) (s reg : Nat) : Nat :=
  let v := cfgGet h s reg
  if (s == 5 || s == 6) && reg / 4 * 4 == 0x50 then
    let speed := getN h (Obj.NV_LINK_SPEED (s - 5))
    v % 2 ^ 16 + (speed + 16 * getN h (Obj.NV_LINK_WIDTH (s - 5)) + (if speed == 0 then 0 else 2 ^ 13)) * 2 ^ 16
  else if s == 0 && (doeRead h (reg / 4 * 4)).isSome then (doeRead h (reg / 4 * 4)).getD 0
  else if (s == 5 || s == 6) && reg / 4 * 4 == 0x58 then v ||| (if getN h (Obj.NV_LINK_SPEED (s - 5)) == 0 then 0 else 2 ^ 22)
  else v

/-- R240, R224: a write of configuration space: Function Level Reset, a reset of the internal bus, Bus Master Enable and MSI-X have their
effects; F1 takes up its rings when it may master the bus. (DEDUCED, log 31) -/
def pcieConfigWrite (h : Hub) (s reg v : Nat) : Hub :=
  if !spaceAnswers h s then h
  else
    let r := reg / 4 * 4
    let h' := cfgPut h s r (cfgWritten (cfgRow s r) (cfgGet h s r) (v % 2 ^ 32))
    let h' := whenH (5 ≤ s && (r == 4 || r == 0x58)) h' (fun h' => followSlot h h' s)
    if s < 4 && r == 0x48 && bitOf v 15 then functionReset h' s
    else if s == 0 && 0x168 ≤ r && r ≤ 0x174 then doeWrite h r (v % 2 ^ 32)
    else if s == 4 && r == 0x3C && bitOf v 22 then forEach (List.range 4) h' functionReset
    else
      let h'' := if s < 4 && (r == 4 || r == 0xB0) then msixFlush h' s else h'
      if s == 1 && busMaster h' 1 && !busMaster h 1 then txAll h'' else h''

/-- A configuration request to a space of the switch. -/
def configTlp (h : Hub) (s : Nat) (f : Frame) : Hub :=
  let x := f.hdr
  let reg := x.address % 4096 / 4 * 4
  if !spaceAnswers h s then unsupported h 0 f
  else if bitOf x.fmtType 6 then
    let old := leBytes 4 (configValue h s reg)
    let new := (List.range 4).map (fun i => (if bitOf x.byteEn i then f.bytes else old)[i]?.getD 0)
    complete (pcieConfigWrite h s reg (leNat new)) 0 x 0 []
  else complete h 0 x 0 (leBytes 4 (configValue h s reg))

/-! The switch -/

/-- R14, R239: a TLP reaches the switch from a link port: the host's accesses of F0 to F3 and of configuration space are served, all
else goes on. One whose payload is too long is malformed (R241). -/
def tlpArrives (m : List Host.Cell) (h : Hub) (src : Nat) (f : Frame) : Hub :=
  if !payloadOk f then switchAsh (aerNote h (4 + src) 18 (some f.hdr)) src f.len
  else match route h src f.hdr with
    | .endpoint => if src == 0 then functionTlp m h 0 f else switchForward h src f
    | .config s => configTlp h s f
    | _ => switchForward h src f

end Sys2Proof.Machine
end

