-- ==== Sys2Proof/WellFormed.lean ====
section
/-! DEFINITION. Which commands name something that the hub has wires for. Everything that the spec gives an answer to (an
object that does not exist, a value out of range, a frame with a bad check) is well-formed: the hub answers it. -/

namespace Sys2Proof

/-- R74: the fields of an identifier fit their bits, and the data a CAN FD frame. -/
def Pdu.wf (p : Pdu) : Bool :=
  p.func < 32 && p.source < 128 && p.dest < 128 && p.seq < 16 && p.segment < 64 && p.data.length ≤ 64

/-- R87: a peer of a carrier: an IPv4 address, a UDP port and one of the six MACs. -/
def Peer.wf (p : Peer) : Bool := p.ip < 2 ^ 32 && p.udpPort < 2 ^ 16 && p.mac < 6

/-- R73: a transfer's identity. -/
def TransferId.wf (t : TransferId) : Bool := t.peer.wf && t.node < 128 && t.seq < 16

/-- R13: a frame has at least one byte, and no more content than its length. -/
def Frame.wf (f : Frame) : Bool := 1 ≤ f.len && f.bytes.length ≤ f.len

/-- R91: an error lies in a word that an address can name. -/
def EccError.wf (e : EccError) : Bool := e.group < 32 && e.bank < 8 && e.row < 16384

/-- R443: a request is 1 to 128 words from a word's address, a write with 32 bytes for each. -/
def PortBRequest.wf (r : PortBRequest) : Bool :=
  1 ≤ r.words && r.words ≤ 128 && r.addr % 32 == 0 && r.master < 65536
    && (!r.write || r.data.length == 32 * r.words) && r.ecc.all EccError.wf

/-- R43: an index of 16 bits and a sub-index of 8. -/
def objWf (idx sub : Nat) : Bool := idx < 65536 && sub < 256

/-- R63: a read or write of BAR 0 lies within its 64 MiB; PCI Express takes at most 4,096 bytes at once. -/
def barWf (offset size : Nat) : Bool := offset < 2 ^ 26 && 1 ≤ size && size ≤ 4096

/-- R357: the lanes are L0 to L41. -/
def laneWf (l : Nat) : Bool := l < 42

/-- Table 2.4: the six MACs, four USB4 ports, four heads with four layers, three outputs, two NV ports. -/
def macWf (m : Nat) : Bool := m < 6
def usb4Wf (k : Nat) : Bool := k < 4
def headWf (h : Nat) : Bool := h < 4
def outWf (o : Nat) : Bool := o < 3
/-- An output, or a DN port in DisplayPort alternate mode by its adapter (R304). -/
def sinkWf (o : Nat) : Bool := outWf o || (20 ≤ o && o ≤ 22)
def nvWf (k : Nat) : Bool := k < 2

/-- R13: 32 Grate ports; Table 21.1: 64 domains; Table 21.3: four released rails; Table 24.1: sixteen Guards. -/
def portWf (p : Nat) : Bool := p < 32
def domainWf (d : Nat) : Bool := d < 64
def railWf (r : Nat) : Bool := r < 4
def guardWf (g : Nat) : Bool := g < 16

/-- R335: the PD ports are PD0 to PD3; R317: the USB ports 1 to 7. -/
def pdWf (p : Nat) : Bool := p < 4
def usbPortWf (p : Nat) : Bool := 1 ≤ p && p ≤ 7

/-- The well-formed commands. (DESIGN CHOICE, log 4) -/
def Instr.wf : Instr → Bool
  | .objectWrite _ idx sub _ => objWf idx sub
  | .windowCommit _ idx => objWf idx 0
  | .commitDiscard _ idx => objWf idx 0
  | .flagClear _ idx sub => objWf idx sub
  | .peakRestart _ idx sub => objWf idx sub
  | .bar0Access write offset size data => barWf offset size && (!write || data.length == size)
  | .wideRead offset => barWf offset 4
  | .abortCodeRead => true
  | .store _ _ => true
  | .restoreDefaults _ _ => true
  | .storeDone _ => true
  | .unitQuarantine _ unit => unit < 65536
  | .unitRelease _ unit => unit < 65536
  | .unitReset _ unit => unit < 65536
  | .unitFault fault => fault.unit < 65536
  | .regionUndervoltage region => region < 8
  | .readRequest peer pdu => peer.wf && pdu.wf
  | .writeRequest peer pdu => peer.wf && pdu.wf
  | .writeSegment peer pdu => peer.wf && pdu.wf
  | .blockSegment peer pdu => peer.wf && pdu.wf
  | .blockAcknowledgement peer pdu => peer.wf && pdu.wf
  | .clientAbort peer pdu => peer.wf && pdu.wf
  | .windowBulkRequest peer pdu => peer.wf && pdu.wf
  | .heartbeatReceived peer pdu => peer.wf && pdu.wf
  | .timeBroadcastReceived peer pdu => peer.wf && pdu.wf
  | .segmentGapTimeout tid => tid.wf
  | .blockAckTimeout tid => tid.wf
  | .heartbeatPeriod => true
  | .managerTimeout => true
  | .timePeriod => true
  | .emergencyInhibit _ => true
  | .canBusOff => true
  | .udpDatagram mac srcIp srcPort dstIp vlan _ =>
    macWf mac && srcIp < 2 ^ 32 && srcPort < 2 ^ 16 && dstIp < 2 ^ 32 && vlan < 4096
  | .arpRequest mac target senderIp senderMac =>
    macWf mac && target < 2 ^ 32 && senderIp < 2 ^ 32 && senderMac < 2 ^ 48
  | .usbVendorTransfer _ => true
  | .h2dProducer _ _ => true
  | .d2hConsumer _ _ => true
  | .mbxStatusRead => true
  | .functionReset fn => fn < 4
  | .frameIngress port frame => portWf port && frame.wf
  | .grateStep faults => faults.ecc.all EccError.wf && faults.seqBad.all portWf
  | .eccWriteBack _ group => group < 32
  | .patrolScrub errors => errors.all EccError.wf
  | .portBRequest req => req.wf
  | .violationRecord => true
  | .auditStart _ _ => true
  | .auditInterval => true
  | .auditDone => true
  | .reliefRowTake group row => group < 32 && row < 16384
  | .releaseDecision port => portWf port
  | .frameRelease port => portWf port
  | .egressLaunch port => portWf port
  | .gateEntryAdvance port => portWf port
  | .configChange _ _ => true
  | .gateSwap port => portWf port
  | .subscriberCommit _ => true
  | .shaperCommit _ _ => true
  | .portEnable _ port _ => portWf port
  | .portDown port _ => portWf port
  | .portFlushDone port => portWf port
  | .portUp port => portWf port
  | .mirrorReentry => true
  | .flowEntryCommit _ _ => true
  | .multicastCommit _ => true
  | .policerCommit _ => true
  | .profileWrite _ sub _ => sub == 2 || sub == 3
  | .configSpaceWrite _ _ _ => true
  | .pathEnable _ => true
  | .pathDisable usbPort _ => usb4Wf usbPort
  | .creditGrant usbPort _ => usb4Wf usbPort
  | .creditArrival usbPort _ _ => usb4Wf usbPort
  | .upLinkLost => true
  | .dnLinkLost usbPort => 1 ≤ usbPort && usbPort < 4
  | .usb4LinkUp usbPort _ _ _ _ => usb4Wf usbPort
  | .linkNarrowing usbPort kept => usb4Wf usbPort && kept.lane < 2
  | .asymmetricTransition usbPort shape _ _ => usb4Wf usbPort && 1 ≤ shape.lanes && shape.lanes ≤ 2
  | .usb4Fallback usbPort gen => usb4Wf usbPort && gen < 3
  | .bandwidthAllocationRequest _ _ => true
  | .allotmentPass _ => true
  | .allotmentLimitWrite _ sub _ => sub == 3 || sub == 4
  | .envelopeCommit _ _ => true
  | .enginePrewake => true
  | .macRxFrame mac frame _ _ => macWf mac && frame.wf
  | .pauseFrame mac quanta => macWf mac && quanta < 65536
  | .pauseExpiry mac => macWf mac
  | .macLinkLost mac => macWf mac
  | .macMode _ mac _ => macWf mac
  | .saCommit _ mac => macWf mac
  | .msTxAn _ mac _ => macWf mac
  | .rxqTail _ _ _ => true
  | .txqTail _ _ _ => true
  | .timeOffsetMeasure _ reading => reading.rate.natAbs ≤ 1000000 && reading.mac.all (· < 6)
  | .timeSourceLost _ => true
  | .timeSourceTakeover _ => true
  | .timePriority _ _ => true
  | .nvLinkUp nv _ _ => nvWf nv
  | .nvRetrain nv _ => nvWf nv
  | .nvRemoval nv => nvWf nv
  | .updateFc port type _ => port < 6 && type < 6
  | .surfaceCommit _ => true
  | .ingControl _ => true
  | .ingProducer descs _ => descs.all (fun d => d.1 < 256 && d.2.length == 32)
  | .ingestDescriptor => true
  | .tileCode surface plane _ _ => surface < 256 && plane < 4
  | .precodedRecord surface plane _ _ _ => surface < 256 && plane < 4
  | .tileRetry surface => surface < 256
  | .interlockResume surface plane _ => surface < 256 && plane < 4
  | .headLineStart start => headWf start.head && start.ecc.all EccError.wf
  | .layerUnderrun head layer plane => headWf head && layer < 4 && plane < 4
  | .hPresent _ head _ => headWf head
  | .teCEdge => true
  | .hEnable _ head _ => headWf head
  | .hTiming _ head _ => headWf head
  | .hSyncMode _ head _ => headWf head
  | .timingCommit _ => true
  | .formatCommit _ => true
  | .lSurface _ head layer _ => headWf head && layer < 4
  | .slotCommit _ => true
  | .hotPlug output _ => sinkWf output
  | .trainingDone output _ _ => sinkWf output
  | .hotUnplug output => sinkWf output
  | .hpdIrq output _ => sinkWf output
  | .relink output _ => outWf output
  | .auxRequest _ _ => true
  | .auxTimeout output => outWf output
  | .streamStarved _ => true
  | .streamResume _ => true
  | .streamHoldExpiry _ => true
  | .startSplit port _ => usbPortWf port
  | .completeSplit port _ => usbPortWf port
  | .clearTtBuffer port _ _ => usbPortWf port
  | .usbPortReset _ port => 1 ≤ port && port ≤ 8
  | .usbBusReset => true
  | .usb3HotReset => true
  | .controlStatusAck _ => true
  | .setInterface _ => true
  | .telemetryMicroframe _ => true
  | .carveOutCommit _ => true
  | .hostResume => true
  | .remoteWake port => usbPortWf port
  | .u3Exit port _ => usbPortWf port
  | .pdAttach partner => pdWf partner.port
  | .pdDetach port => pdWf port
  | .pdRequest port _ _ => pdWf port
  | .contractPsRdy port => pdWf port
  | .cutTimeout port => pdWf port
  | .pbWrite _ idx sub _ => objWf idx sub
  | .prSwap port _ => pdWf port
  | .drSwap port _ => pdWf port
  | .vconnSwap port => pdWf port
  | .swapSend port _ _ => pdWf port
  | .hardReset port _ => pdWf port
  | .vbusSafe0V port => pdWf port
  | .adapterOkLow => true
  | .frsVbusArrival => true
  | .frsVbusTimeout => true
  | .frSwapComplete => true
  | .ioutReading _ => true
  | .adapterOkReturn => true
  | .prSwapRetry _ => true
  | .stageFault ports => ports.all pdWf
  | .txFfeWrite _ lane _ => laneWf lane
  | .ffeRampStep lane => laneWf lane
  | .dfeAdaptStep receiver _ => laneWf receiver.lane
  | .ctleAdaptStep receiver _ => laneWf receiver.lane
  | .rxAdapt _ lane _ => laneWf lane
  | .eyeScanDone lane _ _ => laneWf lane
  | .laneSleepRequest lane _ _ => laneWf lane
  | .laneExit lane _ => laneWf lane
  | .lnEnable _ lane _ => laneWf lane
  | .lnLoop _ lane _ => laneWf lane
  | .prbsTx _ lane _ => laneWf lane
  | .prbsRx _ lane _ => laneWf lane
  | .prbsInject _ lane _ => laneWf lane
  | .laneLockLost lane => laneWf lane
  | .reacquireTimeout lane => laneWf lane
  | .laneRelock lane => laneWf lane
  | .paceReading _ _ _ _ => true
  | .bellowsStep => true
  | .flare _ => true
  | .avsResponse => true
  | .avsTimeout => true
  | .avsFaultRetry => true
  | .bwCeiling => true
  | .emberEntry domain => domainWf domain
  | .offEntry domain => domainWf domain
  | .dmRequestSleep _ domain => domainWf domain
  | .dmRequestWake _ domain => domainWf domain
  | .dmWakeTimer domain => domainWf domain
  | .domainWake domain _ _ _ => domainWf domain
  | .railRelease rail => railWf rail
  | .railPowerGood rail => railWf rail
  | .railTimeout rail => railWf rail
  | .tyvelLaneBlock blocks => blocks.length ≤ 4
  | .train lane _ _ => laneWf lane
  | .tyvelLinkUp lanes => lanes.all laneWf
  | .tyvelLaneRejoin lane => laneWf lane
  | .attest _ => true
  | .mgmt _ pdu => pdu.wf
  | .mirror _ _ _ => true
  | .mirrorAck _ _ => true
  | .mirrorResend => true
  | .protectedFrame _ _ _ _ frame => frame.wf
  | .tileRecords _ _ _ => true
  | .commit _ _ _ _ => true
  | .applyTime => true
  | .phase _ _ _ => true
  | .time _ moment _ => moment.source < 4
  | .state _ _ => true
  | .statePeriod => true
  | .equinox _ _ _ => true
  | .rekey _ _ _ => true
  | .rekeyDue => true
  | .twinAliveToggle => true
  | .tokenClaim _ => true
  | .twinFaultDetect _ _ _ => true
  | .demotion _ => true
  | .pair _ => true
  | .unpair _ => true
  | .plannedEquinox _ => true
  | .equinoxTime => true
  | .catchUpDone => true
  | .lockstepEntry _ => true
  | .generate _ => true
  | .importKey _ => true
  | .derive _ => true
  | .exportWrapped _ => true
  | .erase _ => true
  | .makePersistent _ _ => true
  | .sign _ => true
  | .macOp _ => true
  | .keyPropertyStatement _ => true
  | .keyOperationDone _ => true
  | .spdmRequest _ _ => true
  | .entropyFault _ => true
  | .tamper _ => true
  | .gCommitShadow _ guard => guardWf guard
  | .gCommitCopy _ guard => guardWf guard
  | .epochDrained guard => guardWf guard
  | .healthReport code unit => code < 65536 && unit < 65536
  | .healthRowClear row unit => row < 256 && unit < 65536
  | .healthTableCommit _ => true
  | .mapoutClear _ _ => true
  | .powerOn _ => true
  | .resetN _ _ => true
  | .watchdog => true
  | .hubReset _ _ => true
  | .fwImage _ _ => true
  | .imageProgrammed _ => true
  | .fwActivate _ _ => true
  | .fwAccept _ _ => true
  | .fwPermitUntested _ _ => true
  | .fwTrialTime => true
  | .powerLoss => true
  | .wakeTimeout domain => domainWf domain
  | .prbsSyncGained lane => laneWf lane
  | .prbsSyncLost lane _ _ => laneWf lane
  | .discoverIdentity port _ _ => pdWf port
  | .eprModeEntry port => pdWf port
  | .alternateModeEntry usbPort pins => 1 ≤ usbPort && usbPort < 4 && pins.rate ≤ 20000000
  | .alternateModeExit usbPort => 1 ≤ usbPort && usbPort < 4
  | .sinkCapabilities _ => true
  | .suspend => true
  | .u3Entry => true
  | .portConnect port _ => usbPortWf port
  | .portDisconnect port => usbPortWf port
  | .streamStart adapter stream _ => adapter < 256 && stream < 4
  | .pcieConfigWrite fn reg _ => fn < 10 && reg < 4096
  | .junctionOvertemperature => true

end Sys2Proof
end

