-- ==== Sys2Proof/Machine/Drain.lean ====
section
/-! DEFINITION. What the rest of the hub does before the next command: the reactions that a command asked for, in the order in which
they arose, what follows from the state that it left, and how a command runs: `runCmd`. -/

namespace Sys2Proof.Machine

/-! Frames that reach an attached unit (R13, R112) -/

/-- R416: a protected egress point: the PCIe switch's internal port, and the MACs that TW_MAC_PROTECT names. -/
def protectPoint (h : Hub) (port : Nat) : Bool :=
  port == 13 || (7 ≤ port && port ≤ 12 && bitOf (getN h Obj.TW_MAC_PROTECT) (port - 7))

/-- R13, R112, R198: the PCIe switch takes what GP13 delivers: a frame for F1's rings, a TLP that a tunnel packet completes or that a
drive sent, or one that the switch itself sent on to F0 to F3. -/
def switchTake (m : List Host.Cell) (h : Hub) (q : Nat) (f : GFrame) : Hub :=
  match queuePair h (qSub q), f.frame.tlp, pathOfSub h (qSub q) with
  | some qp, _, _ => nicRx h qp f.frame
  | none, some t, some (_, x) =>
    let a := x.spec.outAdapter
    if 12 ≤ a && a ≤ 15 then
      tlpArrives m h (if a == 12 then 0 else a - 10) { len := t.len, hdr := t.hdr, bytes := t.bytes, credit := f.frame.credit }
    else send h (.egress 13 (fromOutside f.frame) none)
  | none, _, _ =>
    if isTlp f.frame.hdr && (f.inPort == 14 || f.inPort == 15) then tlpArrives m h (f.inPort - 13) { f.frame with steer := none }
    else if isTlp f.frame.hdr && f.inPort == 13 then functionTlp m h 6 f.frame
    else send h (.egress 13 (fromOutside f.frame) none)

/-- R318: the adapter by which a packet for a port of the USB 3.2 hub leaves: 17 to 19 for ports 5 to 7, 16 upstream. -/
def usbAdapter (route : Nat) : Nat := if 5 ≤ route && route ≤ 7 then 12 + route else 16

/-- R318: the USB 3.2 hub sends a packet into the Grate, steered to the path subscriber of the adapter by which it leaves; without a path
there is none to steer it to. -/
def usbInto (h : Hub) (adapter : Nat) (f : Frame) : Hub :=
  let (f, h) := fromProtocol h 6 { f with steer := pathFrom h adapter }
  ingress h 6 6 false false f

/-- R318: the USB 3.2 hub takes a packet of a tunnel: one from the host for a device behind P1 to P4 leaves on that port; one for a device on
DN1 to DN3 crosses the Grate once more, as does one from there for the host: with no path for it, where the Flow Table sends it. A packet
for a port that is not up is discarded, with the frames of ports that are down. (DEDUCED, log 34) -/
def usb3Takes (h : Hub) (q : Nat) (f : GFrame) : Hub :=
  let route := f.frame.route
  let out (h : Hub) : Hub := send h (.egress 6 (fromOutside f.frame) none)
  match pathOfSub h (qSub q) with
  | none => out h
  | some (_, x) =>
    if x.spec.outAdapter != 16 then usbInto h 16 (fromOutside f.frame)
    else if usbAdapter route != 16 then usbInto h (usbAdapter route) (fromOutside f.frame)
    else if route == 0 then out h
    else if 4 ≤ getN h (psKey route Obj.PS_SPEED) && getN h (psKey route Obj.PS_STATE) == 1 then
      out (send h (.usb "packet" [route] []))
    else unitAsh h 6 f.cells

/-- R197: the DP OUT adapter at which a frame that leaves at a Grate port from a leaf queue ends. -/
def dpOutOf (h : Hub) (port q : Nat) : Option Nat :=
  if 21 ≤ port && port ≤ 23 then some (port - 12)
  else match pathOfSub h (qSub q) with
    | some (_, x) => if 20 ≤ x.spec.outAdapter && x.spec.outAdapter ≤ 22 then some x.spec.outAdapter else none
    | none => none

/-- R13, R112: the unit attached to a Grate port takes a frame that was delivered from a leaf queue. R197: a packet of a DisplayPort tunnel that
brings an AUX transaction is one. -/
def attachedTakes (m : List Host.Cell) (h : Hub) (port q : Nat) (f : GFrame) : Hub :=
  let (ok, h) := protectEgress (toProtocol h port q f) (protectPoint h port) f
  if !ok then h
  else if let (some k, some a) := (f.frame.aux, dpOutOf h port q) then auxRequest h a k
  else if port == 1 || (3 ≤ port && port ≤ 5) then laneEgress h (usb4OfPort port) q f
  else if 7 ≤ port && port ≤ 12 then macTx h (port - 7) f.frame
  else if port == 13 then switchTake m h q f
  else if port == 14 || port == 15 then linkEgress h (port - 13) f
  else if 21 ≤ port && port ≤ 23 then displayTakes h port f
  else if port == 6 then usb3Takes h q f
  else if port == 28 then setGrate h (fun g => { g with reentry := g.reentry ++ [f] })
  else send h (.egress port (fromOutside f.frame) none)

/-- R23: the unit that takes the frames of a Grate port by itself, where the port has no link of its own that goes down with it. -/
def attachedUnit (port : Nat) : Option Nat :=
  if port == 26 then some cryptoUnit
  else if port == 6 then some usb3HubUnit
  else if 21 ≤ port && port ≤ 23 then some (outputUnit (port - 21))
  else none

/-- R247, R113: the switch withholds acceptance at GP13: what the Grate has sent already waits, in order. -/
def switchWithholds (h : Hub) (port : Nat) : Bool :=
  port == 13 && (h.grate.stalled.contains 13 || h.grate.asleep.any (fun x => x.1 == 13))

/-- R42, R23: a frame for a unit whose domain sleeps, or whose way there does, waits at the isolation stage and wakes them; one for a unit
that is out of service goes to Ash, counted with the frames of ports that are down. (DESIGN CHOICE, log 25) -/
def attached (m : List Host.Cell) (h : Hub) (port q : Nat) (f : GFrame) : Hub :=
  let sleeping := asleepOf h (attachedDomains port)
  let keep (h : Hub) : Hub := setGrate h (fun g => { g with asleep := g.asleep ++ [(port, q, f)] })
  if !sleeping.isEmpty then wakeAll (keep h) sleeping
  else if switchWithholds h port then keep h
  else if (attachedUnit port).any (outOfService h) then unitAsh h port f.cells
  else attachedTakes m h port q f

/-- R42, R113: frames that waited for something are offered to their unit again, in the order in which they came. -/
def retake (m : List Host.Cell) (h : Hub) (mine : Nat → Bool) : Hub :=
  let back := h.grate.asleep.filter (fun x => mine x.1)
  forEach back (setGrate h (fun g => { g with asleep := g.asleep.filter (fun x => !mine x.1) })) (fun h x => attached m h x.1 x.2.1 x.2.2)

/-- R42: what the Grate kept waiting for a domain goes on: frames for its units, and frames that come in through it. -/
def wokenFrames (m : List Host.Cell) (h : Hub) (d : Nat) : Hub :=
  let h := retake m h (fun p => (attachedDomains p).contains d)
  forEach ((h.grate.atPort.map (·.1)).filter (fun p => (ingressDomains p).contains d)) h (fun h p => later h (.stagerRoom p))

/-! Reactions -/

/-- R388, R385: a unit acts on what a pin has shown. -/
def pinShows (h : Hub) : PinEvent → Hub
  | .hotPlug o c => hotPlug h o c
  | .hotUnplug o => hotUnplug h o
  | .hpdIrq o v => hpdIrq h o v
  | .connect n s => portConnect h n s
  | .disconnect n => portDisconnect h n
  | .busReset => busReset h
  | .hotReset => hotReset h
  | .hostResume => hostResume h
  | .remoteWake n => remoteWake h n
  | .u3Exit n fromHost => u3Exit h n fromHost
  | .attach x => pdAttach h x

/-- R388: a domain is On: its units act on what their pins have shown, in that order. -/
def pinsSeen (h : Hub) (d : Nat) : Hub :=
  let mine := h.pins.filter (fun x => x.1 == d)
  forEach mine { h with pins := h.pins.filter (fun x => x.1 != d) } (fun h x => pinShows h x.2)

/-- R94: what waited for a domain goes on: frames of the Grate and accesses of the dictionary, then head fetches before the other masters
of port B. -/
def wokenDomain (m : List Host.Cell) (h : Hub) (d : Nat) : Hub :=
  portBResume m (resumeFetches m (wokenAccesses m (wokenFrames m (pinsSeen (lanesWake h d) d) d) d))

/-- R192, R16: the PCIe tunnel of a link port is gone: no TLP holds a credit of it, and those that wait for it are discarded and counted
in PT_ASH_DISABLED of its port. (DEDUCED, log 31) -/
def tunnelGone (h : Hub) (p : Nat) : Hub :=
  let n := (waitList h p ++ backList h p).length
  let h := forgetCredits (setPcie h (fun x => { x with waiting := merase x.waiting p, back := merase x.back p })) p
  let h := if n == 0 then h else addN h (at_ (usb4Grate (if p == 0 then 0 else p - 2)) Obj.PT_ASH_DISABLED) n
  if n != 0 && feedOpen h 13 then portAccepts h 13 else h

/-- R240: a conventional reset of F0-F3, and of the switch with its upstream port; the functions stay in reset until the PCIe tunnel
on UP returns. (DEDUCED, log 17) -/
def functionsDown (h : Hub) : Hub :=
  let h := forEach (List.range 4) (tunnelGone h 0) functionReset
  setPcie h (fun p => { p with inReset := [0, 1, 2, 3], cfg := [] })

/-- Carry out one reaction. (DESIGN CHOICE, log 2) -/
def react (m : List Host.Cell) (h : Hub) : Todo → Hub
  | .report code unit => healthReport h code unit
  | .wake d c => wakeDomain h d c
  | .pinWake d => pinWake h d
  | .delivered port q f => attached m h port q f
  | .stagerRoom p => roomAt h p
  | .sourceGone src => timeLost h src
  | .accepts p => retake m h (· == p)
  | .hostWrite fn a n bs => hostWrite fn n h a n bs
  | .hostRead fn a n => hostRead fn n h a n
  | .npDropped port x => npDropped h port x
  | .nicResume => txAll h
  | .groupLost g => groupLost m h g
  | .lanesResume => resumeLanes m h
  | .releaseHeld => releaseAll m h
  | .fault u => unitFault h u
  | .keysLost => keysLost h
  | .sessionLost c => let h := closeSession h c; if c == ctxNo .tyvel then twinLost h else h
  | .protectCopy pos f => protectCopy h pos f
  | .tunnelLost => functionsDown h
  | .fit a => fitAdapter h a
  | .flare c => flare h c
  | .awake d => wokenDomain m h d
  | .restart => startup m h .retention h.straps
  | .restartUnit u => restartUnit m h u
  | .fromOff u => restartFromOff m h u
  | .sessionPdu c bs => receiveAll m h { ctx := c, session := true } bs
  | .sealPdu c p => sealPdu h c p
  | .powerOn => powerOn m h { h.straps with tamper := h.tampers }
  | .cleared code unit => conditionCleared h code unit
  | .described n => described h n
  | .mirrored i => mirrorItem h i
  | .aerError s severity => errorSignal h s severity

/-- The reactions, oldest first; those that a reaction asks for come after those that wait. (DESIGN CHOICE, log 2) -/
def drain (m : List Host.Cell) : Nat → Hub → Hub
  | 0, h => h
  | n + 1, h => match h.todo with
    | [] => h
    | t :: r => drain m n (react m { h with todo := r } t)

/-- More reactions than one command can ask for. (DESIGN CHOICE, log 2) -/
def drainFuel : Nat := 65536

/-! What follows from the state -/

/-- R240, R246: PCIe tunnels that have come up or gone since `was`. (DEDUCED, log 17) -/
def followTunnels (was h : Hub) : Hub :=
  forEach (List.range 4) h (fun h k =>
    let p := if k == 0 then 0 else k + 2
    if tunnelOn h k && !tunnelOn was k then
      let h := tunnelUp h p
      let h := whenH (k != 0) h (fun h => slotEvent h (4 + p) true true)
      if k == 0 then setPcie h (fun x => { x with inReset := [] }) else h
    else if !tunnelOn h k && tunnelOn was k then
      if k == 0 then functionsDown h else slotEvent (tunnelGone h p) (4 + p) true true
    else h)

/-- R352: a wake of its attached unit's domain is a trigger of a shed port. -/
def followShed (was h : Hub) : Hub :=
  forEach ((h.grate.shed).filter (fun p => (unitDomains p).any (fun d =>
    ((domState was d == 2 || domState was d == 3) && (domState h d == 1 || domState h d == 5))))) h portTrigger

/-- R412, R24, R97: the active copies the records of every valid surface, which it reads as a master of port B; a record whose read does
not come back is not sent. (DEDUCED, log 32) -/
def copySurfaces (m : List Host.Cell) (h : Hub) : Hub :=
  let surfaces := (List.range 256).filter (fun s => surfaceState h s == 1)
  forEach surfaces h (fun h s =>
    let x := shapeOf h s
    forEach (List.range (planesOf x.model)) h (fun h p =>
      forEach (List.range (tilesOf x p)) h (fun h t =>
        let (ecc, h) := metErrors h
        match loadTile m h tyvelUnit s p t ecc with
        | (some bs, h) => mirrorSend h (.record s p t (trimRecord bs))
        | (none, h) => h)))

/-- R412, R42: the copy of an active in Catch-up, once every bank group that it reads is awake; G11 judges each of its requests once (R449). -/
def followCopy (m : List Host.Cell) (h : Hub) : Hub :=
  if getN h Obj.TW_STATE == 0 then h
  else if getN h Obj.TW_STATE != 2 then setTwin h (fun t => { t with copying := false, copied := false, passes := [] })
  else if !isActive h then setTwin h (fun t => { t with copying := false, passes := [] })
  else if h.twin.copied then h
  else
    let work (h : Hub) : Hub := copySurfaces m (setTwin h (fun t => { t with copying := false, copied := true, passes := [] }))
    let (ps, h) := judgeWork h h.twin.passes work
    let asleep := sleepingFor h ps
    if asleep.isEmpty then runJudged h ps work
    else wakeGroups (setTwin h (fun t => { t with copying := true, passes := ps })) asleep

/-- R421, R420, R412: what the twin controller sees in the state that a command left. -/
def followTwin (m : List Host.Cell) (was h : Hub) : Hub :=
  let relinked := (List.range 3).any (fun o => bitOf (getN h Obj.TW_SWITCHED) o
    && getN h (Obj.RELINKS o) != getN was (Obj.RELINKS o))
  let h := whenH (tampered h) h (fun h => demote h .tampered)
  let h := lockstepCheck (if relinked && isActive h then leaveLockstep h else h)
  followCopy m h

/-- R413, R417: what waited for its apply time is applied: held headers are written, a mirrored write is carried out and answered. (DESIGN CHOICE, log 20) -/
def applyOne (m : List Host.Cell) (h : Hub) (x : PendingApply) : Hub :=
  let h := setTwin h (fun t => { t with applies := t.applies.filter (· != x) })
  if x.descriptor then releaseHeld m h x.seq
  else match x.item with
    | some (.write i s pos bs) =>
      let (a, h) := applyWrite m h (x.src.getD { ctx := .tyvel }) i s pos bs x.fields
      match x.reply with
      | some r => deliver h r a
      | none => h
    | _ => h

/-- R413, R410, R422: what is due at once: a write whose COMMIT came late, and what a hub that leaves the pair, or becomes active,
still holds. (DESIGN CHOICE, log 20) -/
def applyNow (m : List Host.Cell) (h : Hub) : Hub :=
  forEach (h.twin.applies.filter (fun a => a.time == some 0)) h (applyOne m)

/-- Everything that a command sets off. (DESIGN CHOICE, log 2) -/
def settle (m : List Host.Cell) (was h : Hub) : Hub :=
  let h := drain m drainFuel h
  let h := drain m drainFuel (followTwin m was (followShed was (followUsb3 was (followTunnels was h))))
  let h := drain m drainFuel (applyNow m h)
  drain m drainFuel (pendingReset m h)

/-- R36, R228, R246: a nanosecond in which no command comes: the hub's clocks go on, and the PCIe switch returns what it owes. (DESIGN CHOICE, log 1) -/
def idleHub (h : Hub) : Hub := tyvelTick (bellowsSample (prbsTicks (stageReads (nvRefTick (gptpAnnounce (returnCredits (netTick { h with now := h.now + 1 })))))))

/-- R386, R410: something ends with this nanosecond that the rest of the hub has to follow: entries of domains, Pairing. -/
def idleDue (h : Hub) : Bool := !(entriesDue h (h.now + 1)).isEmpty || pairingLate h (h.now + 1)

/-- What ends with this nanosecond. -/
def idleEnds (h : Hub) : Hub := pairingEnds (endEntries h)

/-! Running a command -/

/-- R389: the Hearth's content without the bytes of bank groups that were zeroed. (DEDUCED, log 6) -/
def zeroGroups (gs : List Nat) (m : List Host.Cell) : List Host.Cell := m.filter (fun c => !gs.contains (c.1 / 256 % 32))

/-- The Hearth's content after a command: groups zeroed, then its writes in order. (DEDUCED, log 6) -/
def newMem (h : Hub) (m : List Host.Cell) : List Host.Cell := memStores h.part (zeroGroups h.zeroed m) h.stores

/-- What stands in the hub only while a command runs. -/
def clearTransient (h : Hub) : Hub := { h with todo := [], stores := [], zeroed := [], recordOk := true }

/-- R484, R485: which part a hub is stands in its fuses, so no command changes it. (DESIGN CHOICE, log 7) -/
def keepPart (was h : Hub) : Hub := { h with part := was.part }

/-- Everything a command does but the refusal and the power: its own effect `f`, then the hub's reactions. (DESIGN CHOICE, log 2) -/
def runOn (f : List Host.Cell → Hub → Hub) (s : State) : State :=
  let h := keepPart s.hub (settle s.mem s.hub (f s.mem s.hub))
  { s with hub := clearTransient h, mem := newMem h s.mem }

/-- Run a command: one that names something the hub has no wires for (`ok` false, WellFormed.lean) reaches nothing of the hub and
changes nothing; without power nothing happens (R467). (DESIGN CHOICE, log 4; DEDUCED, log 23) -/
def runCmd (ok : Bool) (f : List Host.Cell → Hub → Hub) (s : State) : Host.Outcome State Fault Refusal :=
  if ok && s.hub.fw.powered then .next (runOn f s) else .next s

/-- Run a command that acts on a hub without power too. (DEDUCED, log 23) -/
def runAny (f : List Host.Cell → Hub → Hub) (s : State) : Host.Outcome State Fault Refusal := .next (runOn f s)

end Sys2Proof.Machine
end

