-- ==== Sys2Proof/Machine/CmdDictionary.lean ====
section
/-! DEFINITION. The meanings of the commands of the dictionary and its carriers (chapters 2, 4 and 5): accesses, COMMITs, storing,
units, JDP frames and timeouts, datagrams, the mailbox. -/

namespace Sys2Proof.Machine

/-! The dictionary -/

/-- R44. -/
def execObjectWrite (src : Src) (idx sub : Nat) (value : List Byte) (s : State) : Host.Outcome State Fault Refusal :=
  runCmd (objWf idx sub) (fun m h => writeBy m h src idx sub value) s

/-- R56. -/
def execWindowCommit (src : Src) (idx : Nat) (s : State) : Host.Outcome State Fault Refusal :=
  runCmd (objWf idx 0) (fun m h => commitBy m h src idx 1) s

/-- R56. -/
def execCommitDiscard (src : Src) (idx : Nat) (s : State) : Host.Outcome State Fault Refusal :=
  runCmd (objWf idx 0) (fun m h => commitBy m h src idx 2) s

/-- R40. -/
def execFlagClear (src : Src) (idx sub : Nat) (s : State) : Host.Outcome State Fault Refusal :=
  runCmd (objWf idx sub) (fun m h => writeNat m h src (idx * 256 + sub) 0) s

/-- R54. -/
def execPeakRestart (src : Src) (idx sub : Nat) (s : State) : Host.Outcome State Fault Refusal :=
  runCmd (objWf idx sub) (fun m h => writeNat m h src (idx * 256 + sub) 0) s

/-- R63, R66. -/
def execBar0Access (write : Bool) (offset size : Nat) (data : List Byte) (s : State) : Host.Outcome State Fault Refusal :=
  runCmd (barWf offset size && (!write || data.length == size)) (fun m h => barAccess m h write offset size data) s

/-- R64. -/
def execWideRead (offset : Nat) (s : State) : Host.Outcome State Fault Refusal :=
  runCmd (barWf offset 4) (fun m h => barAccess m h false offset 4 []) s

/-- R65: ABORT_CODE lies in the window's own page. -/
def execAbortCodeRead (s : State) : Host.Outcome State Fault Refusal :=
  runCmd true (fun m h => barAccess m h false 0x3FFFC04 4 []) s

/-- R52. -/
def execStore (src : Src) (key : Nat) (s : State) : Host.Outcome State Fault Refusal :=
  runCmd true (fun m h => writeNat m h src Obj.STORE key) s

/-- R53. -/
def execRestoreDefaults (src : Src) (key : Nat) (s : State) : Host.Outcome State Fault Refusal :=
  runCmd true (fun m h => writeNat m h src Obj.RESTORE_DEFAULTS key) s

/-- R52. -/
def execStoreDone (ok : Bool) (s : State) : Host.Outcome State Fault Refusal :=
  runCmd true (fun _ h => storeDone h ok) s

/-! Units -/

/-- R29. -/
def execUnitQuarantine (src : Src) (unit : Nat) (s : State) : Host.Outcome State Fault Refusal :=
  runCmd (unit < 65536) (fun m h => writeNat m h src Obj.UNIT_QUARANTINE unit) s

/-- R29. -/
def execUnitRelease (src : Src) (unit : Nat) (s : State) : Host.Outcome State Fault Refusal :=
  runCmd (unit < 65536) (fun m h => writeNat m h src Obj.UNIT_RELEASE unit) s

/-- R479. -/
def execUnitReset (src : Src) (unit : Nat) (s : State) : Host.Outcome State Fault Refusal :=
  runCmd (unit < 65536) (fun m h => writeNat m h src Obj.UNIT_RESET unit) s

/-- R30: a part's absent units report nothing (R484). -/
def execUnitFault (fault : UnitFaultReport) (s : State) : Host.Outcome State Fault Refusal :=
  runCmd (fault.unit < 65536) (fun _ h => if fault.cluster || fault.domain then clusterFault h fault.unit fault.domain else unitFault h fault.unit) s

/-- R33. -/
def execRegionUndervoltage (region : Nat) (s : State) : Host.Outcome State Fault Refusal :=
  runCmd (region < 8) (fun _ h => regionTrip h region) s

/-! JDP frames: each is what its function code says (Table 5.2) -/

/-- R76. -/
def execReadRequest (peer : Peer) (pdu : Pdu) (s : State) : Host.Outcome State Fault Refusal :=
  runCmd (peer.wf && pdu.wf) (fun m h => receive m h peer pdu) s

/-- R78. -/
def execWriteRequest (peer : Peer) (pdu : Pdu) (s : State) : Host.Outcome State Fault Refusal :=
  runCmd (peer.wf && pdu.wf) (fun m h => receive m h peer pdu) s

/-- R77. -/
def execWriteSegment (peer : Peer) (pdu : Pdu) (s : State) : Host.Outcome State Fault Refusal :=
  runCmd (peer.wf && pdu.wf) (fun m h => receive m h peer pdu) s

/-- R79. -/
def execBlockSegment (peer : Peer) (pdu : Pdu) (s : State) : Host.Outcome State Fault Refusal :=
  runCmd (peer.wf && pdu.wf) (fun m h => receive m h peer pdu) s

/-- R80. -/
def execBlockAcknowledgement (peer : Peer) (pdu : Pdu) (s : State) : Host.Outcome State Fault Refusal :=
  runCmd (peer.wf && pdu.wf) (fun m h => receive m h peer pdu) s

/-- R78. -/
def execClientAbort (peer : Peer) (pdu : Pdu) (s : State) : Host.Outcome State Fault Refusal :=
  runCmd (peer.wf && pdu.wf) (fun m h => receive m h peer pdu) s

/-- R81. -/
def execWindowBulkRequest (peer : Peer) (pdu : Pdu) (s : State) : Host.Outcome State Fault Refusal :=
  runCmd (peer.wf && pdu.wf) (fun m h => receive m h peer pdu) s

/-- R83. -/
def execHeartbeatReceived (peer : Peer) (pdu : Pdu) (s : State) : Host.Outcome State Fault Refusal :=
  runCmd (peer.wf && pdu.wf) (fun m h => receive m h peer pdu) s

/-- R85. -/
def execTimeBroadcastReceived (peer : Peer) (pdu : Pdu) (s : State) : Host.Outcome State Fault Refusal :=
  runCmd (peer.wf && pdu.wf) (fun m h => receive m h peer pdu) s

/-- R82. -/
def execSegmentGapTimeout (tid : TransferId) (s : State) : Host.Outcome State Fault Refusal :=
  runCmd tid.wf (fun _ h => segmentGap h tid) s

/-- R80. -/
def execBlockAckTimeout (tid : TransferId) (s : State) : Host.Outcome State Fault Refusal :=
  runCmd tid.wf (fun _ h => blockAckLate h tid) s

/-- R48. -/
def execWakeTimeout (d : Nat) (s : State) : Host.Outcome State Fault Refusal :=
  runCmd (domainWf d) (fun _ h => wakeTimedOut h d) s

/-- R83. -/
def execHeartbeatPeriod (s : State) : Host.Outcome State Fault Refusal :=
  runCmd true (fun _ h => heartbeat h) s

/-- R83. -/
def execManagerTimeout (s : State) : Host.Outcome State Fault Refusal :=
  runCmd true (fun _ h => managerLate h) s

/-- R85. -/
def execTimePeriod (s : State) : Host.Outcome State Fault Refusal :=
  runCmd true (fun _ h => timeBroadcast h) s

/-- R84. -/
def execEmergencyInhibit (ctx : Ctx) (s : State) : Host.Outcome State Fault Refusal :=
  runCmd true (fun _ h => inhibitEnds h ctx) s

/-- R86: bus-off is counted; recovery is ISO 11898-1's. -/
def execCanBusOff (s : State) : Host.Outcome State Fault Refusal :=
  runCmd true (fun _ h => bump h Obj.CAN_BUS_OFF) s

/-! Datagrams, transfers and the mailbox -/

/-- R512, R87. -/
def execUdpDatagram (mac srcIp srcPort dstIp vlan : Nat) (bytes : List Byte) (s : State) : Host.Outcome State Fault Refusal :=
  runCmd (macWf mac && srcIp < 2 ^ 32 && srcPort < 2 ^ 16 && dstIp < 2 ^ 32 && vlan < 4096)
    (fun m h => udpDatagram m h mac srcIp srcPort dstIp vlan bytes) s

/-- R87. -/
def execArpRequest (mac target senderIp senderMac : Nat) (s : State) : Host.Outcome State Fault Refusal :=
  runCmd (macWf mac && target < 2 ^ 32 && senderIp < 2 ^ 32 && senderMac < 2 ^ 48)
    (fun _ h => arpRequest h mac target senderIp senderMac) s

/-- R512. -/
def execUsbVendorTransfer (bytes : List Byte) (s : State) : Host.Outcome State Fault Refusal :=
  runCmd true (fun m h => receiveAll m h { ctx := .usb } bytes) s

/-- R89. -/
def execH2dProducer (setup : MailboxSetup) (value : Nat) (s : State) : Host.Outcome State Fault Refusal :=
  runCmd true (fun m h => writeProducer m h setup value) s

/-- R89. -/
def execD2hConsumer (setup : MailboxSetup) (value : Nat) (s : State) : Host.Outcome State Fault Refusal :=
  runCmd true (fun _ h => writeConsumer h setup value) s

/-- R88. -/
def execMbxStatusRead (s : State) : Host.Outcome State Fault Refusal :=
  runCmd true (fun _ h => readMailboxStatus h) s

end Sys2Proof.Machine
end

