-- ==== Sys2Proof/Machine/CmdDisplay.lean ====
section
/-! DEFINITION. The meanings of the commands of surfaces and the coder, the heads, and the display outputs (chapters 14 to 16). -/

namespace Sys2Proof.Machine

/-! Surfaces and the coder -/

/-- R261. -/
def execSurfaceCommit (src : Src) (s : State) : Host.Outcome State Fault Refusal :=
  runCmd true (fun m h => commitBy m h src 0x6802 1) s

/-- R262. -/
def execIngControl (value : Nat) (s : State) : Host.Outcome State Fault Refusal :=
  runCmd true (fun _ h => ingControl h value) s

/-- R269. -/
def execIngProducer (descs : List (Nat × List Byte)) (value : Nat) (s : State) : Host.Outcome State Fault Refusal :=
  runCmd (descs.all (fun d => d.1 < 256 && d.2.length == 32)) (fun _ h => ingProducer h descs value) s

/-- R270. -/
def execIngestDescriptor (s : State) : Host.Outcome State Fault Refusal := runCmd true (fun _ h => ingestDescriptor h) s

/-- R258. -/
def execTileCode (surface plane tile : Nat) (samples : List Nat) (s : State) : Host.Outcome State Fault Refusal :=
  runCmd (surface < 256 && plane < 4) (fun m h => tileCode m h surface plane tile samples) s

/-- R271. -/
def execPrecodedRecord (surface plane tile pitch : Nat) (bytes : List Byte) (s : State) : Host.Outcome State Fault Refusal :=
  runCmd (surface < 256 && plane < 4) (fun m h => precodedRecord m h surface plane tile pitch bytes) s

/-- R263. -/
def execTileRetry (surface : Nat) (s : State) : Host.Outcome State Fault Refusal :=
  runCmd (surface < 256) (fun m h => tileRetry m h surface) s

/-- R267. -/
def execInterlockResume (surface plane row : Nat) (s : State) : Host.Outcome State Fault Refusal :=
  runCmd (surface < 256 && plane < 4) (fun m h => interlockResume m h surface plane row) s

/-! Heads -/

/-- R280, R282, R285. -/
def execHeadLineStart (start : LineStart) (s : State) : Host.Outcome State Fault Refusal :=
  runCmd (headWf start.head && start.ecc.all EccError.wf) (fun m h => headLineStart m h start.head start.ecc) s

/-- R295. -/
def execLayerUnderrun (head layer plane : Nat) (s : State) : Host.Outcome State Fault Refusal :=
  runCmd (headWf head && layer < 4 && plane < 4) (fun m h => layerUnderrun m h head layer plane) s

/-- R282. -/
def execHPresent (src : Src) (head value : Nat) (s : State) : Host.Outcome State Fault Refusal :=
  runCmd (headWf head) (fun m h => writeNat m h src (Obj.H_PRESENT head) value) s

/-- R282. -/
def execTeCEdge (s : State) : Host.Outcome State Fault Refusal := runCmd true (fun _ h => teEdge h) s

/-- R283. -/
def execHEnable (src : Src) (head value : Nat) (s : State) : Host.Outcome State Fault Refusal :=
  runCmd (headWf head) (fun m h => writeNat m h src (Obj.H_ENABLE head) value) s

/-- R283. -/
def execHTiming (src : Src) (head value : Nat) (s : State) : Host.Outcome State Fault Refusal :=
  runCmd (headWf head) (fun m h => writeNat m h src (Obj.H_TIMING head) value) s

/-- R282. -/
def execHSyncMode (src : Src) (head value : Nat) (s : State) : Host.Outcome State Fault Refusal :=
  runCmd (headWf head) (fun m h => writeNat m h src (Obj.H_SYNC_MODE head) value) s

/-- R281. -/
def execTimingCommit (src : Src) (s : State) : Host.Outcome State Fault Refusal :=
  runCmd true (fun m h => commitBy m h src 0x64E1 1) s

/-- R302. -/
def execFormatCommit (src : Src) (s : State) : Host.Outcome State Fault Refusal :=
  runCmd true (fun m h => commitBy m h src 0x6807 1) s

/-- R297. -/
def execLSurface (src : Src) (head layer value : Nat) (s : State) : Host.Outcome State Fault Refusal :=
  runCmd (headWf head && layer < 4) (fun m h => writeNat m h src (Obj.L_SURFACE head layer) value) s

/-! Outputs and passthrough streams -/

/-- R315. -/
def execSlotCommit (src : Src) (s : State) : Host.Outcome State Fault Refusal :=
  runCmd true (fun m h => commitBy m h src 0x6431 1) s

/-- R311. -/
def execHotPlug (output : Nat) (caps : SinkCaps) (s : State) : Host.Outcome State Fault Refusal :=
  runCmd (sinkWf output) (fun _ h => hotPlug h output caps) s

/-- R311. -/
def execTrainingDone (output rate lanes : Nat) (s : State) : Host.Outcome State Fault Refusal :=
  runCmd (sinkWf output) (fun _ h => trainingDone h output rate lanes) s

/-- R311. -/
def execHotUnplug (output : Nat) (s : State) : Host.Outcome State Fault Refusal :=
  runCmd (sinkWf output) (fun _ h => hotUnplug h output) s

/-- R311. -/
def execHpdIrq (output : Nat) (vector : IrqVector) (s : State) : Host.Outcome State Fault Refusal :=
  runCmd (sinkWf output) (fun _ h => hpdIrq h output vector) s

/-- R312. -/
def execRelink (output rate : Nat) (s : State) : Host.Outcome State Fault Refusal :=
  runCmd (outWf output) (fun _ h => relink h output rate) s

/-- R308. -/
def execAuxRequest (adapter : Nat) (kind : AuxKind) (s : State) : Host.Outcome State Fault Refusal :=
  runCmd true (fun _ h => auxRequest h adapter kind) s

/-- R311. -/
def execAuxTimeout (output : Nat) (s : State) : Host.Outcome State Fault Refusal :=
  runCmd (outWf output) (fun _ h => auxTimeout h output) s

/-- R310. -/
def execStreamStarved (slot : Nat) (s : State) : Host.Outcome State Fault Refusal :=
  runCmd true (fun _ h => streamStarved h slot) s

/-- R310. -/
def execStreamResume (slot : Nat) (s : State) : Host.Outcome State Fault Refusal :=
  runCmd true (fun _ h => streamResume h slot) s

/-- R310. -/
def execStreamHoldExpiry (slot : Nat) (s : State) : Host.Outcome State Fault Refusal :=
  runCmd true (fun _ h => streamHoldExpiry h slot) s

/-- R310. -/
def execStreamStart (adapter stream : Nat) (attrs : StreamAttrs) (s : State) : Host.Outcome State Fault Refusal :=
  runCmd (adapter < 256 && stream < 4) (fun _ h => streamStart h adapter stream attrs) s

end Sys2Proof.Machine
end

