-- ==== Sys2Proof/Machine/CmdGrate.lean ====
section
/-! DEFINITION. The meanings of the commands of the Hearth, the Grate, the Flow Table and Damper (chapters 6 to 9). -/

namespace Sys2Proof.Machine

/-! Frames -/

/-- R15, R13: a frame is delivered to a Grate port by its attached unit: a TLP by the PCIe switch (R246, R248), a packet by a USB4
port (R195, R202) or by the unit behind a protocol adapter (R190), any other frame to the Flow Table at once. A bonded pair is one
port. (DEDUCED, log 25) -/
def deliverToGrate (h : Hub) (port : Nat) (f : Frame) : Hub :=
  let p := bondBase port
  let f := fromOutside f
  if 13 ≤ p && p ≤ 15 then tlpIngress h p f
  else if (p == 1 || (3 ≤ p && p ≤ 5)) && f.hdr.adapter < 20 then packetIngress h p f
  else if p == 6 then usbInto h (usbAdapter f.route) f
  else
    let (f, h) := fromProtocol h p f
    ingress h p port false false f

/-- R15, R13. -/
def execFrameIngress (port : Nat) (frame : Frame) (s : State) : Host.Outcome State Fault Refusal :=
  runCmd (portWf port && frame.wf) (fun _ h => deliverToGrate h port frame) s

/-- R117, R121, R122. -/
def execGrateStep (faults : StepFaults) (s : State) : Host.Outcome State Fault Refusal :=
  runCmd (faults.ecc.all EccError.wf && faults.seqBad.all portWf) (fun m h => grateStep m h faults) s

/-- R141: the oldest copy that GP28's egress has received whole enters the Flow Table again. -/
def reenter (h : Hub) : Hub :=
  match h.grate.reentry with
  | [] => h
  | f :: r =>
    ingress (setGrate h (fun g => { g with reentry := r })) 28 f.firstPort false true { f.frame with steer := none }

/-- R141. -/
def execMirrorReentry (s : State) : Host.Outcome State Fault Refusal := runCmd true (fun _ h => reenter h) s

/-! The Hearth -/

/-- R97. -/
def execEccWriteBack (portB : Bool) (group : Nat) (s : State) : Host.Outcome State Fault Refusal :=
  runCmd (group < 32) (fun _ h => eccWriteBack h portB group) s

/-- R98. -/
def execPatrolScrub (errors : List EccError) (s : State) : Host.Outcome State Fault Refusal :=
  runCmd (errors.all EccError.wf) (fun m h => patrolScrub m h errors) s

/-- R443. -/
def execPortBRequest (req : PortBRequest) (s : State) : Host.Outcome State Fault Refusal :=
  runCmd req.wf (fun m h => portBRequest m h req) s

/-- R447. -/
def execViolationRecord (s : State) : Host.Outcome State Fault Refusal := runCmd true (fun _ h => violationRecord h) s

/-- R106. -/
def execAuditStart (src : Src) (value : Nat) (s : State) : Host.Outcome State Fault Refusal :=
  runCmd true (fun m h => writeNat m h src Obj.AUDIT_START value) s

/-- R106: the hub audits on its own while AUDIT_INTERVAL is not 0, unless an audit runs. -/
def execAuditInterval (s : State) : Host.Outcome State Fault Refusal :=
  runCmd true (fun _ h =>
    if getN h Obj.AUDIT_INTERVAL != 0 && getN h Obj.AUDIT_STATUS != 1 then setN h Obj.AUDIT_STATUS 1 else h) s

/-- R106: the snapshots of an audit that runs are all taken. -/
def execAuditDone (s : State) : Host.Outcome State Fault Refusal :=
  runCmd true (fun _ h => if getN h Obj.AUDIT_STATUS == 1 then auditAll h else h) s

/-- R107. -/
def execReliefRowTake (group row : Nat) (s : State) : Host.Outcome State Fault Refusal :=
  runCmd (group < 32 && row < 16384) (fun m h => reliefTake m h group row) s

/-! Damper -/

/-- R164. -/
def execReleaseDecision (port : Nat) (s : State) : Host.Outcome State Fault Refusal :=
  runCmd (portWf port) (fun _ h => decideRelease h port) s

/-- R120, R162. -/
def execFrameRelease (port : Nat) (s : State) : Host.Outcome State Fault Refusal :=
  runCmd (portWf port) (fun _ h => releaseTaken h port) s

/-- R172. -/
def execEgressLaunch (port : Nat) (s : State) : Host.Outcome State Fault Refusal :=
  runCmd (portWf port) (fun _ h => egressLaunch h port) s

/-- R171, R174. -/
def execGateEntryAdvance (port : Nat) (s : State) : Host.Outcome State Fault Refusal :=
  runCmd (portWf port) (fun _ h => entryAdvance h port) s

/-- R175: CONFIG_CHANGE acts on the port that the context's GATE_PORT selects. -/
def execConfigChange (src : Src) (value : Nat) (s : State) : Host.Outcome State Fault Refusal :=
  runCmd true (fun m h => writeNat m h src Obj.CONFIG_CHANGE value) s

/-- R175. -/
def execGateSwap (port : Nat) (s : State) : Host.Outcome State Fault Refusal :=
  runCmd (portWf port) (fun _ h => gateSwap h port) s

/-- R168. -/
def execSubscriberCommit (src : Src) (s : State) : Host.Outcome State Fault Refusal :=
  runCmd true (fun m h => commitBy m h src 0x3802 1) s

/-- R167: the service window, or the port window. -/
def execShaperCommit (src : Src) (portWindow : Bool) (s : State) : Host.Outcome State Fault Refusal :=
  runCmd true (fun m h => commitBy m h src (if portWindow then 0x3806 else 0x3804) 1) s

/-! Ports (R131) -/

/-- R131. -/
def execPortEnable (src : Src) (port value : Nat) (s : State) : Host.Outcome State Fault Refusal :=
  runCmd (portWf port) (fun m h => writeNat m h src (Obj.PORT_ENABLE port) value) s

/-- R131: one of the causes that take a port down. R248: the link loss of a drive's port triggers DPC. -/
def takePortDown (h : Hub) (port : Nat) : DownCause → Hub
  | .linkLoss =>
    if 7 ≤ port && port ≤ 12 then macLost h (port - 7)
    else if port == 14 || port == 15 then linkDown (nvLost (aerStatus h (port - 9) 5 none) (port - 14)) port
    else linkDown h port
  | .quarantine => leaveService h (gpUnit port) false
  | .disabled => writePortEnable h port 0

/-- R131. -/
def execPortDown (port : Nat) (cause : DownCause) (s : State) : Host.Outcome State Fault Refusal :=
  runCmd (portWf port) (fun _ h => takePortDown h port cause) s

/-- R131. -/
def execPortFlushDone (port : Nat) (s : State) : Host.Outcome State Fault Refusal :=
  runCmd (portWf port) (fun _ h => portFlushEnd h port) s

/-- R131, R220, R212: the attached unit's link is back: a MAC's comes up in its mode. Rates committed before that the port's allotted rate no
longer covers are decreased first. -/
def bringPortUp (h : Hub) (port : Nat) : Hub :=
  if 7 ≤ port && port ≤ 12 then macUp h (port - 7) else fitAllotted (linkUp h port) (bondBase port)

/-- R131, R119: the attached unit's link is back; the port comes up when no other cause remains. -/
def execPortUp (port : Nat) (s : State) : Host.Outcome State Fault Refusal :=
  runCmd (portWf port) (fun _ h => bringPortUp h port) s

/-! The Flow Table -/

/-- R149: an exact entry, or a wildcard entry. -/
def execFlowEntryCommit (src : Src) (wildcard : Bool) (s : State) : Host.Outcome State Fault Refusal :=
  runCmd true (fun m h => commitBy m h src (if wildcard then 0x340A else 0x3407) 1) s

/-- R149. -/
def execMulticastCommit (src : Src) (s : State) : Host.Outcome State Fault Refusal :=
  runCmd true (fun m h => commitBy m h src 0x340C 1) s

/-- R148. -/
def execPolicerCommit (src : Src) (s : State) : Host.Outcome State Fault Refusal :=
  runCmd true (fun m h => commitBy m h src 0x4001 1) s

/-- R136: P_BASE or P_MASK of the profile that the context selects. -/
def execProfileWrite (src : Src) (sub : Nat) (value : List Byte) (s : State) : Host.Outcome State Fault Refusal :=
  runCmd (sub == 2 || sub == 3) (fun m h => writeBy m h src 0x3405 sub value) s

end Sys2Proof.Machine
end

