-- ==== Sys2Proof/Machine/CmdPower.lean ====
section
/-! DEFINITION. The meanings of the commands of the serial lanes, Bellows, and the power domains and rails (chapters 19 to 21). -/

namespace Sys2Proof.Machine

/-! Lanes -/

/-- R357, R484: something that happens on a lane that the part has. (DEDUCED, log 26) -/
def atLane (h : Hub) (l : Nat) (f : Hub → Hub) : Hub := whenH (h.part.has (laneUnit l)) h f

/-- R360. -/
def execTxFfeWrite (src : Src) (lane : Nat) (value : List Byte) (s : State) : Host.Outcome State Fault Refusal :=
  runCmd (laneWf lane) (fun m h => writeBy m h src (keyIdx (Obj.TX_FFE lane)) (keySub (Obj.TX_FFE lane)) value) s

/-- R360. -/
def execFfeRampStep (lane : Nat) (s : State) : Host.Outcome State Fault Refusal :=
  runCmd (laneWf lane) (fun _ h => atLane h lane (fun h => ffeRamp h lane)) s

/-- R361. -/
def execDfeAdaptStep (receiver : LaneReceiver) (moves : List Int) (s : State) : Host.Outcome State Fault Refusal :=
  runCmd (laneWf receiver.lane) (fun _ h => atLane h receiver.lane (fun h => dfeAdapt h receiver.lane moves receiver.second)) s

/-- R361. -/
def execCtleAdaptStep (receiver : LaneReceiver) (move : Int) (s : State) : Host.Outcome State Fault Refusal :=
  runCmd (laneWf receiver.lane) (fun _ h => atLane h receiver.lane (fun h => ctleAdapt h receiver.lane move receiver.second)) s

/-- R361. -/
def execRxAdapt (src : Src) (lane value : Nat) (s : State) : Host.Outcome State Fault Refusal :=
  runCmd (laneWf lane) (fun m h => writeNat m h src (Obj.RX_ADAPT lane) value) s

/-- R362. -/
def execEyeScanDone (lane : Nat) (margins : Nat × Nat) (second : Option (Nat × Nat)) (s : State) : Host.Outcome State Fault Refusal :=
  runCmd (laneWf lane) (fun _ h => atLane h lane (fun h => eyeScan h lane margins.1 margins.2 second)) s

/-- R364, R365. -/
def execLaneSleepRequest (lane : Nat) (rx : Bool) (state : LaneState) (s : State) : Host.Outcome State Fault Refusal :=
  runCmd (laneWf lane) (fun _ h => atLane h lane (fun h => laneSleep h lane rx state)) s

/-- R365. -/
def execLaneExit (lane : Nat) (rx : Bool) (s : State) : Host.Outcome State Fault Refusal :=
  runCmd (laneWf lane) (fun _ h => atLane h lane (fun h => laneExit h lane rx)) s

/-- R366. -/
def execLnEnable (src : Src) (lane value : Nat) (s : State) : Host.Outcome State Fault Refusal :=
  runCmd (laneWf lane) (fun m h => writeNat m h src (Obj.LN_ENABLE lane) value) s

/-- R367. -/
def execLnLoop (src : Src) (lane value : Nat) (s : State) : Host.Outcome State Fault Refusal :=
  runCmd (laneWf lane) (fun m h => writeNat m h src (Obj.LN_LOOP lane) value) s

/-- R368. -/
def execPrbsTx (src : Src) (lane value : Nat) (s : State) : Host.Outcome State Fault Refusal :=
  runCmd (laneWf lane) (fun m h => writeNat m h src (Obj.PRBS_TX lane) value) s

/-- R368. -/
def execPrbsRx (src : Src) (lane value : Nat) (s : State) : Host.Outcome State Fault Refusal :=
  runCmd (laneWf lane) (fun m h => writeNat m h src (Obj.PRBS_RX lane) value) s

/-- R368. -/
def execPrbsInject (src : Src) (lane value : Nat) (s : State) : Host.Outcome State Fault Refusal :=
  runCmd (laneWf lane) (fun m h => writeNat m h src (Obj.PRBS_INJECT lane) value) s

/-- R368. -/
def execPrbsSyncGained (lane : Nat) (s : State) : Host.Outcome State Fault Refusal :=
  runCmd (laneWf lane) (fun _ h => prbsGained h lane) s

/-- R368. -/
def execPrbsSyncLost (lane bits errors : Nat) (s : State) : Host.Outcome State Fault Refusal :=
  runCmd (laneWf lane) (fun _ h => prbsLost h lane bits errors) s

/-- R369, R370: a receiver loses lock, and its link responds. -/
def loseLock (h : Hub) (l : Nat) : Hub :=
  let h' := lockLost h l
  if (lane h l).locked && !(lane h' l).locked && getB h (Obj.LN_ENABLE l) then laneGone h' l else h'

/-- R369. -/
def execLaneLockLost (lane : Nat) (s : State) : Host.Outcome State Fault Refusal :=
  runCmd (laneWf lane) (fun _ h => atLane h lane (fun h => loseLock h lane)) s

/-- R369. -/
def execReacquireTimeout (lane : Nat) (s : State) : Host.Outcome State Fault Refusal :=
  runCmd (laneWf lane) (fun _ h => reacquireTimeout h lane) s

/-- R369. -/
def execLaneRelock (lane : Nat) (s : State) : Host.Outcome State Fault Refusal :=
  runCmd (laneWf lane) (fun _ h => relock h lane) s

/-! Bellows -/

/-- R372, R375. -/
def execPaceReading (bank logic : Nat) (tj : Int) (trusted : Bool) (s : State) : Host.Outcome State Fault Refusal :=
  runCmd true (fun _ h => paceReading h bank logic tj trusted) s

/-- R378, R373. -/
def execBellowsStep (s : State) : Host.Outcome State Fault Refusal := runCmd true (fun _ h => bellowsStep h) s

/-- R378, R379. -/
def execFlare (cause : FlareCause) (s : State) : Host.Outcome State Fault Refusal := runCmd true (fun _ h => flare h cause) s

/-- R375. -/
def execAvsResponse (s : State) : Host.Outcome State Fault Refusal := runCmd true (fun _ h => avsResponse h) s

/-- R377. -/
def execAvsTimeout (s : State) : Host.Outcome State Fault Refusal := runCmd true (fun _ h => avsTimeout h) s

/-- R377. -/
def execAvsFaultRetry (s : State) : Host.Outcome State Fault Refusal := runCmd true (fun _ h => avsRetry h) s

/-- R382. -/
def execBwCeiling (s : State) : Host.Outcome State Fault Refusal := runCmd true (fun _ h => bwCeiling h) s

/-! Power domains and rails -/

/-- R385, R386. -/
def execEmberEntry (d : Nat) (s : State) : Host.Outcome State Fault Refusal := runCmd (domainWf d) (fun _ h => emberEntry h d) s

/-- R385. -/
def execOffEntry (d : Nat) (s : State) : Host.Outcome State Fault Refusal := runCmd (domainWf d) (fun _ h => offEntry h d) s

/-- R42. -/
def execDmRequestSleep (src : Src) (d : Nat) (s : State) : Host.Outcome State Fault Refusal :=
  runCmd (domainWf d) (fun m h => writeNat m h src (Obj.DM_REQUEST d) 1) s

/-- R388. -/
def execDmRequestWake (src : Src) (d : Nat) (s : State) : Host.Outcome State Fault Refusal :=
  runCmd (domainWf d) (fun m h => writeNat m h src (Obj.DM_REQUEST d) 2) s

/-- R388. -/
def execDmWakeTimer (d : Nat) (s : State) : Host.Outcome State Fault Refusal :=
  runCmd (domainWf d) (fun _ h => wakeTimer h d) s

/-- R389, R391-R393. -/
def execDomainWake (d : Nat) (cause : WakeCause) (failed : List RetArray) (duration : Nat) (s : State) :
    Host.Outcome State Fault Refusal :=
  runCmd (domainWf d) (fun _ h => domainWake h d cause failed duration) s

/-- R391. -/
def execRailRelease (rail : Nat) (s : State) : Host.Outcome State Fault Refusal :=
  runCmd (railWf rail) (fun _ h => railRelease h rail) s

/-- R391. -/
def execRailPowerGood (rail : Nat) (s : State) : Host.Outcome State Fault Refusal :=
  runCmd (railWf rail) (fun _ h => railPowerGood h rail) s

/-- R391. -/
def execRailTimeout (rail : Nat) (s : State) : Host.Outcome State Fault Refusal :=
  runCmd (railWf rail) (fun _ h => railTimeout h rail) s

end Sys2Proof.Machine
end

