-- ==== Sys2Proof/Machine/CmdSecurity.lean ====
section
/-! DEFINITION. The meanings of the commands of the key store and the tamper inputs, the Guards, the health table and the seasons, and
start-up and firmware (chapters 23 to 26). -/

namespace Sys2Proof.Machine

/-! Key operations (R430): a write of KC_OP with the parameters that the context holds -/

/-- R430. -/
def execGenerate (src : Src) (s : State) : Host.Outcome State Fault Refusal :=
  runCmd true (fun m h => writeNat m h src Obj.KC_OP 1) s

/-- R430, R431. -/
def execImportKey (src : Src) (s : State) : Host.Outcome State Fault Refusal :=
  runCmd true (fun m h => writeNat m h src Obj.KC_OP 2) s

/-- R431. -/
def execDerive (src : Src) (s : State) : Host.Outcome State Fault Refusal :=
  runCmd true (fun m h => writeNat m h src Obj.KC_OP 3) s

/-- R431. -/
def execExportWrapped (src : Src) (s : State) : Host.Outcome State Fault Refusal :=
  runCmd true (fun m h => writeNat m h src Obj.KC_OP 4) s

/-- R430, R433. -/
def execErase (src : Src) (s : State) : Host.Outcome State Fault Refusal :=
  runCmd true (fun m h => writeNat m h src Obj.KC_OP 5) s

/-- R433: `recordOk` is what comes of the flash write. -/
def execMakePersistent (src : Src) (recordOk : Bool) (s : State) : Host.Outcome State Fault Refusal :=
  runCmd true (fun m h => writeNat m { h with recordOk := recordOk } src Obj.KC_OP 6) s

/-- R430. -/
def execSign (src : Src) (s : State) : Host.Outcome State Fault Refusal :=
  runCmd true (fun m h => writeNat m h src Obj.KC_OP 7) s

/-- R430. -/
def execMacOp (src : Src) (s : State) : Host.Outcome State Fault Refusal :=
  runCmd true (fun m h => writeNat m h src Obj.KC_OP 8) s

/-- R436. -/
def execKeyPropertyStatement (src : Src) (s : State) : Host.Outcome State Fault Refusal :=
  runCmd true (fun m h => writeNat m h src Obj.KC_OP 9) s

/-- R430. -/
def execKeyOperationDone (ok : Bool) (s : State) : Host.Outcome State Fault Refusal :=
  runCmd true (fun _ h => keyDone h ok) s

/-- R435. -/
def execSpdmRequest (src : Src) (message : List Byte) (s : State) : Host.Outcome State Fault Refusal :=
  runCmd true
    (fun m h => writeBy m h src (keyIdx Obj.SPDM_REQUEST) (keySub Obj.SPDM_REQUEST) message) s

/-- R431. -/
def execEntropyFault (reseeded : Bool) (s : State) : Host.Outcome State Fault Refusal :=
  runCmd true (fun _ h => entropyFault h reseeded) s

/-- R437, R438. -/
def execTamper (change : TamperChange) (s : State) : Host.Outcome State Fault Refusal :=
  runCmd true (fun _ h => tamperChange h change) s

/-! Guards -/

/-- R448, R449. -/
def execGCommitShadow (src : Src) (guard : Nat) (s : State) : Host.Outcome State Fault Refusal :=
  runCmd (guardWf guard) (fun m h => writeNat m h src (Obj.G_COMMIT guard) 1) s

/-- R448. -/
def execGCommitCopy (src : Src) (guard : Nat) (s : State) : Host.Outcome State Fault Refusal :=
  runCmd (guardWf guard) (fun m h => writeNat m h src (Obj.G_COMMIT guard) 2) s

/-- R449. -/
def execEpochDrained (guard : Nat) (s : State) : Host.Outcome State Fault Refusal :=
  runCmd (guardWf guard) (fun _ h => epochDrained h guard) s

/-! Health -/

/-- R459, R460. -/
def execHealthReport (code unit : Nat) (s : State) : Host.Outcome State Fault Refusal :=
  runCmd (code < 65536 && unit < 65536) (fun _ h => healthReport h code unit) s

/-- R460, R461. -/
def execHealthRowClear (row unit : Nat) (s : State) : Host.Outcome State Fault Refusal :=
  runCmd (row < 256 && unit < 65536) (fun _ h => rowClear h row unit) s

/-- R465. -/
def execHealthTableCommit (src : Src) (s : State) : Host.Outcome State Fault Refusal :=
  runCmd true (fun m h => commitBy m h src 0x1202 1) s

/-- R464. -/
def execMapoutClear (src : Src) (key : Nat) (s : State) : Host.Outcome State Fault Refusal :=
  runCmd true (fun m h => writeNat m h src Obj.MAPOUT_CLEAR key) s

/-- R462. -/
def execJunctionOvertemperature (s : State) : Host.Outcome State Fault Refusal :=
  runCmd true (fun _ h => junctionHot h) s

/-! Start-up, resets and firmware -/

/-- R467: power returns, to a hub without power too. -/
def execPowerOn (straps : Straps) (s : State) : Host.Outcome State Fault Refusal := runAny (fun m h => powerOn m h straps) s

/-- R496, R467. -/
def execResetN (straps : Straps) (widthNs : Nat) (s : State) : Host.Outcome State Fault Refusal :=
  runCmd true (fun m h => resetN m (tamperNow h straps.tamper) straps widthNs) s

/-- R480. -/
def execWatchdog (s : State) : Host.Outcome State Fault Refusal := runCmd true (fun m h => watchdog m h) s

/-- R481. -/
def execHubReset (src : Src) (key : Nat) (s : State) : Host.Outcome State Fault Refusal :=
  runCmd true (fun m h => writeNat m h src Obj.HUB_RESET key) s

/-- R476. -/
def execFwImage (src : Src) (image : Image) (s : State) : Host.Outcome State Fault Refusal :=
  runCmd true (fun _ h => imageBy h src image) s

/-- R476. -/
def execImageProgrammed (ok : Bool) (s : State) : Host.Outcome State Fault Refusal :=
  runCmd true (fun _ h => imageProgrammed h ok) s

/-- R476, R474. -/
def execFwActivate (src : Src) (value : Nat) (s : State) : Host.Outcome State Fault Refusal :=
  runCmd true (fun m h => writeNat m h src Obj.FW_ACTIVATE value) s

/-- R474. -/
def execFwAccept (src : Src) (value : Nat) (s : State) : Host.Outcome State Fault Refusal :=
  runCmd true (fun m h => writeNat m h src Obj.FW_ACCEPT value) s

/-- R475. -/
def execFwPermitUntested (src : Src) (key : Nat) (s : State) : Host.Outcome State Fault Refusal :=
  runCmd true (fun m h => writeNat m h src Obj.FW_PERMIT_UNTESTED key) s

/-- R474, R475. -/
def execFwTrialTime (s : State) : Host.Outcome State Fault Refusal := runCmd true (fun _ h => trialTime h) s

/-- R407, R467. -/
def execPowerLoss (s : State) : Host.Outcome State Fault Refusal := runCmd true (fun _ h => powerLoss h) s

end Sys2Proof.Machine
end

