-- ==== Sys2Proof/Machine/CmdTunnels.lean ====
section
/-! DEFINITION. The meanings of the commands of USB4 tunnels, bandwidth allotment, Ethernet with network time and MACsec, and the
PCIe switch (chapters 10 to 13). -/

namespace Sys2Proof.Machine

/-! USB4 -/

/-- R185, R484: something that happens at a USB4 port that the part has. -/
def atUsb4 (h : Hub) (k : Nat) (f : Hub → Hub) : Hub := whenH (h.part.has (usb4Unit k)) h f

/-- R200: what the connection manager writes through UP: without its USB4 link the hub receives nothing. -/
def viaUp (h : Hub) (f : Hub → Hub) : Hub := whenH (usb4Link h 0) h f

/-- R186, Table 10.3. -/
def execConfigSpaceWrite (part : CfgPart) (reg value : Nat) (s : State) : Host.Outcome State Fault Refusal :=
  runCmd true (fun _ h => viaUp h (fun h => configWrite h part reg value)) s

/-- R191. -/
def execPathEnable (path : PathSpec) (s : State) : Host.Outcome State Fault Refusal :=
  runCmd true (fun _ h => viaUp h (fun h => pathEnable h path)) s

/-- R192. -/
def execPathDisable (usbPort pos : Nat) (s : State) : Host.Outcome State Fault Refusal :=
  runCmd (usb4Wf usbPort) (fun _ h => viaUp h (fun h => pathDisable h usbPort pos)) s

/-- R194. -/
def execCreditGrant (usbPort pos : Nat) (s : State) : Host.Outcome State Fault Refusal :=
  runCmd (usb4Wf usbPort) (fun _ h => creditGrant h usbPort pos) s

/-- R196. -/
def execCreditArrival (usbPort pos credits : Nat) (s : State) : Host.Outcome State Fault Refusal :=
  runCmd (usb4Wf usbPort) (fun _ h => creditArrival h usbPort pos credits) s

/-- R200, R17. -/
def execUpLinkLost (s : State) : Host.Outcome State Fault Refusal := runCmd true (fun _ h => upLinkLost h) s

/-- R200. -/
def execDnLinkLost (usbPort : Nat) (s : State) : Host.Outcome State Fault Refusal :=
  runCmd (1 ≤ usbPort && usbPort < 4) (fun _ h => atUsb4 h usbPort (fun h => dnLinkLost h usbPort)) s

/-- R182. -/
def execUsb4LinkUp (usbPort mode lanes rxRate txRate : Nat) (s : State) : Host.Outcome State Fault Refusal :=
  runCmd (usb4Wf usbPort) (fun _ h => usb4LinkUp h usbPort mode lanes rxRate txRate) s

/-- R200: one lane of a two-lane link loses lock. -/
def execLinkNarrowing (usbPort : Nat) (kept : KeptLane) (s : State) : Host.Outcome State Fault Refusal :=
  runCmd (usb4Wf usbPort && kept.lane < 2) (fun _ h => linkNarrowing h usbPort kept.lane kept.rate) s

/-- R200: a link that is up holds both directions and resumes at the new rate; the connection manager's write comes through UP. -/
def execAsymmetricTransition (usbPort : Nat) (shape : LinkShape) (rxRate txRate : Nat) (s : State) : Host.Outcome State Fault Refusal :=
  runCmd (usb4Wf usbPort && 1 ≤ shape.lanes && shape.lanes ≤ 2)
    (fun _ h => viaUp h (fun h => asymmetricTransition h usbPort shape.mode shape.lanes rxRate txRate)) s

/-- R184. -/
def execUsb4Fallback (usbPort gen : Nat) (s : State) : Host.Outcome State Fault Refusal :=
  runCmd (usb4Wf usbPort && gen < 3) (fun _ h => atUsb4 h usbPort (fun h => usb4Fallback h usbPort gen)) s

/-- R197, R206, R212. -/
def execBandwidthAllocationRequest (tunnel : DpTunnel) (rate : Nat) (s : State) : Host.Outcome State Fault Refusal :=
  runCmd true (fun _ h => viaUp h (fun h => bandwidthRequest h tunnel.adapter rate tunnel.number)) s

/-- R199. -/
def execAlternateModeEntry (usbPort : Nat) (pins : AltPins) (s : State) : Host.Outcome State Fault Refusal :=
  runCmd (1 ≤ usbPort && usbPort < 4 && pins.rate ≤ 20000000)
    (fun _ h => atUsb4 h usbPort (fun h => altModeEntry h usbPort pins.pinC pins.rate)) s

/-- R199. -/
def execAlternateModeExit (usbPort : Nat) (s : State) : Host.Outcome State Fault Refusal :=
  runCmd (1 ≤ usbPort && usbPort < 4) (fun _ h => altModeExit h usbPort) s

/-! Allotment -/

/-- R214. -/
def execAllotmentPass (duration : Nat) (s : State) : Host.Outcome State Fault Refusal :=
  runCmd true (fun _ h => periodicPass h duration) s

/-- R212: AP_UTIL or AP_LIMIT of the port that the context selects. -/
def execAllotmentLimitWrite (src : Src) (sub value : Nat) (s : State) : Host.Outcome State Fault Refusal :=
  runCmd (sub == 3 || sub == 4) (fun m h => writeNat m h src (0x5402 * 256 + sub) value) s

/-- R219: the service window, or the subscriber window. -/
def execEnvelopeCommit (src : Src) (subscriber : Bool) (s : State) : Host.Outcome State Fault Refusal :=
  runCmd true (fun m h => commitBy m h src (if subscriber then 0x5406 else 0x5404) 1) s

/-- R388. -/
def execEnginePrewake (s : State) : Host.Outcome State Fault Refusal := runCmd true (fun _ h => enginePrewake h) s

/-! MACs -/

/-- R221, R222, R231. -/
def execMacRxFrame (mac : Nat) (frame : Frame) (fcsOk : Bool) (secTag : Option SecTag) (s : State) :
    Host.Outcome State Fault Refusal :=
  runCmd (macWf mac && frame.wf) (fun _ h => macRx h mac frame fcsOk secTag) s

/-- R221. -/
def execPauseFrame (mac quanta : Nat) (s : State) : Host.Outcome State Fault Refusal :=
  runCmd (macWf mac && quanta < 65536) (fun _ h => macPause h mac quanta) s

/-- R221. -/
def execPauseExpiry (mac : Nat) (s : State) : Host.Outcome State Fault Refusal :=
  runCmd (macWf mac) (fun _ h => macPauseEnd h mac) s

/-- R221. -/
def execMacLinkLost (mac : Nat) (s : State) : Host.Outcome State Fault Refusal :=
  runCmd (macWf mac) (fun _ h => macLost h mac) s

/-- R235. -/
def execMacMode (src : Src) (mac value : Nat) (s : State) : Host.Outcome State Fault Refusal :=
  runCmd (macWf mac) (fun m h => writeNat m h src (Obj.MAC_MODE mac) value) s

/-- R232: the secure associations of a MAC are window 0x5805 + 0x20 × m. -/
def execSaCommit (src : Src) (mac : Nat) (s : State) : Host.Outcome State Fault Refusal :=
  runCmd (macWf mac) (fun m h => commitBy m h src (0x5805 + 0x20 * mac) 1) s

/-- R233. -/
def execMsTxAn (src : Src) (mac value : Nat) (s : State) : Host.Outcome State Fault Refusal :=
  runCmd (macWf mac) (fun m h => writeNat m h src (Obj.MS_TX_AN mac) value) s

/-- R511. -/
def execRxqTail (queue : Nat) (setup : RingSetup) (value : Nat) (s : State) : Host.Outcome State Fault Refusal :=
  runCmd true (fun _ h => rxTail h queue setup value) s

/-- R511. -/
def execTxqTail (queue : Nat) (setup : RingSetup) (value : Nat) (s : State) : Host.Outcome State Fault Refusal :=
  runCmd true (fun _ h => txTail h queue setup value) s

/-! Network time -/

/-- R228-R230. -/
def execTimeOffsetMeasure (source : TimeSrc) (reading : TimeReading) (s : State) : Host.Outcome State Fault Refusal :=
  runCmd (reading.rate.natAbs ≤ 1000000 && reading.mac.all (· < 6)) (fun _ h => timeMeasure h source reading.offset reading.rate reading.mac) s

/-- R227. -/
def execTimeSourceLost (source : TimeSrc) (s : State) : Host.Outcome State Fault Refusal :=
  runCmd true (fun _ h => timeLost h source) s

/-- R227. -/
def execTimeSourceTakeover (source : TimeSrc) (s : State) : Host.Outcome State Fault Refusal :=
  runCmd true (fun _ h => timeTakeover h source) s

/-- R230. -/
def execTimePriority (src : Src) (value : Nat) (s : State) : Host.Outcome State Fault Refusal :=
  runCmd true (fun m h => writeNat m h src Obj.TIME_PRIORITY value) s

/-! PCIe -/

/-- R244. -/
def execNvLinkUp (nv speed width : Nat) (s : State) : Host.Outcome State Fault Refusal :=
  runCmd (nvWf nv) (fun _ h => nvLinkUp h nv speed width) s

/-- R242. -/
def execNvRetrain (nv width : Nat) (s : State) : Host.Outcome State Fault Refusal :=
  runCmd (nvWf nv) (fun _ h => nvRetrain h nv width) s

/-- R248. -/
def execNvRemoval (nv : Nat) (s : State) : Host.Outcome State Fault Refusal :=
  runCmd (nvWf nv) (fun _ h => nvRemoval h nv) s

/-- R247. -/
def execUpdateFc (port type limit : Nat) (s : State) : Host.Outcome State Fault Refusal :=
  runCmd (port < 6 && type < 6) (fun _ h => updateFc h port type limit) s

/-- R240. -/
def execFunctionReset (fn : Nat) (s : State) : Host.Outcome State Fault Refusal :=
  runCmd (fn < 4) (fun _ h => functionReset h fn) s

/-- R240, R224: configuration space of F0 to F3, and (4 to 9) of the upstream port and devices 1 to 5. -/
def execPcieConfigWrite (fn reg value : Nat) (s : State) : Host.Outcome State Fault Refusal :=
  runCmd (fn < 10 && reg < 4096) (fun _ h => pcieConfigWrite h fn reg value) s

end Sys2Proof.Machine
end

