-- ==== Sys2Proof/Machine/CmdTwin.lean ====
section
/-! DEFINITION. The meanings of the commands of the twin: the Tyvel link, its frames, mirroring, the token, pairing, Lockstep and the
Equinox (chapter 22). -/

namespace Sys2Proof.Machine

/-- R405: what an encrypted frame does if it is accepted; any other is discarded and counted. -/
def tyvelFrame (h : Hub) (type : TyvelType) (x : TyvelHdr) (f : Hub → Hub) : Hub :=
  let (x, h) := arrivedHdr h type x
  match tyAccept h x with
  | some h => f h
  | none => tyBad h

/-! The link -/

/-- R400, R401. -/
def execTyvelLaneBlock (blocks : List (Option LaneBlock)) (s : State) : Host.Outcome State Fault Refusal :=
  runCmd (blocks.length ≤ 4) (fun _ h => laneBlocks h blocks) s

/-- R406. -/
def execTrain (lane laneNumber : Nat) (ffe : List Byte) (s : State) : Host.Outcome State Fault Refusal :=
  runCmd (laneWf lane) (fun _ h => if hasTwin h then trainFrame (arrivedHdr h .train default).2 lane laneNumber ffe else h) s

/-- R406. -/
def execTyvelLinkUp (lanes : List Nat) (s : State) : Host.Outcome State Fault Refusal :=
  runCmd (lanes.all laneWf) (fun _ h => tyvelUp h lanes) s

/-- R406. -/
def execTyvelLaneRejoin (lane : Nat) (s : State) : Host.Outcome State Fault Refusal :=
  runCmd (laneWf lane) (fun _ h => tyvelRejoin h lane) s

/-! Frames of the link -/

/-- R411, R410. -/
def execAttest (result : AttestResult) (s : State) : Host.Outcome State Fault Refusal :=
  runCmd true (fun _ h => attest (arrivedHdr h .attest default).2 result) s

/-- R404. -/
def execMgmt (hdr : TyvelHdr) (pdu : Pdu) (s : State) : Host.Outcome State Fault Refusal :=
  runCmd pdu.wf (fun m h => tyvelFrame h .mgmt hdr (fun h => receive m h { ctx := .tyvel } pdu)) s

/-- R403, R412. -/
def execMirror (hdr : TyvelHdr) (seq : Nat) (item : MirrorItem) (s : State) : Host.Outcome State Fault Refusal :=
  runCmd true (fun m h => tyvelFrame h .mirror hdr (fun h => mirrorFrame m h seq item)) s

/-- R403. -/
def execMirrorAck (hdr : TyvelHdr) (seq : Nat) (s : State) : Host.Outcome State Fault Refusal :=
  runCmd true (fun _ h => tyvelFrame h .mirrorAck hdr (fun h => mirrorAck h seq)) s

/-- R403. -/
def execMirrorResend (s : State) : Host.Outcome State Fault Refusal := runCmd true (fun _ h => mirrorResend h) s

/-- R415. -/
def execProtectedFrame (hdr : TyvelHdr) (stream seq pos : Nat) (frame : Frame) (s : State) : Host.Outcome State Fault Refusal :=
  runCmd frame.wf (fun _ h => tyvelFrame h .protect hdr (fun h => protectedFrame h stream seq pos frame)) s

/-- R417. -/
def execTileRecords (hdr : TyvelHdr) (desc : Nat) (records : List (Nat × Nat × Nat × List Byte)) (s : State) :
    Host.Outcome State Fault Refusal :=
  runCmd true (fun _ h => tyvelFrame h .tileRecords hdr (fun h => twinRecords h desc records)) s

/-- R413. -/
def execCommit (hdr : TyvelHdr) (descriptor : Bool) (seq applyTime : Nat) (s : State) : Host.Outcome State Fault Refusal :=
  runCmd true (fun _ h => tyvelFrame h .commit hdr (fun h => commitFrame h descriptor seq applyTime)) s

/-- R413: the earliest apply time that is named has come. -/
def execApplyTime (s : State) : Host.Outcome State Fault Refusal :=
  runCmd true (fun m h => forEach (nextDue h) h (applyOne m)) s

/-- R420. -/
def execPhase (hdr : TyvelHdr) (errorMui : Nat) (atLimit : Bool) (s : State) : Host.Outcome State Fault Refusal :=
  runCmd true (fun _ h => tyvelFrame h .phase hdr (fun h => phaseFrame h errorMui atLimit)) s

/-- R418. -/
def execTime (hdr : TyvelHdr) (moment : TwinTime) (roundTrip : Nat) (s : State) : Host.Outcome State Fault Refusal :=
  runCmd (moment.source < 4) (fun _ h => tyvelFrame h .time hdr (fun h => timeFrame h moment.value roundTrip moment.source)) s

/-- R410. -/
def execState (hdr : TyvelHdr) (report : TwinReport) (s : State) : Host.Outcome State Fault Refusal :=
  runCmd true (fun _ h => tyvelFrame h .state hdr (fun h => stateFrame h report)) s

/-- R402. -/
def execStatePeriod (s : State) : Host.Outcome State Fault Refusal := runCmd true (fun _ h => sendState h) s

/-- R423. -/
def execEquinox (hdr : TyvelHdr) (atTime : Nat) (lastSeqs : List (Nat × Nat)) (s : State) : Host.Outcome State Fault Refusal :=
  runCmd true (fun _ h => tyvelFrame h .equinox hdr (fun h => equinoxFrame h atTime lastSeqs)) s

/-- R405. -/
def execRekey (hdr : TyvelHdr) (sending : Bool) (counter : Nat) (s : State) : Host.Outcome State Fault Refusal :=
  runCmd true (fun _ h => tyvelFrame h .rekey hdr (fun h => rekeyFrame h sending counter)) s

/-- R405. -/
def execRekeyDue (s : State) : Host.Outcome State Fault Refusal := runCmd true (fun _ h => rekeyDue h) s

/-! The token and the roles -/

/-- R407. -/
def execTwinAliveToggle (s : State) : Host.Outcome State Fault Refusal := runCmd true (fun _ h => aliveToggle h) s

/-- R408, R409. -/
def execTokenClaim (view : ClaimView) (s : State) : Host.Outcome State Fault Refusal :=
  runCmd true (fun _ h => tokenClaim h view) s

/-- R422. -/
def execTwinFaultDetect (fault : TwinFault) (view : ClaimView) (duration : Nat) (s : State) : Host.Outcome State Fault Refusal :=
  runCmd true (fun _ h => faultDetect h view fault duration) s

/-- R421. -/
def execDemotion (cause : DemotionCause) (s : State) : Host.Outcome State Fault Refusal :=
  runCmd true (fun _ h => demote h cause) s

/-- R410. -/
def execPair (src : Src) (s : State) : Host.Outcome State Fault Refusal :=
  runCmd true (fun m h => writeNat m h src Obj.TW_COMMAND 1) s

/-- R410. -/
def execUnpair (src : Src) (s : State) : Host.Outcome State Fault Refusal :=
  runCmd true (fun m h => writeNat m h src Obj.TW_COMMAND 2) s

/-- R423. -/
def execPlannedEquinox (src : Src) (s : State) : Host.Outcome State Fault Refusal :=
  runCmd true (fun m h => writeNat m h src Obj.TW_COMMAND 3) s

/-- R423. -/
def execEquinoxTime (s : State) : Host.Outcome State Fault Refusal := runCmd true (fun _ h => equinoxTime h) s

/-- R410. -/
def execCatchUpDone (s : State) : Host.Outcome State Fault Refusal := runCmd true (fun _ h => catchUpDone h) s

/-- R419. -/
def execLockstepEntry (errorMui : Nat) (s : State) : Host.Outcome State Fault Refusal :=
  runCmd true (fun m h => lockstepEntry m h errorMui) s

end Sys2Proof.Machine
end

