-- ==== Sys2Proof/Machine/CmdUsb.lean ====
section
/-! DEFINITION. The meanings of the commands of the USB hubs, the hub's own USB device with its telemetry, and Power Delivery
(chapters 17 and 18). -/

namespace Sys2Proof.Machine

/-! Split transactions and ports -/

/-- R320. -/
def execStartSplit (port : Nat) (split : Split) (s : State) : Host.Outcome State Fault Refusal :=
  runCmd (usbPortWf port) (fun _ h => startSplit h port split) s

/-- R322. -/
def execCompleteSplit (port : Nat) (split : Split) (s : State) : Host.Outcome State Fault Refusal :=
  runCmd (usbPortWf port) (fun _ h => completeSplit h port split) s

/-- R322. -/
def execClearTtBuffer (port device endpoint : Nat) (s : State) : Host.Outcome State Fault Refusal :=
  runCmd (usbPortWf port) (fun _ h => clearTt h port device endpoint) s

/-- R331. -/
def execUsbPortReset (usb3 : Bool) (port : Nat) (s : State) : Host.Outcome State Fault Refusal :=
  runCmd (1 ≤ port && port ≤ 8) (fun _ h => portReset h usb3 port) s

/-- R322. -/
def execPortConnect (port speed : Nat) (s : State) : Host.Outcome State Fault Refusal :=
  runCmd (usbPortWf port) (fun _ h => portConnect h port speed) s

/-- R322. -/
def execPortDisconnect (port : Nat) (s : State) : Host.Outcome State Fault Refusal :=
  runCmd (usbPortWf port) (fun _ h => pinDisconnect h port) s

/-! Resets and requests -/

/-- R331. -/
def execUsbBusReset (s : State) : Host.Outcome State Fault Refusal := runCmd true (fun _ h => busReset h) s

/-- R331. -/
def execUsb3HotReset (s : State) : Host.Outcome State Fault Refusal := runCmd true (fun _ h => atPin h 55 .hotReset hotReset) s

/-- R332. -/
def execControlStatusAck (request : ControlWrite) (s : State) : Host.Outcome State Fault Refusal :=
  runCmd true (fun _ h => statusAck h request) s

/-- R327. -/
def execSetInterface (alternate : Nat) (s : State) : Host.Outcome State Fault Refusal :=
  runCmd true (fun _ h => setInterface h alternate) s

/-- R323. -/
def execCarveOutCommit (src : Src) (s : State) : Host.Outcome State Fault Refusal :=
  runCmd true (fun m h => commitBy m h src 0x7005 1) s

/-! Telemetry (R327, R335) -/

/-- R335: the valid entries of the telemetry list, ascending. -/
def telemetryEntries (h : Hub) : List Nat := (List.range 189).filter (fun p => getN h (at_ p Obj.TL_INDEX) != 0)

/-- Table 17.5: the type of a record and its value, extended to 64 bits; 0xFF is an object that has no number, or that the hub
does not read now. A read for telemetry wakes no domain. (DEDUCED, log 34) -/
def telemetryValue (h : Hub) (i sub : Nat) : Nat × Nat :=
  let sized (n : Nat) : Nat := if n ≤ 1 then 1 else if n == 2 then 2 else if n ≤ 4 then 3 else 4
  match rowAt i sub, sleepingDomain h .usb i sub, dictRead h { ctx := .usb } i sub with
  | some r, none, .data bs => match r.ty with
    | .bool => (1, leNat bs)
    | .u n => (sized n, leNat bs)
    | .i n => (4 + sized n, (BitVec.signExtend 64 (BitVec.ofNat (8 * n) (leNat bs))).toNat)
    | _ => (0xFF, 0)
  | _, _, _ => (0xFF, 0)

/-- Table 17.5: one record. (DEDUCED, log 34) -/
def telemetryRecord (h : Hub) (pos : Nat) : List Byte :=
  let i := getN h (at_ pos Obj.TL_INDEX)
  let sub := getN h (at_ pos Obj.TL_SUB)
  let v := telemetryValue h i sub
  leBytes 2 i ++ leBytes 1 sub ++ leBytes 1 v.1 ++ leBytes 4 0 ++ leBytes 8 v.2

/-- The entries of a packet: `n` of them from the cursor on, the list wrapping round. -/
def telemetryTake (es : List Nat) (cursor : Nat) : Nat → List Nat
  | 0 => []
  | n + 1 => match (es.find? (fun p => cursor ≤ p)).orElse (fun _ => es.head?) with
    | some p => p :: telemetryTake es (p + 1) n
    | none => []

/-- R327: the packets of a microframe, oldest first, with the cursor after each. (DEDUCED, log 34) -/
def telemetryPackets (h : Hub) (es : List Nat) : Nat → Nat → Nat → List (List Byte × Nat)
  | 0, _, _ => []
  | n + 1, seq, cursor =>
    let ps := telemetryTake es cursor 63
    let cursor := match ps.getLast? with
      | some p => p + 1
      | none => cursor
    (leBytes 4 seq ++ leBytes 4 ps.length ++ leBytes 8 h.net ++ ps.flatMap (telemetryRecord h), cursor)
      :: telemetryPackets h es n (seq + 1) cursor

/-- R327: one microframe: the packets of the alternate in use are built; the host takes them with its IN tokens, or they are not
sent again. (DEDUCED, log 34) -/
def telemetryMicroframe (h : Hub) (inToken : Bool) : Hub :=
  let n := h.usb.alternate
  let h := if n == 0 then h else deviceWake h
  if n == 0 || !usbUp h || deviceAsleep h then h
  else
    let ps := telemetryPackets h (telemetryEntries h) n (getN h Obj.TELEM_SEQ) h.usb.cursor
    let h := setN h Obj.TELEM_SEQ ((getN h Obj.TELEM_SEQ + n) % 2 ^ 32)
    if inToken then
      let h := forEach ps h (fun h p => send h (.usb "telemetry" [p.1.length] p.1))
      match ps.getLast? with
      | some p => setUsb h (fun u => { u with cursor := p.2 })
      | none => h
    else bump h Obj.TELEM_UNSENT

/-- R327. -/
def execTelemetryMicroframe (inToken : Bool) (s : State) : Host.Outcome State Fault Refusal :=
  runCmd true (fun _ h => telemetryMicroframe h inToken) s

/-! Suspend and wake -/

/-- R329. -/
def execHostResume (s : State) : Host.Outcome State Fault Refusal := runCmd true (fun _ h => hostResume h) s

/-- R329. -/
def execRemoteWake (port : Nat) (s : State) : Host.Outcome State Fault Refusal :=
  runCmd (usbPortWf port) (fun _ h => remoteWake h port) s

/-- R330. -/
def execU3Exit (port : Nat) (fromHost : Bool) (s : State) : Host.Outcome State Fault Refusal :=
  runCmd (usbPortWf port) (fun _ h => atPin h 55 (.u3Exit port fromHost) (fun h => u3Exit h port fromHost)) s

/-- R329. -/
def execSuspend (s : State) : Host.Outcome State Fault Refusal := runCmd true (fun _ h => usbSuspend h) s

/-- R330. -/
def execU3Entry (s : State) : Host.Outcome State Fault Refusal := runCmd true (fun _ h => u3Entry h) s

/-! Power Delivery -/

/-- R336. -/
def execPdAttach (partner : PdPartner) (s : State) : Host.Outcome State Fault Refusal :=
  runCmd (pdWf partner.port) (fun _ h => pdAttach h partner) s

/-- R336. -/
def execPdDetach (port : Nat) (s : State) : Host.Outcome State Fault Refusal :=
  runCmd (pdWf port) (fun _ h => pdDetach h port) s

/-- R342. -/
def execPdRequest (port mv ma : Nat) (s : State) : Host.Outcome State Fault Refusal :=
  runCmd (pdWf port) (fun _ h => pdRequest h port mv ma) s

/-- R338. -/
def execContractPsRdy (port : Nat) (s : State) : Host.Outcome State Fault Refusal :=
  runCmd (pdWf port) (fun _ h => psRdy h port) s

/-- R342. -/
def execCutTimeout (port : Nat) (s : State) : Host.Outcome State Fault Refusal :=
  runCmd (pdWf port) (fun _ h => cutTimeout h port) s

/-- R340: PB_MIN of a port, PB_SUPPLY or PB_RESERVE. -/
def execPbWrite (src : Src) (idx sub value : Nat) (s : State) : Host.Outcome State Fault Refusal :=
  runCmd (objWf idx sub) (fun m h => writeNat m h src (idx * 256 + sub) value) s

/-- R343. -/
def execPrSwap (port : Nat) (hubToSink : Bool) (s : State) : Host.Outcome State Fault Refusal :=
  runCmd (pdWf port) (fun _ h => partnerSwap h port (.pr hubToSink)) s

/-- R343. -/
def execDrSwap (port : Nat) (hubToUfp : Bool) (s : State) : Host.Outcome State Fault Refusal :=
  runCmd (pdWf port) (fun _ h => partnerSwap h port (.dr hubToUfp)) s

/-- R343. -/
def execVconnSwap (port : Nat) (s : State) : Host.Outcome State Fault Refusal :=
  runCmd (pdWf port) (fun _ h => partnerSwap h port .vconn) s

/-- R344. -/
def execSwapSend (port : Nat) (kind : SwapKind) (answer : SwapAnswer) (s : State) : Host.Outcome State Fault Refusal :=
  runCmd (pdWf port) (fun _ h => swapSend h port kind answer) s

/-- R345. -/
def execHardReset (port : Nat) (byPartner : Bool) (s : State) : Host.Outcome State Fault Refusal :=
  runCmd (pdWf port) (fun _ h => hardReset h port byPartner) s

/-- R346. -/
def execVbusSafe0V (port : Nat) (s : State) : Host.Outcome State Fault Refusal :=
  runCmd (pdWf port) (fun _ h => safe0V h port) s

/-- R348. -/
def execAdapterOkLow (s : State) : Host.Outcome State Fault Refusal := runCmd true (fun _ h => adapterLow h) s

/-- R348. -/
def execFrsVbusArrival (s : State) : Host.Outcome State Fault Refusal := runCmd true (fun _ h => frsArrival h) s

/-- R349. -/
def execFrsVbusTimeout (s : State) : Host.Outcome State Fault Refusal := runCmd true (fun _ h => frsTimeout h) s

/-- R348. -/
def execFrSwapComplete (s : State) : Host.Outcome State Fault Refusal := runCmd true (fun _ h => frSwapComplete h) s

/-- R350. -/
def execIoutReading (ma : Nat) (s : State) : Host.Outcome State Fault Refusal :=
  runCmd true (fun _ h => ioutReading h ma) s

/-- R352. -/
def execAdapterOkReturn (s : State) : Host.Outcome State Fault Refusal := runCmd true (fun _ h => adapterReturn h) s

/-- R352. -/
def execPrSwapRetry (accepted : Bool) (s : State) : Host.Outcome State Fault Refusal :=
  runCmd true (fun _ h => swapRetry h accepted) s

/-- R354. -/
def execStageFault (ports : List Nat) (s : State) : Host.Outcome State Fault Refusal :=
  runCmd (ports.all pdWf) (fun _ h => stageFault h ports) s

/-- R337. -/
def execDiscoverIdentity (port cableMa : Nat) (epr : Bool) (s : State) : Host.Outcome State Fault Refusal :=
  runCmd (pdWf port) (fun _ h => discoverIdentity h port cableMa epr) s

/-- R337. -/
def execEprModeEntry (port : Nat) (s : State) : Host.Outcome State Fault Refusal :=
  runCmd (pdWf port) (fun _ h => eprEntry h port) s

/-- R347. -/
def execSinkCapabilities (frsCurrent : Nat) (s : State) : Host.Outcome State Fault Refusal :=
  runCmd true (fun _ h => sinkCaps h frsCurrent) s

end Sys2Proof.Machine
end

