-- ==== Sys2Proof/Machine/Dispatch.lean ====
section
/-! DEFINITION. What each command does: one arm for each row of spec/opcode_table.json. -/

namespace Sys2Proof.Machine

/-- One command on everything but the queue. -/
def exec (i : Instr) (s : State) : Host.Outcome State Fault Refusal :=
  match i with
  | .objectWrite src idx sub value => Sys2Proof.Machine.execObjectWrite src idx sub value s
  | .windowCommit src idx => Sys2Proof.Machine.execWindowCommit src idx s
  | .commitDiscard src idx => Sys2Proof.Machine.execCommitDiscard src idx s
  | .flagClear src idx sub => Sys2Proof.Machine.execFlagClear src idx sub s
  | .peakRestart src idx sub => Sys2Proof.Machine.execPeakRestart src idx sub s
  | .bar0Access write offset size data => Sys2Proof.Machine.execBar0Access write offset size data s
  | .wideRead offset => Sys2Proof.Machine.execWideRead offset s
  | .store src key => Sys2Proof.Machine.execStore src key s
  | .restoreDefaults src key => Sys2Proof.Machine.execRestoreDefaults src key s
  | .storeDone ok => Sys2Proof.Machine.execStoreDone ok s
  | .unitQuarantine src unit => Sys2Proof.Machine.execUnitQuarantine src unit s
  | .unitRelease src unit => Sys2Proof.Machine.execUnitRelease src unit s
  | .unitReset src unit => Sys2Proof.Machine.execUnitReset src unit s
  | .unitFault fault => Sys2Proof.Machine.execUnitFault fault s
  | .regionUndervoltage region => Sys2Proof.Machine.execRegionUndervoltage region s
  | .readRequest peer pdu => Sys2Proof.Machine.execReadRequest peer pdu s
  | .writeRequest peer pdu => Sys2Proof.Machine.execWriteRequest peer pdu s
  | .writeSegment peer pdu => Sys2Proof.Machine.execWriteSegment peer pdu s
  | .blockSegment peer pdu => Sys2Proof.Machine.execBlockSegment peer pdu s
  | .blockAcknowledgement peer pdu => Sys2Proof.Machine.execBlockAcknowledgement peer pdu s
  | .clientAbort peer pdu => Sys2Proof.Machine.execClientAbort peer pdu s
  | .windowBulkRequest peer pdu => Sys2Proof.Machine.execWindowBulkRequest peer pdu s
  | .heartbeatReceived peer pdu => Sys2Proof.Machine.execHeartbeatReceived peer pdu s
  | .timeBroadcastReceived peer pdu => Sys2Proof.Machine.execTimeBroadcastReceived peer pdu s
  | .segmentGapTimeout tid => Sys2Proof.Machine.execSegmentGapTimeout tid s
  | .blockAckTimeout tid => Sys2Proof.Machine.execBlockAckTimeout tid s
  | .emergencyInhibit ctx => Sys2Proof.Machine.execEmergencyInhibit ctx s
  | .udpDatagram mac srcIp srcPort dstIp vlan bytes => Sys2Proof.Machine.execUdpDatagram mac srcIp srcPort dstIp vlan bytes s
  | .arpRequest mac target senderIp senderMac => Sys2Proof.Machine.execArpRequest mac target senderIp senderMac s
  | .usbVendorTransfer bytes => Sys2Proof.Machine.execUsbVendorTransfer bytes s
  | .h2dProducer setup value => Sys2Proof.Machine.execH2dProducer setup value s
  | .d2hConsumer setup value => Sys2Proof.Machine.execD2hConsumer setup value s
  | .functionReset fn => Sys2Proof.Machine.execFunctionReset fn s
  | .frameIngress port frame => Sys2Proof.Machine.execFrameIngress port frame s
  | .grateStep faults => Sys2Proof.Machine.execGrateStep faults s
  | .eccWriteBack portB group => Sys2Proof.Machine.execEccWriteBack portB group s
  | .patrolScrub errors => Sys2Proof.Machine.execPatrolScrub errors s
  | .portBRequest req => Sys2Proof.Machine.execPortBRequest req s
  | .auditStart src value => Sys2Proof.Machine.execAuditStart src value s
  | .reliefRowTake group row => Sys2Proof.Machine.execReliefRowTake group row s
  | .releaseDecision port => Sys2Proof.Machine.execReleaseDecision port s
  | .frameRelease port => Sys2Proof.Machine.execFrameRelease port s
  | .egressLaunch port => Sys2Proof.Machine.execEgressLaunch port s
  | .gateEntryAdvance port => Sys2Proof.Machine.execGateEntryAdvance port s
  | .configChange src value => Sys2Proof.Machine.execConfigChange src value s
  | .gateSwap port => Sys2Proof.Machine.execGateSwap port s
  | .subscriberCommit src => Sys2Proof.Machine.execSubscriberCommit src s
  | .shaperCommit src portWindow => Sys2Proof.Machine.execShaperCommit src portWindow s
  | .portEnable src port value => Sys2Proof.Machine.execPortEnable src port value s
  | .portDown port cause => Sys2Proof.Machine.execPortDown port cause s
  | .portFlushDone port => Sys2Proof.Machine.execPortFlushDone port s
  | .portUp port => Sys2Proof.Machine.execPortUp port s
  | .flowEntryCommit src wildcard => Sys2Proof.Machine.execFlowEntryCommit src wildcard s
  | .multicastCommit src => Sys2Proof.Machine.execMulticastCommit src s
  | .policerCommit src => Sys2Proof.Machine.execPolicerCommit src s
  | .profileWrite src sub value => Sys2Proof.Machine.execProfileWrite src sub value s
  | .configSpaceWrite part reg value => Sys2Proof.Machine.execConfigSpaceWrite part reg value s
  | .pathEnable path => Sys2Proof.Machine.execPathEnable path s
  | .pathDisable usbPort pos => Sys2Proof.Machine.execPathDisable usbPort pos s
  | .creditGrant usbPort pos => Sys2Proof.Machine.execCreditGrant usbPort pos s
  | .creditArrival usbPort pos credits => Sys2Proof.Machine.execCreditArrival usbPort pos credits s
  | .dnLinkLost usbPort => Sys2Proof.Machine.execDnLinkLost usbPort s
  | .usb4LinkUp usbPort mode lanes rxRate txRate => Sys2Proof.Machine.execUsb4LinkUp usbPort mode lanes rxRate txRate s
  | .linkNarrowing usbPort kept => Sys2Proof.Machine.execLinkNarrowing usbPort kept s
  | .asymmetricTransition usbPort shape rxRate txRate => Sys2Proof.Machine.execAsymmetricTransition usbPort shape rxRate txRate s
  | .usb4Fallback usbPort gen => Sys2Proof.Machine.execUsb4Fallback usbPort gen s
  | .bandwidthAllocationRequest tunnel rate => Sys2Proof.Machine.execBandwidthAllocationRequest tunnel rate s
  | .allotmentPass duration => Sys2Proof.Machine.execAllotmentPass duration s
  | .allotmentLimitWrite src sub value => Sys2Proof.Machine.execAllotmentLimitWrite src sub value s
  | .envelopeCommit src subscriber => Sys2Proof.Machine.execEnvelopeCommit src subscriber s
  | .macRxFrame mac frame fcsOk secTag => Sys2Proof.Machine.execMacRxFrame mac frame fcsOk secTag s
  | .pauseFrame mac quanta => Sys2Proof.Machine.execPauseFrame mac quanta s
  | .pauseExpiry mac => Sys2Proof.Machine.execPauseExpiry mac s
  | .macLinkLost mac => Sys2Proof.Machine.execMacLinkLost mac s
  | .macMode src mac value => Sys2Proof.Machine.execMacMode src mac value s
  | .saCommit src mac => Sys2Proof.Machine.execSaCommit src mac s
  | .msTxAn src mac value => Sys2Proof.Machine.execMsTxAn src mac value s
  | .rxqTail queue setup value => Sys2Proof.Machine.execRxqTail queue setup value s
  | .txqTail queue setup value => Sys2Proof.Machine.execTxqTail queue setup value s
  | .timeOffsetMeasure source reading => Sys2Proof.Machine.execTimeOffsetMeasure source reading s
  | .timeSourceLost source => Sys2Proof.Machine.execTimeSourceLost source s
  | .timeSourceTakeover source => Sys2Proof.Machine.execTimeSourceTakeover source s
  | .timePriority src value => Sys2Proof.Machine.execTimePriority src value s
  | .nvLinkUp nv speed width => Sys2Proof.Machine.execNvLinkUp nv speed width s
  | .nvRetrain nv width => Sys2Proof.Machine.execNvRetrain nv width s
  | .nvRemoval nv => Sys2Proof.Machine.execNvRemoval nv s
  | .updateFc port type limit => Sys2Proof.Machine.execUpdateFc port type limit s
  | .surfaceCommit src => Sys2Proof.Machine.execSurfaceCommit src s
  | .ingControl value => Sys2Proof.Machine.execIngControl value s
  | .ingProducer descs value => Sys2Proof.Machine.execIngProducer descs value s
  | .tileCode surface plane tile samples => Sys2Proof.Machine.execTileCode surface plane tile samples s
  | .precodedRecord surface plane tile pitch bytes => Sys2Proof.Machine.execPrecodedRecord surface plane tile pitch bytes s
  | .tileRetry surface => Sys2Proof.Machine.execTileRetry surface s
  | .interlockResume surface plane row => Sys2Proof.Machine.execInterlockResume surface plane row s
  | .headLineStart start => Sys2Proof.Machine.execHeadLineStart start s
  | .layerUnderrun head layer plane => Sys2Proof.Machine.execLayerUnderrun head layer plane s
  | .hPresent src head value => Sys2Proof.Machine.execHPresent src head value s
  | .hEnable src head value => Sys2Proof.Machine.execHEnable src head value s
  | .hTiming src head value => Sys2Proof.Machine.execHTiming src head value s
  | .hSyncMode src head value => Sys2Proof.Machine.execHSyncMode src head value s
  | .timingCommit src => Sys2Proof.Machine.execTimingCommit src s
  | .formatCommit src => Sys2Proof.Machine.execFormatCommit src s
  | .lSurface src head layer value => Sys2Proof.Machine.execLSurface src head layer value s
  | .slotCommit src => Sys2Proof.Machine.execSlotCommit src s
  | .hotPlug output caps => Sys2Proof.Machine.execHotPlug output caps s
  | .trainingDone output rate lanes => Sys2Proof.Machine.execTrainingDone output rate lanes s
  | .hotUnplug output => Sys2Proof.Machine.execHotUnplug output s
  | .hpdIrq output vector => Sys2Proof.Machine.execHpdIrq output vector s
  | .relink output rate => Sys2Proof.Machine.execRelink output rate s
  | .auxRequest adapter kind => Sys2Proof.Machine.execAuxRequest adapter kind s
  | .auxTimeout output => Sys2Proof.Machine.execAuxTimeout output s
  | .streamStarved slot => Sys2Proof.Machine.execStreamStarved slot s
  | .streamResume slot => Sys2Proof.Machine.execStreamResume slot s
  | .streamHoldExpiry slot => Sys2Proof.Machine.execStreamHoldExpiry slot s
  | .startSplit port split => Sys2Proof.Machine.execStartSplit port split s
  | .completeSplit port split => Sys2Proof.Machine.execCompleteSplit port split s
  | .clearTtBuffer port device endpoint => Sys2Proof.Machine.execClearTtBuffer port device endpoint s
  | .usbPortReset usb3 port => Sys2Proof.Machine.execUsbPortReset usb3 port s
  | .controlStatusAck request => Sys2Proof.Machine.execControlStatusAck request s
  | .setInterface alternate => Sys2Proof.Machine.execSetInterface alternate s
  | .telemetryMicroframe inToken => Sys2Proof.Machine.execTelemetryMicroframe inToken s
  | .carveOutCommit src => Sys2Proof.Machine.execCarveOutCommit src s
  | .remoteWake port => Sys2Proof.Machine.execRemoteWake port s
  | .u3Exit port fromHost => Sys2Proof.Machine.execU3Exit port fromHost s
  | .pdAttach partner => Sys2Proof.Machine.execPdAttach partner s
  | .pdDetach port => Sys2Proof.Machine.execPdDetach port s
  | .pdRequest port mv ma => Sys2Proof.Machine.execPdRequest port mv ma s
  | .contractPsRdy port => Sys2Proof.Machine.execContractPsRdy port s
  | .cutTimeout port => Sys2Proof.Machine.execCutTimeout port s
  | .pbWrite src idx sub value => Sys2Proof.Machine.execPbWrite src idx sub value s
  | .prSwap port hubToSink => Sys2Proof.Machine.execPrSwap port hubToSink s
  | .drSwap port hubToUfp => Sys2Proof.Machine.execDrSwap port hubToUfp s
  | .vconnSwap port => Sys2Proof.Machine.execVconnSwap port s
  | .swapSend port kind answer => Sys2Proof.Machine.execSwapSend port kind answer s
  | .hardReset port byPartner => Sys2Proof.Machine.execHardReset port byPartner s
  | .vbusSafe0V port => Sys2Proof.Machine.execVbusSafe0V port s
  | .ioutReading ma => Sys2Proof.Machine.execIoutReading ma s
  | .prSwapRetry accepted => Sys2Proof.Machine.execPrSwapRetry accepted s
  | .stageFault ports => Sys2Proof.Machine.execStageFault ports s
  | .txFfeWrite src lane value => Sys2Proof.Machine.execTxFfeWrite src lane value s
  | .ffeRampStep lane => Sys2Proof.Machine.execFfeRampStep lane s
  | .dfeAdaptStep receiver moves => Sys2Proof.Machine.execDfeAdaptStep receiver moves s
  | .ctleAdaptStep receiver move => Sys2Proof.Machine.execCtleAdaptStep receiver move s
  | .rxAdapt src lane value => Sys2Proof.Machine.execRxAdapt src lane value s
  | .eyeScanDone lane margins second => Sys2Proof.Machine.execEyeScanDone lane margins second s
  | .laneSleepRequest lane rx state => Sys2Proof.Machine.execLaneSleepRequest lane rx state s
  | .laneExit lane rx => Sys2Proof.Machine.execLaneExit lane rx s
  | .lnEnable src lane value => Sys2Proof.Machine.execLnEnable src lane value s
  | .lnLoop src lane value => Sys2Proof.Machine.execLnLoop src lane value s
  | .prbsTx src lane value => Sys2Proof.Machine.execPrbsTx src lane value s
  | .prbsRx src lane value => Sys2Proof.Machine.execPrbsRx src lane value s
  | .prbsInject src lane value => Sys2Proof.Machine.execPrbsInject src lane value s
  | .laneLockLost lane => Sys2Proof.Machine.execLaneLockLost lane s
  | .reacquireTimeout lane => Sys2Proof.Machine.execReacquireTimeout lane s
  | .laneRelock lane => Sys2Proof.Machine.execLaneRelock lane s
  | .paceReading bank logic tj trusted => Sys2Proof.Machine.execPaceReading bank logic tj trusted s
  | .flare cause => Sys2Proof.Machine.execFlare cause s
  | .emberEntry domain => Sys2Proof.Machine.execEmberEntry domain s
  | .offEntry domain => Sys2Proof.Machine.execOffEntry domain s
  | .dmRequestSleep src domain => Sys2Proof.Machine.execDmRequestSleep src domain s
  | .dmRequestWake src domain => Sys2Proof.Machine.execDmRequestWake src domain s
  | .dmWakeTimer domain => Sys2Proof.Machine.execDmWakeTimer domain s
  | .domainWake domain cause failed duration => Sys2Proof.Machine.execDomainWake domain cause failed duration s
  | .railRelease rail => Sys2Proof.Machine.execRailRelease rail s
  | .railPowerGood rail => Sys2Proof.Machine.execRailPowerGood rail s
  | .railTimeout rail => Sys2Proof.Machine.execRailTimeout rail s
  | .tyvelLaneBlock blocks => Sys2Proof.Machine.execTyvelLaneBlock blocks s
  | .train lane laneNumber ffe => Sys2Proof.Machine.execTrain lane laneNumber ffe s
  | .tyvelLinkUp lanes => Sys2Proof.Machine.execTyvelLinkUp lanes s
  | .tyvelLaneRejoin lane => Sys2Proof.Machine.execTyvelLaneRejoin lane s
  | .attest result => Sys2Proof.Machine.execAttest result s
  | .mgmt hdr pdu => Sys2Proof.Machine.execMgmt hdr pdu s
  | .mirror hdr seq item => Sys2Proof.Machine.execMirror hdr seq item s
  | .mirrorAck hdr seq => Sys2Proof.Machine.execMirrorAck hdr seq s
  | .protectedFrame hdr stream seq pos frame => Sys2Proof.Machine.execProtectedFrame hdr stream seq pos frame s
  | .tileRecords hdr desc records => Sys2Proof.Machine.execTileRecords hdr desc records s
  | .commit hdr descriptor seq applyTime => Sys2Proof.Machine.execCommit hdr descriptor seq applyTime s
  | .phase hdr errorMui atLimit => Sys2Proof.Machine.execPhase hdr errorMui atLimit s
  | .time hdr moment delay => Sys2Proof.Machine.execTime hdr moment delay s
  | .state hdr report => Sys2Proof.Machine.execState hdr report s
  | .equinox hdr atTime lastSeqs => Sys2Proof.Machine.execEquinox hdr atTime lastSeqs s
  | .rekey hdr sending counter => Sys2Proof.Machine.execRekey hdr sending counter s
  | .tokenClaim view => Sys2Proof.Machine.execTokenClaim view s
  | .twinFaultDetect fault view duration => Sys2Proof.Machine.execTwinFaultDetect fault view duration s
  | .demotion cause => Sys2Proof.Machine.execDemotion cause s
  | .pair src => Sys2Proof.Machine.execPair src s
  | .unpair src => Sys2Proof.Machine.execUnpair src s
  | .plannedEquinox src => Sys2Proof.Machine.execPlannedEquinox src s
  | .lockstepEntry errorMui => Sys2Proof.Machine.execLockstepEntry errorMui s
  | .generate src => Sys2Proof.Machine.execGenerate src s
  | .importKey src => Sys2Proof.Machine.execImportKey src s
  | .derive src => Sys2Proof.Machine.execDerive src s
  | .exportWrapped src => Sys2Proof.Machine.execExportWrapped src s
  | .erase src => Sys2Proof.Machine.execErase src s
  | .makePersistent src recordOk => Sys2Proof.Machine.execMakePersistent src recordOk s
  | .sign src => Sys2Proof.Machine.execSign src s
  | .macOp src => Sys2Proof.Machine.execMacOp src s
  | .keyPropertyStatement src => Sys2Proof.Machine.execKeyPropertyStatement src s
  | .keyOperationDone ok => Sys2Proof.Machine.execKeyOperationDone ok s
  | .spdmRequest src message => Sys2Proof.Machine.execSpdmRequest src message s
  | .entropyFault reseeded => Sys2Proof.Machine.execEntropyFault reseeded s
  | .tamper change => Sys2Proof.Machine.execTamper change s
  | .gCommitShadow src guard => Sys2Proof.Machine.execGCommitShadow src guard s
  | .gCommitCopy src guard => Sys2Proof.Machine.execGCommitCopy src guard s
  | .epochDrained guard => Sys2Proof.Machine.execEpochDrained guard s
  | .healthReport code unit => Sys2Proof.Machine.execHealthReport code unit s
  | .healthRowClear row unit => Sys2Proof.Machine.execHealthRowClear row unit s
  | .healthTableCommit src => Sys2Proof.Machine.execHealthTableCommit src s
  | .mapoutClear src key => Sys2Proof.Machine.execMapoutClear src key s
  | .powerOn straps => Sys2Proof.Machine.execPowerOn straps s
  | .resetN straps widthNs => Sys2Proof.Machine.execResetN straps widthNs s
  | .hubReset src key => Sys2Proof.Machine.execHubReset src key s
  | .fwImage src image => Sys2Proof.Machine.execFwImage src image s
  | .imageProgrammed ok => Sys2Proof.Machine.execImageProgrammed ok s
  | .fwActivate src value => Sys2Proof.Machine.execFwActivate src value s
  | .fwAccept src value => Sys2Proof.Machine.execFwAccept src value s
  | .fwPermitUntested src key => Sys2Proof.Machine.execFwPermitUntested src key s
  | .wakeTimeout domain => Sys2Proof.Machine.execWakeTimeout domain s
  | .prbsSyncGained lane => Sys2Proof.Machine.execPrbsSyncGained lane s
  | .prbsSyncLost lane bits errors => Sys2Proof.Machine.execPrbsSyncLost lane bits errors s
  | .discoverIdentity port cableMa epr => Sys2Proof.Machine.execDiscoverIdentity port cableMa epr s
  | .eprModeEntry port => Sys2Proof.Machine.execEprModeEntry port s
  | .alternateModeEntry usbPort pins => Sys2Proof.Machine.execAlternateModeEntry usbPort pins s
  | .alternateModeExit usbPort => Sys2Proof.Machine.execAlternateModeExit usbPort s
  | .sinkCapabilities frsCurrent => Sys2Proof.Machine.execSinkCapabilities frsCurrent s
  | .portConnect port speed => Sys2Proof.Machine.execPortConnect port speed s
  | .portDisconnect port => Sys2Proof.Machine.execPortDisconnect port s
  | .streamStart adapter stream attrs => Sys2Proof.Machine.execStreamStart adapter stream attrs s
  | .pcieConfigWrite fn reg value => Sys2Proof.Machine.execPcieConfigWrite fn reg value s
  | .abortCodeRead => Sys2Proof.Machine.execAbortCodeRead s
  | .heartbeatPeriod => Sys2Proof.Machine.execHeartbeatPeriod s
  | .managerTimeout => Sys2Proof.Machine.execManagerTimeout s
  | .timePeriod => Sys2Proof.Machine.execTimePeriod s
  | .canBusOff => Sys2Proof.Machine.execCanBusOff s
  | .mbxStatusRead => Sys2Proof.Machine.execMbxStatusRead s
  | .violationRecord => Sys2Proof.Machine.execViolationRecord s
  | .auditInterval => Sys2Proof.Machine.execAuditInterval s
  | .auditDone => Sys2Proof.Machine.execAuditDone s
  | .mirrorReentry => Sys2Proof.Machine.execMirrorReentry s
  | .upLinkLost => Sys2Proof.Machine.execUpLinkLost s
  | .enginePrewake => Sys2Proof.Machine.execEnginePrewake s
  | .ingestDescriptor => Sys2Proof.Machine.execIngestDescriptor s
  | .teCEdge => Sys2Proof.Machine.execTeCEdge s
  | .usbBusReset => Sys2Proof.Machine.execUsbBusReset s
  | .usb3HotReset => Sys2Proof.Machine.execUsb3HotReset s
  | .hostResume => Sys2Proof.Machine.execHostResume s
  | .adapterOkLow => Sys2Proof.Machine.execAdapterOkLow s
  | .frsVbusArrival => Sys2Proof.Machine.execFrsVbusArrival s
  | .frsVbusTimeout => Sys2Proof.Machine.execFrsVbusTimeout s
  | .frSwapComplete => Sys2Proof.Machine.execFrSwapComplete s
  | .adapterOkReturn => Sys2Proof.Machine.execAdapterOkReturn s
  | .bellowsStep => Sys2Proof.Machine.execBellowsStep s
  | .avsResponse => Sys2Proof.Machine.execAvsResponse s
  | .avsTimeout => Sys2Proof.Machine.execAvsTimeout s
  | .avsFaultRetry => Sys2Proof.Machine.execAvsFaultRetry s
  | .bwCeiling => Sys2Proof.Machine.execBwCeiling s
  | .mirrorResend => Sys2Proof.Machine.execMirrorResend s
  | .applyTime => Sys2Proof.Machine.execApplyTime s
  | .statePeriod => Sys2Proof.Machine.execStatePeriod s
  | .rekeyDue => Sys2Proof.Machine.execRekeyDue s
  | .twinAliveToggle => Sys2Proof.Machine.execTwinAliveToggle s
  | .equinoxTime => Sys2Proof.Machine.execEquinoxTime s
  | .catchUpDone => Sys2Proof.Machine.execCatchUpDone s
  | .watchdog => Sys2Proof.Machine.execWatchdog s
  | .fwTrialTime => Sys2Proof.Machine.execFwTrialTime s
  | .powerLoss => Sys2Proof.Machine.execPowerLoss s
  | .suspend => Sys2Proof.Machine.execSuspend s
  | .u3Entry => Sys2Proof.Machine.execU3Entry s
  | .junctionOvertemperature => Sys2Proof.Machine.execJunctionOvertemperature s

end Sys2Proof.Machine
end

