-- ==== Sys2Proof/Machine/Step.lean ====
section
/-! DEFINITION. One step of the hub: the command at the front of the queue, or, with no command waiting, one nanosecond. -/

namespace Sys2Proof.Machine

/-- No command waits: a nanosecond of the hub's clocks, the credits that the PCIe switch owes, and what ends with that nanosecond, with what
follows from it. (DESIGN CHOICE, log 1) -/
def idle (s : State) : State :=
  if !s.hub.fw.powered then s
  else if idleDue s.hub then runOn (fun _ h => idleEnds (idleHub h)) s
  else { s with hub := idleHub s.hub }

/-- The front command runs on the state without it. (DESIGN CHOICE, log 1) -/
def step (s : State) : Host.Outcome State Fault Refusal :=
  match s.pending with
  | [] => .next (idle s)
  | c :: rest => exec c { s with pending := rest }

/-- `s` with the command that a word spells in front of its queue; no word spells one. (DESIGN CHOICE, log 3) -/
def State.withFetchWord (s : State) (nbits w : Nat) : State :=
  match decodeTableWord nbits w with
  | some c => { s with pending := c :: s.pending }
  | none => s

end Sys2Proof.Machine
end

