-- ==== Sys2Proof/Safety.lean ====
section
/-! DEFINITION. What a hub is between commands, whatever commands came: nothing that a command asked for is left undone, and the Hearth's
content is in its canonical form. -/

namespace Sys2Proof

/-- Between commands no reaction, no byte of a write and no zeroing of a group waits, and the outcome of a flash write is not held. -/
def settled (s : Machine.State) : Prop :=
  s.hub.todo = [] ∧ s.hub.stores = [] ∧ s.hub.zeroed = [] ∧ s.hub.recordOk = true

/-- R91, R92, R108: the Hearth's content lists addresses of the part's rows, strictly rising, and no 0. -/
def hearthOk (s : Machine.State) : Prop := Machine.Memory.wf s.hub.part s.mem = true

/-- A hub with power and without a twin (R410: TW_STATE 0), for which no flash operation holds a reset back (R481) and no mirrored
write is due, and that no tamper makes give its token up (R421): what a command asks of the rest of the hub is then all that can happen besides the command's own effect. -/
def quiet (s : Machine.State) : Prop :=
  settled s ∧ s.hub.fw.powered = true ∧ s.hub.fw.resetWait = false
    ∧ Machine.getN s.hub Machine.Obj.TW_STATE = 0 ∧ s.hub.twin.applies.filter (fun a => a.time == some 0) = []
    ∧ (Machine.isActive s.hub && Machine.tampered s.hub) = false

/-- The well-formed command `i` runs on every hub with power, and the next state is what its own effect `f` and the reactions that the
effect asks for leave (`runOn`). -/
def runsAs (i : Instr) (f : List Host.Cell → Machine.Hub → Machine.Hub) : Prop :=
  i.wf = true → ∀ s : Machine.State, s.hub.fw.powered = true → Machine.exec i s = .next (Machine.runOn f s)

/-- The plain dictionary write of a number to the object of a key, at the object's width. -/
def writeOf (src : Src) (k n : Nat) : Instr :=
  .objectWrite src (Machine.keyIdx k) (Machine.keySub k)
    (leBytes (match Machine.rowAt (Machine.keyIdx k) (Machine.keySub k) with
      | some r => r.ty.size
      | none => 1) n)

/-- R484: a hub stays the part that its fuses make it. -/
def samePart (s t : Machine.State) : Prop := t.hub.part = s.hub.part

end Sys2Proof
end

