-- ==== Sys2Proof/Certificates/Slice0/Obligations.lean ====
section
/-! DEFINITION. The statements about the hub that are to be proved: whole-machine rules, then family by family, then, of every
command, that it runs. -/

open Sys2Proof Sys2Proof.Machine

/-- O1. For every command c, every list of waiting commands and every state s: step of s with c in front of those commands is exec of c on s
with those commands alone waiting. Rests on opcode_table. -/
def Obligations.StepRunsTheFrontCommand : Prop :=
    ∀ (c : Instr) (rest : List Instr) (s : State),
    step { s with pending := c :: rest } = exec c { s with pending := rest }

/-- O2. The model's own choice (log entry 1): with no command waiting, a step of a hub with power answers a next state in which the hub's
clock is one nanosecond on and network time has not run backwards and moved by at most 2 ns, with the dictionary, the selectors, the
staged fields, the Hearth, the Grate, the domains and the queue unchanged, and the keys too while the Tyvel link is down, unless the
entry of a domain or the time for pairing ends with that nanosecond: then the next state is the one that this end and the reactions that
it asks for leave. Without power the state is unchanged. That network time does not run backwards is the first sentence of the manual's
rule on the time unit. Rests on 12_ethernet_time, 03_clockless_core. -/
def Obligations.EmptyQueueLetsANanosecondPass : Prop :=
    ∀ s : State, s.pending = [] →
    (s.hub.fw.powered = true → idleDue s.hub = false → ∃ t, step s = .next t ∧ t.hub.now = s.hub.now + 1 ∧ s.hub.net ≤ t.hub.net ∧ t.hub.net ≤ s.hub.net + 2
      ∧ t.hub.dict = s.hub.dict ∧ t.hub.sel = s.hub.sel ∧ t.hub.staged = s.hub.staged ∧ t.mem = s.mem ∧ t.pending = []
      ∧ t.hub.grate = s.hub.grate ∧ t.hub.hearth = s.hub.hearth ∧ t.hub.domains = s.hub.domains
      ∧ (s.hub.twin.linkUp = false → t.hub.keys = s.hub.keys))
    ∧ (s.hub.fw.powered = true → idleDue s.hub = true → step s = .next (runOn (fun _ h => idleEnds (idleHub h)) s))
    ∧ (s.hub.fw.powered = false → step s = .next s)

/-- O3. In the reset state the season is Spring (0), the domains PW57 and PW63 are On and every other domain is Off, every object is at its
default, no unit is quarantined or mapped out, the flash is empty, the Hearth lists nothing and no command waits; nothing is left undone
and the Hearth's content is in canonical form. Defaults and an empty flash that the manual does not give are the model's (log 5). Rests
on 26_startup_firmware, 21_power_domains, 25_health_seasons, 06_hearth. -/
def Obligations.ResetIsSpring : Prop :=
    getN State.reset.hub Obj.SEASON = 0
    ∧ (∀ d, domState State.reset.hub d = if d = 57 ∨ d = 63 then 1 else 3)
    ∧ State.reset.hub.dict = [] ∧ State.reset.hub.quarantined = [] ∧ State.reset.hub.mapped = []
    ∧ State.reset.hub.fw.images = [] ∧ State.reset.mem = [] ∧ State.reset.pending = []
    ∧ settled State.reset ∧ hearthOk State.reset

/-- O4. For every state whose Hearth content is in canonical form (addresses strictly rising, within the part's rows, no 0 listed) and in
which no reaction, write or zeroing waits: if a step answers a next state, that state is so too, and it is the same part. Rests on
06_hearth, 27_variants. -/
def Obligations.StepKeepsTheHearthCanonical : Prop :=
    ∀ s t : State, hearthOk s → settled s → step s = .next t → hearthOk t ∧ settled t ∧ samePart s t

/-- O5. For every command and state: exec answers a next state; it never faults and never refuses. That state has the same waiting commands
and is the same part. A command that names something the hub has no wires for changes nothing at all (the model's own choice, log entry
4). Rests on opcode_table, 00_scope, 27_variants. -/
def Obligations.EveryCommandAnswersANextState : Prop :=
    ∀ (i : Instr) (s : State), ∃ t, exec i s = .next t ∧ t.pending = s.pending ∧ samePart s t
    ∧ (i.wf = false → t = s)

/-- O6. A command other than POWER_ON that reaches a hub without power answers the state unchanged; POWER_ON answers the state that start-up
leaves. Rests on 26_startup_firmware, 22_twin. -/
def Obligations.WithoutPowerOnlyPowerOnActs : Prop :=
    ∀ (i : Instr) (s : State), s.hub.fw.powered = false →
    ((∀ x, i ≠ .powerOn x) → exec i s = .next s)
    ∧ ∀ x, i = .powerOn x → exec i s = .next (runOn (fun m h => powerOn m h x) s)

/-- O7. For every type of the dictionary and every byte string of a length that the type admits: the bytes that a read returns of the value
that the string stands for are that string (little-endian, two's complement for signed integers). Rests on 04_object_dictionary. -/
def Obligations.DictionaryValuesRoundTrip : Prop :=
    ∀ (t : Ty) (bs : List Byte), lengthCheck t bs.length = none → ofVal t (toVal t bs) = bs

/-- O8. For every PDU whose fields fit: the identifier is below 2^29, each field lies at its bits, reading the identifier gives the fields
back, and whatever bits [31:29] hold makes no difference. (R74) -/
def Obligations.JdpIdentifierFields : Prop :=
    ∀ (p : Pdu) (x : Nat), p.wf = true →
    pduIdent p < 2 ^ 29
    ∧ bitsOf (pduIdent p) 28 24 = p.func ∧ bitsOf (pduIdent p) 23 17 = p.source ∧ bitsOf (pduIdent p) 16 10 = p.dest
    ∧ bitsOf (pduIdent p) 9 6 = p.seq ∧ bitsOf (pduIdent p) 5 0 = p.segment
    ∧ pduOf (pduIdent p + x * 2 ^ 29) p.data = { p with fd := true }

/-- O9. The PDUs that a sender laid out one after the other are read back, all of them and in order. If bytes follow that are no whole PDU
(fewer than 8, a length byte above 64, or a PDU that runs past the end), those bytes are given up and the PDUs before them are read all
the same. Rests on 05_jehel_protocol. -/
def Obligations.DatagramPdusUpToTheBadOne : Prop :=
    ∀ (ps : List Pdu) (tail : List Byte), (∀ p ∈ ps, p.wf = true ∧ p.fd = true) →
    let bs := ps.flatMap pduWire ++ tail
    (tail = [] → unwrap (bs.length / 8 + 1) bs = (ps, false))
    ∧ (tail ≠ [] → (tail.length < 8 ∨ 64 < ((tail[4]?).getD 0).toNat ∨ tail.length < 8 + (((tail[4]?).getD 0).toNat + 3) / 4 * 4) →
        unwrap (bs.length / 8 + 1) bs = (ps, true))

/-- O10. For every flag object whose event count lies beside it, and neither of which is one of the five objects that the sending of an
event itself moves (FRAMES_TX, TRANSFER_TIMEOUTS, USB2_STATE, REMOTE_WAKES, WAKE_COLLISIONS): after a hardware set the flag reads 1 and
the count has risen by one, wrapping from 255 to 0, whether or not the flag was set and whatever event route is enabled; after a clear
the flag reads 0 and the count is unchanged. Rests on 04_object_dictionary, 02_containment_levels. -/
def Obligations.FlagSetRaisesItsCount : Prop :=
    ∀ (h : Hub) (k : Nat), canonKey (k + 1) ≠ canonKey k →
    (∀ x ∈ [Obj.FRAMES_TX, Obj.TRANSFER_TIMEOUTS, Obj.USB2_STATE, Obj.REMOTE_WAKES, Obj.WAKE_COLLISIONS],
      canonKey k ≠ canonKey x ∧ canonKey (k + 1) ≠ canonKey x) →
    getN (setFlag h k) k = 1 ∧ getN (setFlag h k) (k + 1) = (getN h (k + 1) + 1) % 256
    ∧ getN (clearFlag h k) k = 0 ∧ getN (clearFlag h k) (k + 1) = getN h (k + 1)

/-- O11. On a quiet hub the command CAN_BUS_OFF answers the state with the counter CAN_BUS_OFF raised by one, wrapping at 32 bits, and
nothing else changed. Rests on 05_jehel_protocol. -/
def Obligations.CanBusOffIsCounted : Prop :=
    ∀ s : State, quiet s →
    exec .canBusOff s = .next { s with hub := setN s.hub Obj.CAN_BUS_OFF ((getN s.hub Obj.CAN_BUS_OFF + 1) % 2 ^ 32) }

/-- O12. Setting a position or a selector in one carrier context makes it read so there, through each of the blocks in which one object is
seen, and leaves every position and selector of every other context and every other object of this one; discarding the staged fields of
a window in one context leaves none of them and every other staged field. Rests on 04_object_dictionary. -/
def Obligations.CarrierContextsAreKeptApart : Prop :=
    (∀ (h : Hub) (c c' : Ctx) (k k' : Nat) (v : Val), k < 2 ^ 48 → k' < 2 ^ 48 →
      selV (setSel h c k v) c k = v ∧ (canonKey k' = canonKey k → selV (setSel h c k v) c k' = v)
      ∧ (c' ≠ c ∨ canonKey k' ≠ canonKey k → selV (setSel h c k v) c' k' = selV h c' k'))
    ∧ (∀ (h : Hub) (c c' : Ctx) (i i' : Nat),
      stagedIn (discardStaged h c i) c i = [] ∧ (c' ≠ c ∨ i' ≠ i → stagedIn (discardStaged h c i) c' i' = stagedIn h c' i')
      ∧ (discardStaged h c i).dict = h.dict ∧ (discardStaged h c i).sel = h.sel)

/-- O13. On a quiet hub that serves the carrier, a write to an object whose unit is awake and which a check refuses with an abort answers
the state in which that abort has been sent, and nothing else has changed. Rests on 04_object_dictionary. -/
def Obligations.RefusedWriteOnlyAnswers : Prop :=
    ∀ (s : State) (src : Src) (i sub : Nat) (bs : List Byte) (a : Abort), quiet s → objWf i sub = true →
    carrierServed s.hub src.ctx = true → earlyCheck s.hub i sub (some bs) none = none → sleepingDomain s.hub src.ctx i sub = none →
    writeCheck s.hub src i sub (posOf s.hub src.ctx i) bs = .error a →
    exec (.objectWrite src i sub bs) s = .next { s with hub := send s.hub (.answer src (.abort a)) }

/-- O14. On a quiet hub that serves the carrier, a write to an object whose unit is awake and which passes its checks answers the state that
performing it leaves, with its answer sent; on a hub without a twin nothing is mirrored. Rests on 04_object_dictionary. -/
def Obligations.AcceptedWriteIsPerformed : Prop :=
    ∀ (s : State) (src : Src) (i sub : Nat) (bs : List Byte) (r : Row) (v : Val), quiet s → objWf i sub = true →
    carrierServed s.hub src.ctx = true → earlyCheck s.hub i sub (some bs) none = none → sleepingDomain s.hub src.ctx i sub = none →
    writeCheck s.hub src i sub (posOf s.hub src.ctx i) bs = .ok (r, v) →
    exec (.objectWrite src i sub bs) s = .next (runOn (fun m h =>
      let (a, h') := perform m h src i sub (posOf h src.ctx i) r v
      send h' (.answer src a)) s)

/-- O15. On a quiet hub that watches a manager node and whose MANAGER_LOST has no event route enabled: the timeout sets MANAGER_LOST and
raises its event count once and nothing else; a further timeout without a heartbeat in between, or one while no node is watched, changes
nothing. Rests on 05_jehel_protocol. -/
def Obligations.ManagerLostIsSetOnce : Prop :=
    ∀ s : State, quiet s → s.hub.routes.contains Obj.MANAGER_LOST = false → s.hub.intRoutes.contains Obj.MANAGER_LOST = false →
    (getN s.hub Obj.MANAGER_NODE ≠ 0 → s.hub.jdp.managerSeen = true →
      exec .managerTimeout s = .next { s with hub := setN (setN { s.hub with jdp := { s.hub.jdp with managerSeen := false } } Obj.MANAGER_LOST 1) (Obj.MANAGER_LOST + 1) ((getN s.hub (Obj.MANAGER_LOST + 1) + 1) % 256) })
    ∧ (getN s.hub Obj.MANAGER_NODE = 0 ∨ s.hub.jdp.managerSeen = false → exec .managerTimeout s = .next s)

/-- O16. On a quiet hub with a record under way: when its check has been verified, STORE_STATUS reads 2 and the record in force holds the
snapshot's values and the mapped-out set, with a sequence one higher than before, and the record that was in force still lies in the
other slot; when it fails, both records stay, STORE_STATUS reads 3 and STORE_FAILED is set with its event count (no event route
enabled). Nothing else changes. With no record under way STORE_DONE changes nothing. Rests on 04_object_dictionary. -/
def Obligations.StoredSetComesIntoForceVerified : Prop :=
    ∀ (s : State) (ok : Bool), quiet s → s.hub.routes.contains Obj.STORE_FAILED = false → s.hub.intRoutes.contains Obj.STORE_FAILED = false →
    (s.hub.store.snapshot = none → exec (.storeDone ok) s = .next s)
    ∧ (∀ r, s.hub.store.snapshot = some r → ok = true → ∃ st : Store,
        exec (.storeDone ok) s = .next { s with hub := setN { s.hub with store := st } Obj.STORE_STATUS 2 }
        ∧ st.snapshot = none
        ∧ st.inForce = some { seq := (s.hub.store.inForce.map (·.seq)).getD 0 + 1, ok := true, vals := r.vals, mapout := s.hub.store.mapout }
        ∧ ∀ old, s.hub.store.inForce = some old → st.slotA = old ∨ st.slotB = old)
    ∧ (∀ r, s.hub.store.snapshot = some r → ok = false → exec (.storeDone ok) s = .next { s with hub := setN (setN (setN { s.hub with store := { s.hub.store with snapshot := none } } Obj.STORE_STATUS 3) Obj.STORE_FAILED 1) (Obj.STORE_FAILED + 1) ((getN s.hub (Obj.STORE_FAILED + 1) + 1) % 256) })

/-- O17. For a content in canonical form on a part: a byte written within the part's rows reads back as written; every other byte reads as
before; a write above the rows is discarded, and a read there gives zero; the canonical form is kept. Rests on 06_hearth. -/
def Obligations.HearthReadsWhatWasWritten : Prop :=
    ∀ (p : Part) (m : List Host.Cell) (a a' : Nat) (b : Byte), Memory.wf p m = true →
    (a < p.hearthBytes → memByte (memStore p m a b) a = b)
    ∧ (a' ≠ a → memByte (memStore p m a b) a' = memByte m a')
    ∧ (p.hearthBytes ≤ a → memStore p m a b = m ∧ memByte m a = 0)
    ∧ Memory.wf p (memStore p m a b) = true

/-- O18. The address of byte y of the word of bank b of group g at row r holds r in bits [26:13], g in [12:8], b in [7:5] and y in [4:0];
the bank number is bits [12:5]; bank group g is the unit C.floor(g / 4).(g mod 4), and the bank is its unit b. (R91) -/
def Obligations.HearthAddressFields : Prop :=
    ∀ (g b r y : Nat), g < 32 → b < 8 → r < 16384 → y < 32 →
    bitsOf (wordAddr g b r + y) 26 13 = r ∧ bitsOf (wordAddr g b r + y) 12 8 = g ∧ bitsOf (wordAddr g b r + y) 7 5 = b
    ∧ bitsOf (wordAddr g b r + y) 4 0 = y ∧ bitsOf (wordAddr g b r + y) 12 5 = 8 * g + b
    ∧ bankUnit (8 * g + b) = unitNo 0 (g / 4) (g % 4) b ∧ (∀ p : Part, r < p.rows ↔ wordAddr g b r + y < p.hearthBytes)

/-- O19. For a frame of n cells with G groups in service: each group in service holds a reservation of ceil(n / G) cells, a group out of
service none, and the reservations together cover the frame while at least one group is in service. Rests on 06_hearth. -/
def Obligations.AdmissionReservesInEveryGroup : Prop :=
    ∀ (h : Hub) (n g : Nat),
    (g ∈ groupsIn h → mget (reservations h n) 0 g = (n + (groupsIn h).length - 1) / (groupsIn h).length)
    ∧ (g ∉ groupsIn h → mget (reservations h n) 0 g = 0)
    ∧ (groupsIn h ≠ [] → n ≤ sumOf (fun x => x.2) (reservations h n))

/-- O20. On a quiet hub the interval's end starts an audit, so that AUDIT_STATUS reads 1 and nothing else changes, while AUDIT_INTERVAL is
not 0 and no audit runs; otherwise nothing changes. Once the snapshots of an audit are taken, AUDIT_STATUS reads 2 if every one of the
32 groups balances and 3 if one does not, and of each group the audited counts of free, queued, in-transit and surface cells are those
that the group has, with whether they balance. Rests on 06_hearth. -/
def Obligations.AuditsSnapshotEveryGroup : Prop :=
    (∀ s : State, quiet s →
    (getN s.hub Obj.AUDIT_INTERVAL ≠ 0 → getN s.hub Obj.AUDIT_STATUS ≠ 1 →
      exec .auditInterval s = .next { s with hub := setN s.hub Obj.AUDIT_STATUS 1 })
    ∧ (getN s.hub Obj.AUDIT_INTERVAL = 0 ∨ getN s.hub Obj.AUDIT_STATUS = 1 → exec .auditInterval s = .next s))
    ∧ (∀ h : Hub,
    getN (auditAll h) Obj.AUDIT_STATUS = (if (List.range 32).all (groupBalanced h) then 2 else 3)
    ∧ ∀ g, g < 32 → getN (auditAll h) (at_ g Obj.G_A_FREE) = groupFree h g ∧ getN (auditAll h) (at_ g Obj.G_A_QUEUED) = groupQueued h g
      ∧ getN (auditAll h) (at_ g Obj.G_A_IN_TRANSIT) = groupTransit h g ∧ getN (auditAll h) (at_ g Obj.G_A_SURFACE) = groupPieces h g
      ∧ getB (auditAll h) (at_ g Obj.G_A_BALANCED) = groupBalanced h g)

/-- O21. On a quiet hub the end of a flush takes the port out of the flushing state and changes nothing else if a cause still keeps it down;
if none does, the port is up and every sequence number of its pairs restarts at 0; nothing else changes, but that GP13 takes up its
transmit rings where F1 has any. A port that is not flushing is unchanged. Rests on 07_grate. -/
def Obligations.PortFlushEnds : Prop :=
    ∀ (s : State) (p : Nat), quiet s → portWf p = true → reservedPort p = false →
    (s.hub.grate.flushing.contains (bondBase p) = false → exec (.portFlushDone p) s = .next s)
    ∧ (s.hub.grate.flushing.contains (bondBase p) = true → portBlocked s.hub p = true →
      ∃ t, exec (.portFlushDone p) s = .next t ∧ portState t.hub p = 2
        ∧ t = { s with hub := { s.hub with grate := { s.hub.grate with flushing := s.hub.grate.flushing.filter (· != bondBase p) } } })
    ∧ (s.hub.grate.flushing.contains (bondBase p) = true → portBlocked s.hub p = false → bondBase p = 13 → s.hub.nic.tx ≠ [] →
      exec (.portFlushDone p) s = .next (runOn (fun _ h => later { h with grate := { h.grate with flushing := h.grate.flushing.filter (· != 13), seq := h.grate.seq.filter (fun x => x.1 / 32 != 13 && x.1 % 32 != 13) } } .nicResume) s))
    ∧ (s.hub.grate.flushing.contains (bondBase p) = true → portBlocked s.hub p = false → bondBase p ≠ 13 ∨ s.hub.nic.tx = [] →
      ∃ t, exec (.portFlushDone p) s = .next t ∧ portState t.hub p = 1
        ∧ (∀ o, mget t.hub.grate.seq 0 (seqKey (bondBase p) o) = 0 ∨ 32 ≤ o) ∧ (∀ i, mget t.hub.grate.seq 0 (seqKey i (bondBase p)) = 0)
        ∧ t = { s with hub := { s.hub with grate := { s.hub.grate with flushing := s.hub.grate.flushing.filter (· != bondBase p), seq := t.hub.grate.seq } } })

/-- O22. On a quiet hub whose Grate holds no frame, no stager content and no released cell, and for which no attached unit holds a frame
back, a Grate step without errors raises STEPS by one, wrapping at its width, moves the schedule by one of its 32 positions, and changes
nothing else. Rests on 07_grate. -/
def Obligations.GrateStepOfAnIdleSwitch : Prop :=
    ∀ s : State, quiet s → s.hub.grate.frames = [] → s.hub.grate.ingress = [] → s.hub.grate.win = [] → withheld s.hub = [] →
    exec (.grateStep {}) s = .next { s with hub := setGrate (bump s.hub Obj.STEPS) (fun g => { g with t := (g.t + 1) % 32 }) }

/-- O23. For every key the positions where an exact entry may stand are eight, four from 4 h0 in way 0 and four from 4,096 + 4 h1 in way 1.
On a dictionary in its canonical order: a lookup answers an exact position only if it is one of these and a valid entry there holds the
key; it answers a wildcard position only if no such exact entry exists, the entry is valid and matches the key under its mask, and no
valid entry at a lower position does; it misses only if none of either exists. Rests on 08_flows_policing. -/
def Obligations.LookupOrder : Prop :=
    (∀ key : List Byte, ∃ a b, a < 1024 ∧ b < 1024
    ∧ bucketPositions key = [4 * a, 4 * a + 1, 4 * a + 2, 4 * a + 3, 4096 + 4 * b, 4096 + 4 * b + 1, 4096 + 4 * b + 2, 4096 + 4 * b + 3]
    ∧ a = crc32 polyC key % 1024 ∧ b = crc32 polyIeee key % 1024)
    ∧ (∀ (h : Hub) (key : List Byte), sorted h.dict = true →
    let exactAt := fun p => p ∈ bucketPositions key ∧ getB h (at_ p Obj.EX_E_VALID) = true ∧ getBytes h (at_ p Obj.EX_E_KEY) = key
    let wildAt := fun p => p ∈ validWild h ∧ andBytes key (getBytes h (at_ p Obj.WC_W_MASK)) = getBytes h (at_ p Obj.WC_E_KEY)
    (∀ p, lookup h key = .exact p → exactAt p)
    ∧ (∀ p, lookup h key = .wild p → (∀ q, ¬ exactAt q) ∧ wildAt p ∧ ∀ q, wildAt q → p ≤ q)
    ∧ (lookup h key = .miss → (∀ q, ¬ exactAt q) ∧ ∀ q, ¬ wildAt q))

/-- O24. For a frame of length B that arrives at a policer with incoming colour pre (green while PL_COLOUR_AWARE is 0): in mode 0 it is red
if pre is red or T2 < B, else yellow if pre is yellow or T1 < B, and T2 gives B, else green, and both give B; in mode 1 it is green if
pre is green and T1 >= B, and T1 gives B, else yellow if pre is not red and T2 >= B, and T2 gives B, else red. A red frame takes no
tokens, a bucket that held no debt holds none after, and a frame longer than a bucket's size never takes the bucket's colour. (R146) -/
def Obligations.PolicerColours : Prop :=
    (∀ (mode : Nat) (pre : Colour) (t : Buckets) (b : Nat),
      let n : Int := (b : Int) * (byteUnit : Int)
      let r := colourOf mode pre t b
      (mode = 0 → (r.1 = .red ↔ pre = .red ∨ t.b.tok < n) ∧ (r.1 = .yellow ↔ ¬(pre = .red ∨ t.b.tok < n) ∧ (pre = .yellow ∨ t.a.tok < n))
        ∧ (r.1 = .green → r.2.a.tok = t.a.tok - n ∧ r.2.b.tok = t.b.tok - n)
        ∧ (r.1 = .yellow → r.2.a = t.a ∧ r.2.b.tok = t.b.tok - n))
      ∧ (mode ≠ 0 → (r.1 = .green ↔ pre = .green ∧ n ≤ t.a.tok) ∧ (r.1 = .yellow ↔ ¬(pre = .green ∧ n ≤ t.a.tok) ∧ pre ≠ .red ∧ n ≤ t.b.tok)
        ∧ (r.1 = .green → r.2.a.tok = t.a.tok - n ∧ r.2.b = t.b)
        ∧ (r.1 = .yellow → r.2.a = t.a ∧ r.2.b.tok = t.b.tok - n))
      ∧ (r.1 = .red → r.2 = t)
      ∧ (0 ≤ t.a.tok → 0 ≤ r.2.a.tok) ∧ (0 ≤ t.b.tok → 0 ≤ r.2.b.tok))
    ∧ (∀ (h : Hub) (n port : Nat) (f : Frame), getN h (at_ n Obj.PL_COLOUR_AWARE) = 0 → preColour h n port f = .green)
    ∧ (∀ (h : Hub) (n port : Nat) (f : Frame),
      (police h n port f).1 = (colourOf (getN h (at_ n Obj.PL_MODE)) (preColour h n port f) (policerBuckets h n) f.len).1
      ∧ mget (police h n port f).2.policers {} n
        = (colourOf (getN h (at_ n Obj.PL_MODE)) (preColour h n port f) (policerBuckets h n) f.len).2)
    ∧ (∀ (b : Bucket) (rate size now len : Nat), size < len → (refill b rate size now).tok < (len : Int) * (byteUnit : Int))

/-- O25. For every bucket: after a refill it holds no more than its size; if it held no more than its size before and time has not run back,
it holds the smaller of the size and what it held plus rate times the time; and a refill at an instant in between changes nothing of
what a later refill gives. Rests on 08_flows_policing, 09_damper. -/
def Obligations.RefillGainsItsRateUpToTheSize : Prop :=
    ∀ (b : Bucket) (rate size t1 t2 : Nat),
    (refill b rate size t2).tok ≤ ((size * byteUnit : Nat) : Int)
    ∧ (refill b rate size t2).tok = min (b.tok + ((rate * (t2 - b.last) : Nat) : Int)) ((size * byteUnit : Nat) : Int)
    ∧ (b.last ≤ t1 → t1 ≤ t2 → refill (refill b rate size t1) rate size t2 = refill b rate size t2)

/-- O26. Deficit round robin picks none when no member is eligible. When one is, it picks an eligible member, its round's pointer then
stands at that member, and the pointer and deficits of the other round are unchanged. Rests on 09_damper. -/
def Obligations.DwrrPicksAnEligibleMember : Prop :=
    ∀ (n : Dwrr) (excess : Bool) (e : List Nat) (quantum len : Nat → Nat),
    (e = [] → dwrrPick n excess e quantum len = none)
    ∧ (e ≠ [] → ∃ y n', dwrrPick n excess e quantum len = some (y, n') ∧ y ∈ e
      ∧ (if excess then n'.ptrE = some y ∧ n'.ptrC = n.ptrC ∧ n'.defC = n.defC else n'.ptrC = some y ∧ n'.ptrE = n.ptrE ∧ n'.defE = n.defE))

/-- O27. For every amount, list of different members, room and weight of each: the shares that waterfilling gives add up to no more than the
amount, and no member gets more than its room. Rests on 11_allotment. -/
def Obligations.WaterfillNeverOverGrants : Prop :=
    ∀ (amount : Nat) (xs : List Nat) (room wt : Nat → Nat), xs.Nodup →
    sumOf (fun x => mget (waterfill amount xs room wt) 0 x) xs ≤ amount
    ∧ ∀ x ∈ xs, mget (waterfill amount xs room wt) 0 x ≤ room x

/-- O28. On a quiet hub, a credit grant on an enabled flow-controlled path that comes in from a link partner (a path from a protocol adapter
has none: model's reading, log 29) and owes n > 0 credits raises what the partner holds by n, sends the grant, and changes nothing else,
so that partner and held credits come to PA_CREDITS; on a path that owes none, is not flow-controlled, or does not exist it changes
nothing. Rests on 10_usb4_tunnels. -/
def Obligations.CreditGrantReturnsWhatIsOwed : Prop :=
    ∀ (s : State) (k pos : Nat), quiet s → usb4Wf k = true →
    (∀ x, mget? s.hub.usb4.paths (pathKey k pos) = some x → x.state = 1 → x.spec.flowControlled = true → isLane x.spec.inAdapter = true → 0 < pathOwed s.hub (pathKey k pos) x →
      exec (.creditGrant k pos) s = .next { s with hub := send { s.hub with usb4 := { s.hub.usb4 with paths := mset s.hub.usb4.paths (pathKey k pos) { x with partner := x.partner + pathOwed s.hub (pathKey k pos) x } } } (.link (usb4Unit k) "credit grant" [pos, pathOwed s.hub (pathKey k pos) x]) }
      ∧ x.partner + pathOwed s.hub (pathKey k pos) x + pathHeld s.hub (pathKey k pos) = x.spec.credits)
    ∧ (∀ x, mget? s.hub.usb4.paths (pathKey k pos) = some x → x.state ≠ 1 ∨ x.spec.flowControlled = false ∨ isLane x.spec.inAdapter = false ∨ pathOwed s.hub (pathKey k pos) x = 0 →
      exec (.creditGrant k pos) s = .next s)
    ∧ (mget? s.hub.usb4.paths (pathKey k pos) = none → exec (.creditGrant k pos) s = .next s)

/-- O29. On a quiet hub with MAC m running, a received PAUSE frame raises RX_PAUSE by one; with PAUSE_RX a time above 0 holds the MAC's
Grate port and a time of 0 ends the hold, and without PAUSE_RX the hold is unchanged; nothing else changes. The expiry of the time ends
the hold. At a MAC that does not run the frame has no effect. Rests on 12_ethernet_time. -/
def Obligations.PauseHoldsTheMac : Prop :=
    ∀ (s : State) (m q : Nat), quiet s → macWf m = true → q < 65536 →
    (macRuns s.hub m = true → getB s.hub (Obj.PAUSE_RX m) = false →
      exec (.pauseFrame m q) s = .next { s with hub := bump s.hub (Obj.RX_PAUSE m) })
    ∧ (macRuns s.hub m = true → getB s.hub (Obj.PAUSE_RX m) = true → ∃ t, exec (.pauseFrame m q) s = .next t
        ∧ (macGrate m ∈ t.hub.grate.stalled ↔ 0 < q) ∧ (∀ p, p ≠ macGrate m → (p ∈ t.hub.grate.stalled ↔ p ∈ s.hub.grate.stalled))
        ∧ getN t.hub (Obj.RX_PAUSE m) = (getN s.hub (Obj.RX_PAUSE m) + 1) % 2 ^ 64
        ∧ t = { s with hub := { bump s.hub (Obj.RX_PAUSE m) with grate := { s.hub.grate with stalled := t.hub.grate.stalled } } })
    ∧ (macRuns s.hub m = false → exec (.pauseFrame m q) s = .next s)
    ∧ (∃ t, exec (.pauseExpiry m) s = .next t ∧ macGrate m ∉ t.hub.grate.stalled
        ∧ (∀ p, p ≠ macGrate m → (p ∈ t.hub.grate.stalled ↔ p ∈ s.hub.grate.stalled))
        ∧ t = { s with hub := { s.hub with grate := { s.hub.grate with stalled := t.hub.grate.stalled } } })

/-- O30. On a quiet hub, a time source that is lost is no longer qualified, and of gPTP the Announce message of the MAC whose Sync was
followed is given up (model's reading, log 47). If it was not the one in use, nothing else changes. If it was, the highest-priority
source that is still qualified is in use and TIME_SOURCE reads it; if none is, no source is in use and TIME_HOLDOVER is set (no event
route enabled). Rests on 12_ethernet_time. -/
def Obligations.LostTimeSourceIsLeft : Prop :=
    ∀ (s : State) (src : TimeSrc), quiet s → s.hub.routes.contains Obj.TIME_HOLDOVER = false → s.hub.intRoutes.contains Obj.TIME_HOLDOVER = false →
    let left := { s.hub with time := { s.hub.time with qualified := s.hub.time.qualified.filter (· != srcCode src), announces := if src = .gptp then (match s.hub.time.syncMac with | some m => merase s.hub.time.announces m | none => []) else s.hub.time.announces, syncMac := if src = .gptp then none else s.hub.time.syncMac, ptm := if src = .ptm then [] else s.hub.time.ptm } }
    (s.hub.time.inUse ≠ srcCode src → exec (.timeSourceLost src) s = .next { s with hub := left })
    ∧ (s.hub.time.inUse = srcCode src → ∃ t, exec (.timeSourceLost src) s = .next t
        ∧ t.hub.time.qualified = left.time.qualified ∧ t.hub.time.announces = left.time.announces ∧ srcCode src ∉ t.hub.time.qualified
        ∧ (∀ b, bestSource left = some b → t.hub.time.inUse = b ∧ getN t.hub Obj.TIME_SOURCE = b)
        ∧ (bestSource left = none → t.hub.time.inUse = 0 ∧ getN t.hub Obj.TIME_HOLDOVER = 1)
        ∧ t = { s with hub := { s.hub with time := t.hub.time, dict := t.hub.dict } })

/-- O31. On a quiet hub, an UpdateFC at one of the switch's six link ports, at which no TLP waits, for one of the six credit types records
the partner's limit modulo the counter's range (256 for headers, 4,096 for data) and changes nothing else. Rests on 13_pcie_storage. -/
def Obligations.UpdateFcSetsTheCredits : Prop :=
    ∀ (s : State) (p t limit : Nat), quiet s → p < 6 → t < 6 → waitList s.hub p = [] → backList s.hub p = [] →
    exec (.updateFc p t limit) s = .next { s with hub := { s.hub with pcie := { s.hub.pcie with outLimit := mset s.hub.pcie.outLimit (8 * p + t) (limit % (if t % 2 = 0 then 256 else 4096)) } } }

/-- O32. For a depth of 8, 10 or 12, a bound e of R252's list and samples below 2^d: the payload is b bits for each sample, most significant
bit first; it decodes, whatever bits follow, to min(floor((x + e) / s) * s, 2^d - 1) of each sample x in order, which lies within e of x
and is x when e is 0; a code above floor((2^d - 1 + e) / s) is invalid. (R256) -/
def Obligations.FixedPayloadDecodesWithinTheBound : Prop :=
    ∀ (d e : Nat) (xs : List Nat) (rest : List Bool), d ∈ [8, 10, 12] → e ∈ [0, 1, 2, 4, 8, 16] → (∀ x ∈ xs, x < 2 ^ d) →
    fixedBits d e xs = xs.flatMap (fun x => bitsMsb (codeBits d e) ((x + e) / (2 * e + 1)))
    ∧ (fixedBits d e xs).length = codeBits d e * xs.length
    ∧ decodeFixed d e xs.length (fixedBits d e xs ++ rest)
      = some (xs.map (fun x => min ((x + e) / (2 * e + 1) * (2 * e + 1)) (2 ^ d - 1)))
    ∧ (∀ x ∈ xs, min ((x + e) / (2 * e + 1) * (2 * e + 1)) (2 ^ d - 1) ≤ x + e
        ∧ x ≤ min ((x + e) / (2 * e + 1) * (2 * e + 1)) (2 ^ d - 1) + e)
    ∧ (∀ q, fixedSample d e q = none ↔ (2 ^ d - 1 + e) / (2 * e + 1) < q)

/-- O33. For a depth of 8, 10 or 12, a bound e and any rows of 16 samples below 2^d: the row groups that the coder writes decode, whatever
bits follow, to as many samples, each within e of its source (each equal to it when e is 0), and leave exactly the bits that follow.
Rests on 14_tile_coding. -/
def Obligations.AdaptiveRowsDecodeWithinTheBound : Prop :=
    ∀ (d e : Nat) (rows : List (List Nat)) (rest : List Bool), d ∈ [8, 10, 12] → e ∈ [0, 1, 2, 4, 8, 16] →
    (∀ r ∈ rows, r.length = 16 ∧ ∀ x ∈ r, x < 2 ^ d) →
    ∃ ys : List Nat, decodeRows d e rows.length none (adaptiveRows d e none rows ++ rest) [] = some (ys, rest)
      ∧ ys.length = rows.flatten.length
      ∧ ∀ (i x y : Nat), rows.flatten[i]? = some x → ys[i]? = some y → y ≤ x + e ∧ x ≤ y + e

/-- O34. For a coverage of 0 to 4,096: the blended channel lies between the lower and the higher of source and destination, coverage 4,096
gives the source exactly and coverage 0 the destination exactly. Rests on 15_composition_scanout. -/
def Obligations.BlendKeepsToItsInputs : Prop :=
    ∀ a src dst : Nat, a ≤ 4096 →
    min src dst ≤ blend a src dst ∧ blend a src dst ≤ max src dst ∧ blend 4096 src dst = src ∧ blend 0 src dst = dst

/-- O35. For a depth D of 6, 8, 10 or 12 and n = 12 - D: at D = 12 the value passes unchanged; otherwise dither 0 gives the smaller of (v +
2^n / 2) shifted right by n and 2^D - 1, and dither 1 gives the smaller of (v + t * 2^n / 16) shifted right by n and 2^D - 1, with the
threshold t of row y mod 4 and column x mod 4 of the manual's matrix; a 12-bit value always gives one of D bits. (R294) -/
def Obligations.OutputReduction : Prop :=
    ∀ (n x y v : Nat),
    reduceOut 12 0 x y v = v ∧ reduceOut 12 1 x y v = v
    ∧ (0 < n → n < 12 →
      reduceOut (12 - n) 0 x y v = min ((v + 2 ^ n / 2) >>> n) (2 ^ (12 - n) - 1)
      ∧ reduceOut (12 - n) 1 x y v = min ((v + ((([[0, 8, 2, 10], [12, 4, 14, 6], [3, 11, 1, 9], [15, 7, 13, 5]].getD (y % 4) []).getD (x % 4) 0 <<< n) >>> 4)) >>> n)
          (2 ^ (12 - n) - 1))
    ∧ (∀ k, v < 4096 → 1 ≤ 12 - n → reduceOut (12 - n) k x y v < 2 ^ (12 - n))

/-- O36. On a quiet hub, after TE_C rises: a head that feeds eDP-C, runs and whose H_SYNC_MODE is 2 holds a latched trigger, every other
head is unchanged, and nothing but heads has changed. Rests on 15_composition_scanout. -/
def Obligations.TeEdgeTriggersThePanelTimedHead : Prop :=
    ∀ s : State, quiet s → ∃ t, exec .teCEdge s = .next t
    ∧ (∀ hd, hd < 4 → feedsC s.hub hd = true → getN s.hub (Obj.H_SYNC_MODE hd) = 2 → (headOfHub s.hub hd).running = true →
        headOfHub t.hub hd = { headOfHub s.hub hd with latched := true })
    ∧ (∀ hd, hd < 4 → ¬(feedsC s.hub hd = true ∧ getN s.hub (Obj.H_SYNC_MODE hd) = 2 ∧ (headOfHub s.hub hd).running = true) →
        headOfHub t.hub hd = headOfHub s.hub hd)
    ∧ t = { s with hub := { s.hub with heads := t.hub.heads } }

/-- O37. On a quiet hub, when the buffer of a placed passthrough stream empties its slot reads SL_STATE 4 from now on, its time slots and
every other slot's state stay, the output is told to send black lines, or fill for a compressed stream, and nothing else changes; a slot
that is not placed or carries no passthrough stream is unchanged. Rests on 16_display_outputs. -/
def Obligations.StarvedStreamKeepsItsSlots : Prop :=
    ∀ (s : State) (p : Nat), quiet s →
    (slotState s.hub p = 2 → (streamOf (getN s.hub (at_ p Obj.SL_SOURCE))).isSome = true → ∃ t, exec (.streamStarved p) s = .next t
        ∧ slotState t.hub p = 4 ∧ (∀ q, slotTimes t.hub q = slotTimes s.hub q) ∧ (∀ q, q ≠ p → slotState t.hub q = slotState s.hub q)
        ∧ mget t.hub.outputs.starvedAt 0 p = s.hub.now
        ∧ t.hub.out = .display (outputOf p) (if (streamAt s.hub p).compressed then "fill" else "black") [p] :: s.hub.out
        ∧ t = { s with hub := { s.hub with outputs := { s.hub.outputs with starved := t.hub.outputs.starved, starvedAt := t.hub.outputs.starvedAt }, out := t.hub.out } })
    ∧ (slotState s.hub p ≠ 2 ∨ (streamOf (getN s.hub (at_ p Obj.SL_SOURCE))).isSome = false → exec (.streamStarved p) s = .next s)

/-- O38. On a quiet hub whose USB 2.0 hub runs and whose TT_EXHAUSTED has no event route enabled: a start-split for which the port's TT has
room, while the hub and the endpoint memory are in service, is buffered last and accepted; while one of them is isolated it is answered
with ERR and changes nothing. Without room TT_EXHAUSTED is set with its event count, a non-periodic one is answered with NAK and counted
in TT_NP_NAKS of the port, a periodic one dropped and counted in TT_PERIODIC_DROPS, and the buffers stay. Clear_TT_Buffer leaves the
port's TT its transactions but those of the named device and endpoint, raises TT_CLEARED by their number, and remembers them so that
their complete-splits are answered with ERR. Nothing else changes but the count of free values drawn. Rests on 17_usb_hub. -/
def Obligations.TtBuffersAreTakenAndCleared : Prop :=
    (∀ (s : State) (n : Nat) (x : Split), quiet s → usbPortWf n = true → usb2On s.hub = true →
    s.hub.routes.contains Obj.TT_EXHAUSTED = false → s.hub.intRoutes.contains Obj.TT_EXHAUSTED = false →
    (splitIsolated s.hub = true → exec (.startSplit n x) s = .next { s with hub := send s.hub (.usb "err" [n, x.device, x.endpoint] []) })
    ∧ (splitIsolated s.hub = false → ttRoom s.hub n x = true → ∃ t, exec (.startSplit n x) s = .next t ∧ ttOf t.hub n = ttOf s.hub n ++ [x]
        ∧ (∀ k, k ≠ n → ttOf t.hub k = ttOf s.hub k) ∧ t.hub.out = .usb "split accepted" [n, x.device, x.endpoint] [] :: s.hub.out
        ∧ t = { s with hub := { s.hub with usb := t.hub.usb, out := t.hub.out } })
    ∧ (splitIsolated s.hub = false → ttRoom s.hub n x = false → ∃ t, exec (.startSplit n x) s = .next t ∧ t.hub.usb.tt = s.hub.usb.tt
        ∧ getN t.hub Obj.TT_EXHAUSTED = 1 ∧ getN t.hub Obj.TT_EXHAUSTED_EVENTS = (getN s.hub Obj.TT_EXHAUSTED_EVENTS + 1) % 256
        ∧ getN t.hub (psKey n Obj.TT_NP_NAKS) = (if x.periodic then getN s.hub (psKey n Obj.TT_NP_NAKS) else (getN s.hub (psKey n Obj.TT_NP_NAKS) + 1) % 2 ^ 64)
        ∧ getN t.hub (psKey n Obj.TT_PERIODIC_DROPS) = (if x.periodic then (getN s.hub (psKey n Obj.TT_PERIODIC_DROPS) + 1) % 2 ^ 64 else getN s.hub (psKey n Obj.TT_PERIODIC_DROPS))
        ∧ t.hub.out = (if x.periodic then s.hub.out else .usb "nak" [n, x.device, x.endpoint] [] :: s.hub.out)
        ∧ t = { s with hub := { s.hub with usb := t.hub.usb, dict := t.hub.dict, out := t.hub.out } }))
    ∧ (∀ (s : State) (n device endpoint : Nat), quiet s → usbPortWf n = true → usb2On s.hub = true →
    ∃ t, exec (.clearTtBuffer n device endpoint) s = .next t
      ∧ ttOf t.hub n = (ttOf s.hub n).filter (fun x => !(x.device == device && x.endpoint == endpoint))
      ∧ (∀ k, k ≠ n → ttOf t.hub k = ttOf s.hub k)
      ∧ getN t.hub (psKey n Obj.TT_CLEARED) = (if ((ttOf s.hub n).filter (fun x => x.device == device && x.endpoint == endpoint)) = [] then getN s.hub (psKey n Obj.TT_CLEARED)
          else (getN s.hub (psKey n Obj.TT_CLEARED) + ((ttOf s.hub n).filter (fun x => x.device == device && x.endpoint == endpoint)).length) % 2 ^ 64)
      ∧ (∀ x ∈ ttOf s.hub n, x.device = device → x.endpoint = endpoint → splitKey n x ∈ t.hub.usb.lost)
      ∧ t = { s with hub := { s.hub with usb := t.hub.usb, dict := t.hub.dict, fresh := t.hub.fresh } })

/-- O39. For every port and cap: 5 V is the first voltage offered; every offered current is no more than the cable and port allow; every
offered voltage other than 5 V has at least 500 mA; and every offered voltage has no more power than the cap, the current lowered to a
multiple of 10 mA where the full current would exceed it. Rests on 18_power_delivery. -/
def Obligations.OfferedPowerKeepsToTheCap : Prop :=
    ∀ (h : Hub) (p cap : Nat),
    ∃ l : List (Nat × Nat), pdos h p cap = l.flatMap (fun x => [x.1, x.2]) ∧ (l.head?.map (·.1)) = some 5000
      ∧ ∀ x ∈ l, x.1 ∈ voltages h p ∧ x.2 ≤ maxMa h p ∧ x.1 * x.2 ≤ cap * 1000 ∧ (x.1 ≠ 5000 → 500 ≤ x.2)
        ∧ (x.2 = maxMa h p ∨ (x.2 % 10 = 0 ∧ cap * 1000 < x.1 * maxMa h p))

/-- O40. On a quiet hub with lane l present: while its receiver adapts, a DFE step of the lane's receiver, or of the one of a transmit pair
that receives (second), leaves that receiver 12 taps, each within one of what it was (within -128 to 127), and a CTLE step leaves the
code within one of what it was (within 0 to 31) unless RX_CTLE_MODE is 1, when it has no effect; nothing changes but that value and the
receiver's history. A receiver that does not adapt, or a second one that the lane does not have, is unchanged. Rests on 19_serial_lanes. -/
def Obligations.AdaptationMovesByOneStep : Prop :=
    ∀ (s : State) (l : Nat) (moves : List Int) (move : Int), quiet s → laneWf l = true → s.hub.part.has (laneUnit l) = true →
    (adapts s.hub l = true → (∀ i, -128 ≤ nth (lane s.hub l).taps i 0 ∧ nth (lane s.hub l).taps i 0 ≤ 127) → ∃ t, exec (.dfeAdaptStep ⟨l, false⟩ moves) s = .next t
        ∧ (lane t.hub l).taps.length = 12
        ∧ (∀ i, i < 12 → nth (lane t.hub l).taps i 0 - nth (lane s.hub l).taps i 0 ∈ [(-1 : Int), 0, 1])
        ∧ t = { s with hub := { s.hub with lanes := mset s.hub.lanes l { lane s.hub l with taps := (lane t.hub l).taps, hist := (lane t.hub l).hist } } })
    ∧ (adapts s.hub l = true → (lane s.hub l).rev = 1 → (∀ i, -128 ≤ nth (lane s.hub l).taps2 i 0 ∧ nth (lane s.hub l).taps2 i 0 ≤ 127) →
        ∃ t, exec (.dfeAdaptStep ⟨l, true⟩ moves) s = .next t
        ∧ (lane t.hub l).taps2.length = 12
        ∧ (∀ i, i < 12 → nth (lane t.hub l).taps2 i 0 - nth (lane s.hub l).taps2 i 0 ∈ [(-1 : Int), 0, 1])
        ∧ t = { s with hub := { s.hub with lanes := mset s.hub.lanes l { lane s.hub l with taps2 := (lane t.hub l).taps2, hist2 := (lane t.hub l).hist2 } } })
    ∧ (adapts s.hub l = true → getN s.hub (Obj.RX_CTLE_MODE l) = 0 → (lane s.hub l).code ≤ 31 → ∃ t, exec (.ctleAdaptStep ⟨l, false⟩ move) s = .next t
        ∧ (lane t.hub l).code ≤ 31 ∧ (lane t.hub l).code ≤ (lane s.hub l).code + 1 ∧ (lane s.hub l).code ≤ (lane t.hub l).code + 1
        ∧ t = { s with hub := { s.hub with lanes := mset s.hub.lanes l { lane s.hub l with code := (lane t.hub l).code, hist := (lane t.hub l).hist } } })
    ∧ (adapts s.hub l = true → (lane s.hub l).rev = 1 → getN s.hub (Obj.RX_CTLE_MODE l) = 0 → (lane s.hub l).code2 ≤ 31 →
        ∃ t, exec (.ctleAdaptStep ⟨l, true⟩ move) s = .next t
        ∧ (lane t.hub l).code2 ≤ 31 ∧ (lane t.hub l).code2 ≤ (lane s.hub l).code2 + 1 ∧ (lane s.hub l).code2 ≤ (lane t.hub l).code2 + 1
        ∧ t = { s with hub := { s.hub with lanes := mset s.hub.lanes l { lane s.hub l with code2 := (lane t.hub l).code2, hist2 := (lane t.hub l).hist2 } } })
    ∧ (∀ second, adapts s.hub l = false ∨ (second = true ∧ (lane s.hub l).rev ≠ 1) →
        exec (.dfeAdaptStep ⟨l, second⟩ moves) s = .next s ∧ exec (.ctleAdaptStep ⟨l, second⟩ move) s = .next s)
    ∧ (∀ second, getN s.hub (Obj.RX_CTLE_MODE l) ≠ 0 → exec (.ctleAdaptStep ⟨l, second⟩ move) s = .next s)

/-- O41. On a quiet hub with lane l present: a complete scan of an active receiver sets EYE_HEIGHT and EYE_WIDTH together, to the margins of
the receiver with the smaller one where the transmit pair receives too (model's reading, log 29), and raises EYE_SCANS by one, and
nothing else. PRBS sync gained sets PRBS_SYNC while a pattern is checked, of a lane that receives what it sends itself only where that
is the pattern. When sync is lost, the command's bits and errors are added to the lane's counts, PRBS_SYNC is cleared and nothing else
changes; a lane whose parallel loop brings it its own pattern never loses sync; without sync nothing is counted. Rests on
19_serial_lanes. -/
def Obligations.EyeScanReplacesBothValues : Prop :=
    ∀ (s : State) (l height width : Nat) (second : Option (Nat × Nat)), quiet s → laneWf l = true → s.hub.part.has (laneUnit l) = true →
    (typeB l = false → (lane s.hub l).rx = 3 → exec (.eyeScanDone l (height, width) second) s = .next { s with hub := bump (setN (setN s.hub (Obj.EYE_HEIGHT l) (eyeMargin (lane s.hub l).rev (height, width) second).1) (Obj.EYE_WIDTH l) (eyeMargin (lane s.hub l).rev (height, width) second).2) (Obj.EYE_SCANS l) })
    ∧ ((lane s.hub l).rev ≠ 1 ∨ second = none → eyeMargin (lane s.hub l).rev (height, width) second = (height, width))
    ∧ (∀ h2 w2 : Nat, (lane s.hub l).rev = 1 → second = some (h2, w2) → (eyeMargin (lane s.hub l).rev (height, width) second).1 = min height h2)
    ∧ (typeB l = true ∨ (lane s.hub l).rx ≠ 3 → exec (.eyeScanDone l (height, width) second) s = .next s)
    ∧ (getN s.hub (Obj.PRBS_RX l) ≠ 0 → getB s.hub (Obj.PRBS_SYNC l) = false → ownPattern s.hub l ≠ some false →
      exec (.prbsSyncGained l) s = .next { s with hub := setN { s.hub with lanes := mset s.hub.lanes l { lane s.hub l with prbsRem := 0 } } (Obj.PRBS_SYNC l) 1 })
    ∧ (getN s.hub (Obj.PRBS_RX l) = 0 ∨ getB s.hub (Obj.PRBS_SYNC l) = true ∨ ownPattern s.hub l = some false → exec (.prbsSyncGained l) s = .next s)
    ∧ (getB s.hub (Obj.PRBS_SYNC l) = true → getN s.hub (Obj.LN_LOOP l) ≠ 2 ∨ ownPattern s.hub l ≠ some true → ∀ bits errors,
      exec (.prbsSyncLost l bits errors) s = .next { s with hub := setN { s.hub with lanes := mset s.hub.lanes l { lane s.hub l with prbsBits := (lane s.hub l).prbsBits + bits, prbsErrs := (lane s.hub l).prbsErrs + errors } } (Obj.PRBS_SYNC l) 0 })
    ∧ (getB s.hub (Obj.PRBS_SYNC l) = false ∨ (getN s.hub (Obj.LN_LOOP l) = 2 ∧ ownPattern s.hub l = some true) → ∀ bits errors, exec (.prbsSyncLost l bits errors) s = .next s)

/-- O42. From four magnitudes towards four others of the same sum: a ramp step keeps the sum, leaves each coefficient within one unit of
what it was and between it and its target, and moves at least one coefficient unless the target is reached. Rests on 19_serial_lanes. -/
def Obligations.FfeRampKeepsTheMagnitudeSum : Prop :=
    ∀ (a b : List Nat), a.length = 4 → b.length = 4 → a.sum = b.sum →
    (ffeStep a b).length = 4 ∧ (ffeStep a b).sum = a.sum ∧ (ffeStep a b = a ↔ a = b)
    ∧ ∀ i, i < 4 → nth (ffeStep a b) i 0 ≤ nth a i 0 + 1 ∧ nth a i 0 ≤ nth (ffeStep a b) i 0 + 1
      ∧ min (nth a i 0) (nth b i 0) ≤ nth (ffeStep a b) i 0 ∧ nth (ffeStep a b) i 0 ≤ max (nth a i 0) (nth b i 0)

/-- O43. On a quiet hub: while a request is outstanding, in an AVS fault, or where a reading is not trusted, a pace reading changes nothing
but the junction temperature BW_TJ. A trusted reading otherwise sets BW_PACE_NOW (at most 1,000) and BW_LOGIC_PACE, and BW_RAISING, and
the raise in progress that admission sees, end; the longest raise is recorded. Rests on 20_live_calibration, 06_hearth. -/
def Obligations.TrustedReadingEndsTheRaise : Prop :=
    ∀ (s : State) (bank logic : Nat) (tj : Int) (trusted : Bool), quiet s →
    (trusted = false ∨ s.hub.bellows.request.isSome = true ∨ s.hub.bellows.fault = true →
      exec (.paceReading bank logic tj trusted) s = .next { s with hub := setI s.hub Obj.BW_TJ tj })
    ∧ (trusted = true → s.hub.bellows.request = none → s.hub.bellows.fault = false → ∃ t, exec (.paceReading bank logic tj trusted) s = .next t
        ∧ getI t.hub Obj.BW_TJ = tj ∧ getN t.hub Obj.BW_PACE_NOW = min bank 1000 ∧ getN t.hub Obj.BW_LOGIC_PACE = logic
        ∧ getB t.hub Obj.BW_RAISING = false
        ∧ (getB s.hub Obj.BW_RAISING = true → t.hub.hearth.raising = false
            ∧ getN t.hub Obj.BW_RAISE_TIME_MAX = max (getN s.hub Obj.BW_RAISE_TIME_MAX) (s.hub.now - s.hub.bellows.raiseStart))
        ∧ (getB s.hub Obj.BW_RAISING = false → t.hub.hearth = s.hub.hearth)
        ∧ t = { s with hub := { s.hub with dict := t.hub.dict, bellows := t.hub.bellows, hearth := { s.hub.hearth with raising := t.hub.hearth.raising } } })

/-- O44. On a quiet hub, the end of DM_OFF_TIME changes nothing for a bank group's domain that holds queued or in-transit cells or pieces,
for a domain that is not in Ember, and for a domain whose DM_DEEPEST is not Off. An empty domain in Ember whose DM_DEEPEST is Off starts
to enter Off: it reads 4 (entering), with Off as its goal, for 200 to 500 ns from now, and nothing else changes but the count of free
values drawn. When the entry of a domain to Off is complete, DM_OFF_ENTRIES has risen by one and the domain reads 3 (Off). Rests on
21_power_domains. -/
def Obligations.OccupiedGroupStaysInEmber : Prop :=
    ∀ (s : State) (d : Nat), quiet s → domainWf d = true →
    (d < 32 → groupHolds s.hub d = true → exec (.offEntry d) s = .next s)
    ∧ (domState s.hub d ≠ 2 ∨ getN s.hub (Obj.DM_DEEPEST d) ≠ 3 ∨ domPresent s.hub.part d = false → exec (.offEntry d) s = .next s)
    ∧ (domPresent s.hub.part d = true → domState s.hub d = 2 → getN s.hub (Obj.DM_DEEPEST d) = 3 → (32 ≤ d ∨ groupHolds s.hub d = false) →
        ∃ t, exec (.offEntry d) s = .next t ∧ domState t.hub d = 4 ∧ (domain t.hub d).goal = 3
          ∧ s.hub.now + 200 ≤ (domain t.hub d).until_ ∧ (domain t.hub d).until_ ≤ s.hub.now + 500
          ∧ (∀ k, k ≠ d → domain t.hub k = domain s.hub k)
          ∧ t = { s with hub := { s.hub with domains := t.hub.domains, fresh := s.hub.fresh + 1 } })
    ∧ (∀ h : Hub, domainWf d = true → domState (intoOff h d) d = 3
        ∧ getN (intoOff h d) (Obj.DM_OFF_ENTRIES d) = (getN h (Obj.DM_OFF_ENTRIES d) + 1) % 2 ^ 32)

/-- O45. A sequence that the merge has accepted is a duplicate when it arrives again; a sequence ahead of the highest by less than 2^31 is
accepted and is the highest then; one more than 1,023 behind is late; an unseen one within 1,023 behind is accepted and the highest
stays. A duplicate or a late frame leaves the record as it was. Rests on 22_twin. -/
def Obligations.MergeAcceptsEachSequenceOnce : Prop :=
    ∀ (r : MergeRec) (s : Nat), r.high < 2 ^ 32 → s < 2 ^ 32 →
    mergeTest none s = (0, ⟨s, [s]⟩)
    ∧ ((mergeTest (some r) s).1 = 0 → (mergeTest (some (mergeTest (some r) s).2) s).1 = 1)
    ∧ (∀ k, 0 < k → k < 2 ^ 31 → s = (r.high + k) % 2 ^ 32 → (mergeTest (some r) s).1 = 0 ∧ (mergeTest (some r) s).2.high = s)
    ∧ (∀ k, k ≤ 1023 → r.high = (s + k) % 2 ^ 32 →
        (s ∈ r.seen → mergeTest (some r) s = (1, r)) ∧ (s ∉ r.seen → mergeTest (some r) s = (0, ⟨r.high, s :: r.seen⟩)))
    ∧ (∀ k, 1023 < k → k ≤ 2 ^ 31 → r.high = (s + k) % 2 ^ 32 → mergeTest (some r) s = (2, r))

/-- O46. On a quiet hub, each period of the alive circuit inverts the alive output and changes nothing else while the part has a twin link,
TW_ENABLE is 1, the season is Summer or Autumn and the hub has not demoted itself; otherwise nothing changes. POWER_LOSS stops the
output, releases the token, leaves every domain without power and the hub without power, and changes nothing else: the images in flash
and the stored set stay. Rests on 22_twin, 26_startup_firmware. -/
def Obligations.AliveOutputTogglesUntilPowerIsLost : Prop :=
    ∀ s : State, quiet s →
    ((s.hub.part = .bw7740 ∧ getB s.hub Obj.TW_ENABLE = true ∧ (getN s.hub Obj.SEASON = 1 ∨ getN s.hub Obj.SEASON = 2) ∧ s.hub.twin.demoted = false) →
      exec .twinAliveToggle s = .next { s with hub := { s.hub with twin := { s.hub.twin with alive := !s.hub.twin.alive } } })
    ∧ (¬(s.hub.part = .bw7740 ∧ getB s.hub Obj.TW_ENABLE = true ∧ (getN s.hub Obj.SEASON = 1 ∨ getN s.hub Obj.SEASON = 2) ∧ s.hub.twin.demoted = false) →
      exec .twinAliveToggle s = .next s)
    ∧ exec .powerLoss s = .next { s with hub := { s.hub with twin := { s.hub.twin with token := false, alive := false, demoted := true }, fw := { s.hub.fw with powered := false }, domains := [] } }

/-- O47. After the erase every slot is empty and its generation has risen by one if it held a key, no SPDM session is open, no secure
association of a MAC has a key, no key operation is under way, the state of the DRBG reads zero, and KC_OUTPUT reads empty in every
carrier context. Rests on 23_keys_tamper. -/
def Obligations.TamperEraseLeavesNoKey : Prop :=
    ∀ (h : Hub) (n : Nat), (keySlot (eraseKeys h) n).alg = 0
    ∧ (keySlot (eraseKeys h) n).gen = (keySlot h n).gen + (if (keySlot h n).alg = 0 then 0 else 1)
    ∧ (eraseKeys h).keys.sessions = [] ∧ (eraseKeys h).keys.busy = [] ∧ (eraseKeys h).macs.keyed = []
    ∧ (∀ b ∈ (eraseKeys h).keys.drbgK ++ (eraseKeys h).keys.drbgV, b = 0) ∧ (eraseKeys h).keys.drbgUses = 0
    ∧ ∀ c : Ctx, selBytes (eraseKeys h) c Obj.KC_OUTPUT = []

/-- O48. On a quiet hub whose KS_ENTROPY_FAULT has no event route enabled: a failed health test sets KS_ENTROPY_FAULT with its event count
and marks the source as failed; a reseed that passes ends the mark and gives the DRBG new state, whose count of requests starts again,
with one free value drawn; nothing else changes. Rests on 23_keys_tamper. -/
def Obligations.EntropyFaultStopsGeneration : Prop :=
    ∀ s : State, quiet s → s.hub.routes.contains Obj.KS_ENTROPY_FAULT = false → s.hub.intRoutes.contains Obj.KS_ENTROPY_FAULT = false →
    (∃ t, exec (.entropyFault true) s = .next t
      ∧ t = { s with hub := { s.hub with fresh := s.hub.fresh + 1, keys := { s.hub.keys with entropyBad := false, drbgK := t.hub.keys.drbgK, drbgV := t.hub.keys.drbgV, drbgUses := 0 } } })
    ∧ exec (.entropyFault false) s = .next { s with hub := setN (setN { s.hub with keys := { s.hub.keys with entropyBad := true } } Obj.KS_ENTROPY_FAULT 1) (Obj.KS_ENTROPY_FAULT + 1) ((getN s.hub (Obj.KS_ENTROPY_FAULT + 1) + 1) % 256) }

/-- O49. On a quiet hub, when Guard g's requests are counted, G_DRAINED_EPOCH reads the lowest of G_EPOCH and the epochs of the Guard's
requests in flight, and of those that wait for a domain to wake, and nothing else changes. The oldest violation record that waits leaves
the queue, VL_TOTAL rises by one modulo 2^32, and at the position that is the old total modulo 64 the log holds the new total as its
sequence and the record's master, Guard, operation, address, length, region, reason, epoch and time; with no record waiting nothing
changes. Rests on 24_guard_units. -/
def Obligations.GuardEpochsDrainAndViolationsAreLogged : Prop :=
    (∀ (s : State) (g : Nat), quiet s → guardWf g = true → ∃ n,
    exec (.epochDrained g) s = .next { s with hub := setN s.hub (Obj.G_DRAINED_EPOCH g) n }
    ∧ n ≤ getN s.hub (Obj.G_EPOCH g) 
∧ (∀ x ∈ s.hub.guards.inFlight, x.guard = g → n ≤ x.epoch)
    ∧ (∀ x ∈ waitingPasses s.hub, x.guard = g → n ≤ x.epoch)
    ∧ (n = getN s.hub (Obj.G_EPOCH g) ∨ (∃ x ∈ s.hub.guards.inFlight, x.guard = g ∧ x.epoch = n)
      ∨ ∃ x ∈ waitingPasses s.hub, x.guard = g ∧ x.epoch = n))
    ∧ (∀ s : State, quiet s →
    (s.hub.guards.records = [] → exec .violationRecord s = .next s)
    ∧ (∀ v rest, s.hub.guards.records = v :: rest → ∃ t, exec .violationRecord s = .next t ∧ t.hub.guards.records = rest
        ∧ getN t.hub (Obj.VL_TOTAL 0) = (getN s.hub (Obj.VL_TOTAL 0) + 1) % 2 ^ 32
        ∧ let at0 := fun k => getN t.hub (at_ (getN s.hub (Obj.VL_TOTAL 0) % 64) k)
          at0 (Obj.VL_SEQ 0) = (getN s.hub (Obj.VL_TOTAL 0) + 1) % 2 ^ 32 ∧ at0 (Obj.VL_MASTER 0) = v.master ∧ at0 (Obj.VL_GUARD 0) = v.guard
          ∧ at0 (Obj.VL_OPERATION 0) = (if v.write then 1 else 0) ∧ at0 (Obj.VL_ADDRESS 0) = v.addr ∧ at0 (Obj.VL_LENGTH 0) = v.length
          ∧ at0 (Obj.VL_REGION 0) = v.region ∧ at0 (Obj.VL_REASON 0) = v.reason ∧ at0 (Obj.VL_EPOCH 0) = v.epoch ∧ at0 (Obj.VL_TIME 0) = v.time
          ∧ t = { s with hub := { s.hub with dict := t.hub.dict, guards := { s.hub.guards with records := rest } } }))

/-- O50. After an entry is logged HL_TOTAL has risen by one, and the position that is the old total modulo 256 holds the new total, the
code, the unit, the season, the row and the network time; every other position keeps its entry. Rests on 25_health_seasons. -/
def Obligations.HealthLogEntry : Prop :=
    ∀ (h : Hub) (code unit row : Nat),
    let n := getN h Obj.HL_TOTAL
    let h' := healthLog h code unit row
    getN h' Obj.HL_TOTAL = n + 1 ∧ getN h' (at_ (n % 256) Obj.HL_SEQ) = n + 1 ∧ getN h' (at_ (n % 256) Obj.HL_CODE) = code
    ∧ getN h' (at_ (n % 256) Obj.HL_UNIT) = unit ∧ getN h' (at_ (n % 256) Obj.HL_SEASON) = getN h Obj.SEASON
    ∧ getN h' (at_ (n % 256) Obj.HL_ROW) = row ∧ getN h' (at_ (n % 256) Obj.HL_TIME) = h.net
    ∧ ∀ p k, p ≠ n % 256 → k ∈ [Obj.HL_SEQ, Obj.HL_CODE, Obj.HL_UNIT, Obj.HL_SEASON, Obj.HL_ROW, Obj.HL_TIME] → getN h' (at_ p k) = getN h (at_ p k)

/-- O51. On a quiet hub with a slot being programmed: if it read back right, the slot holds the image and FW_UPDATE_STATUS reads 2; if not,
the slots keep what they held and FW_UPDATE_STATUS reads 4; no programming is under way any more and nothing else changes. With none
under way nothing changes. Rests on 26_startup_firmware. -/
def Obligations.ProgrammingEndsAsItReads : Prop :=
    ∀ s : State, quiet s →
    (s.hub.fw.writing = none → ∀ ok, exec (.imageProgrammed ok) s = .next s)
    ∧ (∀ key im, s.hub.fw.writing = some (key, im) →
      exec (.imageProgrammed true) s = .next { s with hub := setN { s.hub with fw := { s.hub.fw with writing := none, images := mset s.hub.fw.images key im } } Obj.FW_UPDATE_STATUS 2 }
      ∧ exec (.imageProgrammed false) s = .next { s with hub := setN { s.hub with fw := { s.hub.fw with writing := none } } Obj.FW_UPDATE_STATUS 4 })

/-- O52. For every command of the dictionary, the units, JDP and its carriers and all operands that name existing wires, on every hub with
power: exec answers the next state that the command's own effect, given by name, and the reactions that it asks for leave. Commands:
objectWrite, windowCommit, commitDiscard, flagClear, peakRestart, bar0Access, wideRead, abortCodeRead, store, restoreDefaults,
storeDone, unitQuarantine, unitRelease, unitReset, unitFault, regionUndervoltage, readRequest, writeRequest, writeSegment, blockSegment,
blockAcknowledgement, clientAbort, windowBulkRequest, heartbeatReceived, timeBroadcastReceived, segmentGapTimeout, blockAckTimeout,
wakeTimeout, heartbeatPeriod, managerTimeout, timePeriod, emergencyInhibit, canBusOff, udpDatagram, arpRequest, usbVendorTransfer,
h2dProducer, d2hConsumer, mbxStatusRead. Rests on 02_containment_levels, 04_object_dictionary, 05_jehel_protocol. -/
def Obligations.DictionaryAndJdpCommandsRun : Prop :=
    (∀ (src : Src) (idx sub : Nat) (value : List Byte), runsAs (.objectWrite src idx sub value)
        (fun m h => writeBy m h src idx sub value))
    ∧ (∀ (src : Src) (idx : Nat), runsAs (.windowCommit src idx)
        (fun m h => commitBy m h src idx 1))
    ∧ (∀ (src : Src) (idx : Nat), runsAs (.commitDiscard src idx)
        (fun m h => commitBy m h src idx 2))
    ∧ (∀ (src : Src) (idx sub : Nat), runsAs (.flagClear src idx sub)
        (fun m h => writeNat m h src (idx * 256 + sub) 0))
    ∧ (∀ (src : Src) (idx sub : Nat), runsAs (.peakRestart src idx sub)
        (fun m h => writeNat m h src (idx * 256 + sub) 0))
    ∧ (∀ (write : Bool) (offset size : Nat) (data : List Byte), runsAs (.bar0Access write offset size data)
        (fun m h => barAccess m h write offset size data))
    ∧ (∀ (offset : Nat), runsAs (.wideRead offset)
        (fun m h => barAccess m h false offset 4 []))
    ∧ (runsAs .abortCodeRead
        (fun m h => barAccess m h false 0x3FFFC04 4 []))
    ∧ (∀ (src : Src) (key : Nat), runsAs (.store src key)
        (fun m h => writeNat m h src Obj.STORE key))
    ∧ (∀ (src : Src) (key : Nat), runsAs (.restoreDefaults src key)
        (fun m h => writeNat m h src Obj.RESTORE_DEFAULTS key))
    ∧ (∀ (ok : Bool), runsAs (.storeDone ok)
        (fun _ h => storeDone h ok))
    ∧ (∀ (src : Src) (unit : Nat), runsAs (.unitQuarantine src unit)
        (fun m h => writeNat m h src Obj.UNIT_QUARANTINE unit))
    ∧ (∀ (src : Src) (unit : Nat), runsAs (.unitRelease src unit)
        (fun m h => writeNat m h src Obj.UNIT_RELEASE unit))
    ∧ (∀ (src : Src) (unit : Nat), runsAs (.unitReset src unit)
        (fun m h => writeNat m h src Obj.UNIT_RESET unit))
    ∧ (∀ (fault : UnitFaultReport), runsAs (.unitFault fault)
        (fun _ h => if fault.cluster || fault.domain then clusterFault h fault.unit fault.domain else unitFault h fault.unit))
    ∧ (∀ (region : Nat), runsAs (.regionUndervoltage region)
        (fun _ h => regionTrip h region))
    ∧ (∀ (peer : Peer) (pdu : Pdu), runsAs (.readRequest peer pdu)
        (fun m h => receive m h peer pdu))
    ∧ (∀ (peer : Peer) (pdu : Pdu), runsAs (.writeRequest peer pdu)
        (fun m h => receive m h peer pdu))
    ∧ (∀ (peer : Peer) (pdu : Pdu), runsAs (.writeSegment peer pdu)
        (fun m h => receive m h peer pdu))
    ∧ (∀ (peer : Peer) (pdu : Pdu), runsAs (.blockSegment peer pdu)
        (fun m h => receive m h peer pdu))
    ∧ (∀ (peer : Peer) (pdu : Pdu), runsAs (.blockAcknowledgement peer pdu)
        (fun m h => receive m h peer pdu))
    ∧ (∀ (peer : Peer) (pdu : Pdu), runsAs (.clientAbort peer pdu)
        (fun m h => receive m h peer pdu))
    ∧ (∀ (peer : Peer) (pdu : Pdu), runsAs (.windowBulkRequest peer pdu)
        (fun m h => receive m h peer pdu))
    ∧ (∀ (peer : Peer) (pdu : Pdu), runsAs (.heartbeatReceived peer pdu)
        (fun m h => receive m h peer pdu))
    ∧ (∀ (peer : Peer) (pdu : Pdu), runsAs (.timeBroadcastReceived peer pdu)
        (fun m h => receive m h peer pdu))
    ∧ (∀ (tid : TransferId), runsAs (.segmentGapTimeout tid)
        (fun _ h => segmentGap h tid))
    ∧ (∀ (tid : TransferId), runsAs (.blockAckTimeout tid)
        (fun _ h => blockAckLate h tid))
    ∧ (∀ (d : Nat), runsAs (.wakeTimeout d)
        (fun _ h => wakeTimedOut h d))
    ∧ (runsAs .heartbeatPeriod
        (fun _ h => heartbeat h))
    ∧ (runsAs .managerTimeout
        (fun _ h => managerLate h))
    ∧ (runsAs .timePeriod
        (fun _ h => timeBroadcast h))
    ∧ (∀ (ctx : Ctx), runsAs (.emergencyInhibit ctx)
        (fun _ h => inhibitEnds h ctx))
    ∧ (runsAs .canBusOff
        (fun _ h => bump h Obj.CAN_BUS_OFF))
    ∧ (∀ (mac srcIp srcPort dstIp vlan : Nat) (bytes : List Byte), runsAs (.udpDatagram mac srcIp srcPort dstIp vlan bytes)
        (fun m h => udpDatagram m h mac srcIp srcPort dstIp vlan bytes))
    ∧ (∀ (mac target senderIp senderMac : Nat), runsAs (.arpRequest mac target senderIp senderMac)
        (fun _ h => arpRequest h mac target senderIp senderMac))
    ∧ (∀ (bytes : List Byte), runsAs (.usbVendorTransfer bytes)
        (fun m h => receiveAll m h { ctx := .usb } bytes))
    ∧ (∀ (setup : MailboxSetup) (value : Nat), runsAs (.h2dProducer setup value)
        (fun m h => writeProducer m h setup value))
    ∧ (∀ (setup : MailboxSetup) (value : Nat), runsAs (.d2hConsumer setup value)
        (fun _ h => writeConsumer h setup value))
    ∧ (runsAs .mbxStatusRead
        (fun _ h => readMailboxStatus h))

/-- O53. For every command of the Hearth, the Grate, the Flow Table and Damper and all operands that name existing wires, on every hub with
power: exec answers the next state that the command's own effect, given by name, and the reactions that it asks for leave. Commands:
frameIngress, grateStep, mirrorReentry, eccWriteBack, patrolScrub, portBRequest, violationRecord, auditStart, auditInterval, auditDone,
reliefRowTake, releaseDecision, frameRelease, egressLaunch, gateEntryAdvance, configChange, gateSwap, subscriberCommit, shaperCommit,
portEnable, portDown, portFlushDone, portUp, flowEntryCommit, multicastCommit, policerCommit, profileWrite. Rests on 06_hearth,
07_grate, 08_flows_policing, 09_damper. -/
def Obligations.HearthGrateFlowAndDamperCommandsRun : Prop :=
    (∀ (port : Nat) (frame : Frame), runsAs (.frameIngress port frame)
        (fun _ h => deliverToGrate h port frame))
    ∧ (∀ (faults : StepFaults), runsAs (.grateStep faults)
        (fun m h => grateStep m h faults))
    ∧ (runsAs .mirrorReentry
        (fun _ h => reenter h))
    ∧ (∀ (portB : Bool) (group : Nat), runsAs (.eccWriteBack portB group)
        (fun _ h => eccWriteBack h portB group))
    ∧ (∀ (errors : List EccError), runsAs (.patrolScrub errors)
        (fun m h => patrolScrub m h errors))
    ∧ (∀ (req : PortBRequest), runsAs (.portBRequest req)
        (fun m h => portBRequest m h req))
    ∧ (runsAs .violationRecord
        (fun _ h => violationRecord h))
    ∧ (∀ (src : Src) (value : Nat), runsAs (.auditStart src value)
        (fun m h => writeNat m h src Obj.AUDIT_START value))
    ∧ (runsAs .auditInterval
        (fun _ h => if getN h Obj.AUDIT_INTERVAL != 0 && getN h Obj.AUDIT_STATUS != 1 then setN h Obj.AUDIT_STATUS 1 else h))
    ∧ (runsAs .auditDone
        (fun _ h => if getN h Obj.AUDIT_STATUS == 1 then auditAll h else h))
    ∧ (∀ (group row : Nat), runsAs (.reliefRowTake group row)
        (fun m h => reliefTake m h group row))
    ∧ (∀ (port : Nat), runsAs (.releaseDecision port)
        (fun _ h => decideRelease h port))
    ∧ (∀ (port : Nat), runsAs (.frameRelease port)
        (fun _ h => releaseTaken h port))
    ∧ (∀ (port : Nat), runsAs (.egressLaunch port)
        (fun _ h => egressLaunch h port))
    ∧ (∀ (port : Nat), runsAs (.gateEntryAdvance port)
        (fun _ h => entryAdvance h port))
    ∧ (∀ (src : Src) (value : Nat), runsAs (.configChange src value)
        (fun m h => writeNat m h src Obj.CONFIG_CHANGE value))
    ∧ (∀ (port : Nat), runsAs (.gateSwap port)
        (fun _ h => gateSwap h port))
    ∧ (∀ (src : Src), runsAs (.subscriberCommit src)
        (fun m h => commitBy m h src 0x3802 1))
    ∧ (∀ (src : Src) (portWindow : Bool), runsAs (.shaperCommit src portWindow)
        (fun m h => commitBy m h src (if portWindow then 0x3806 else 0x3804) 1))
    ∧ (∀ (src : Src) (port value : Nat), runsAs (.portEnable src port value)
        (fun m h => writeNat m h src (Obj.PORT_ENABLE port) value))
    ∧ (∀ (port : Nat) (cause : DownCause), runsAs (.portDown port cause)
        (fun _ h => takePortDown h port cause))
    ∧ (∀ (port : Nat), runsAs (.portFlushDone port)
        (fun _ h => portFlushEnd h port))
    ∧ (∀ (port : Nat), runsAs (.portUp port)
        (fun _ h => bringPortUp h port))
    ∧ (∀ (src : Src) (wildcard : Bool), runsAs (.flowEntryCommit src wildcard)
        (fun m h => commitBy m h src (if wildcard then 0x340A else 0x3407) 1))
    ∧ (∀ (src : Src), runsAs (.multicastCommit src)
        (fun m h => commitBy m h src 0x340C 1))
    ∧ (∀ (src : Src), runsAs (.policerCommit src)
        (fun m h => commitBy m h src 0x4001 1))
    ∧ (∀ (src : Src) (sub : Nat) (value : List Byte), runsAs (.profileWrite src sub value)
        (fun m h => writeBy m h src 0x3405 sub value))

/-- O54. For every command of the USB4 ports, allotment, the MACs, network time and PCIe and all operands that name existing wires, on every
hub with power: exec answers the next state that the command's own effect, given by name, and the reactions that it asks for leave.
Commands: configSpaceWrite, pathEnable, pathDisable, creditGrant, creditArrival, upLinkLost, dnLinkLost, usb4LinkUp, linkNarrowing,
asymmetricTransition, usb4Fallback, bandwidthAllocationRequest, alternateModeEntry, alternateModeExit, allotmentPass,
allotmentLimitWrite, envelopeCommit, enginePrewake, macRxFrame, pauseFrame, pauseExpiry, macLinkLost, macMode, saCommit, msTxAn,
rxqTail, txqTail, timeOffsetMeasure, timeSourceLost, timeSourceTakeover, timePriority, nvLinkUp, nvRetrain, nvRemoval, updateFc,
functionReset, pcieConfigWrite. Rests on 10_usb4_tunnels, 11_allotment, 12_ethernet_time, 13_pcie_storage. -/
def Obligations.TunnelNetworkAndPcieCommandsRun : Prop :=
    (∀ (part : CfgPart) (reg value : Nat), runsAs (.configSpaceWrite part reg value)
        (fun _ h => viaUp h (fun h => configWrite h part reg value)))
    ∧ (∀ (path : PathSpec), runsAs (.pathEnable path)
        (fun _ h => viaUp h (fun h => pathEnable h path)))
    ∧ (∀ (usbPort pos : Nat), runsAs (.pathDisable usbPort pos)
        (fun _ h => viaUp h (fun h => pathDisable h usbPort pos)))
    ∧ (∀ (usbPort pos : Nat), runsAs (.creditGrant usbPort pos)
        (fun _ h => creditGrant h usbPort pos))
    ∧ (∀ (usbPort pos credits : Nat), runsAs (.creditArrival usbPort pos credits)
        (fun _ h => creditArrival h usbPort pos credits))
    ∧ (runsAs .upLinkLost
        (fun _ h => upLinkLost h))
    ∧ (∀ (usbPort : Nat), runsAs (.dnLinkLost usbPort)
        (fun _ h => atUsb4 h usbPort (fun h => dnLinkLost h usbPort)))
    ∧ (∀ (usbPort mode lanes rxRate txRate : Nat), runsAs (.usb4LinkUp usbPort mode lanes rxRate txRate)
        (fun _ h => usb4LinkUp h usbPort mode lanes rxRate txRate))
    ∧ (∀ (usbPort : Nat) (kept : KeptLane), runsAs (.linkNarrowing usbPort kept)
        (fun _ h => linkNarrowing h usbPort kept.lane kept.rate))
    ∧ (∀ (usbPort : Nat) (shape : LinkShape) (rxRate txRate : Nat), runsAs (.asymmetricTransition usbPort shape rxRate txRate)
        (fun _ h => viaUp h (fun h => asymmetricTransition h usbPort shape.mode shape.lanes rxRate txRate)))
    ∧ (∀ (usbPort gen : Nat), runsAs (.usb4Fallback usbPort gen)
        (fun _ h => atUsb4 h usbPort (fun h => usb4Fallback h usbPort gen)))
    ∧ (∀ (tunnel : DpTunnel) (rate : Nat), runsAs (.bandwidthAllocationRequest tunnel rate)
        (fun _ h => viaUp h (fun h => bandwidthRequest h tunnel.adapter rate tunnel.number)))
    ∧ (∀ (usbPort : Nat) (pins : AltPins), runsAs (.alternateModeEntry usbPort pins)
        (fun _ h => atUsb4 h usbPort (fun h => altModeEntry h usbPort pins.pinC pins.rate)))
    ∧ (∀ (usbPort : Nat), runsAs (.alternateModeExit usbPort)
        (fun _ h => altModeExit h usbPort))
    ∧ (∀ (duration : Nat), runsAs (.allotmentPass duration)
        (fun _ h => periodicPass h duration))
    ∧ (∀ (src : Src) (sub value : Nat), runsAs (.allotmentLimitWrite src sub value)
        (fun m h => writeNat m h src (0x5402 * 256 + sub) value))
    ∧ (∀ (src : Src) (subscriber : Bool), runsAs (.envelopeCommit src subscriber)
        (fun m h => commitBy m h src (if subscriber then 0x5406 else 0x5404) 1))
    ∧ (runsAs .enginePrewake
        (fun _ h => enginePrewake h))
    ∧ (∀ (mac : Nat) (frame : Frame) (fcsOk : Bool) (secTag : Option SecTag), runsAs (.macRxFrame mac frame fcsOk secTag)
        (fun _ h => macRx h mac frame fcsOk secTag))
    ∧ (∀ (mac quanta : Nat), runsAs (.pauseFrame mac quanta)
        (fun _ h => macPause h mac quanta))
    ∧ (∀ (mac : Nat), runsAs (.pauseExpiry mac)
        (fun _ h => macPauseEnd h mac))
    ∧ (∀ (mac : Nat), runsAs (.macLinkLost mac)
        (fun _ h => macLost h mac))
    ∧ (∀ (src : Src) (mac value : Nat), runsAs (.macMode src mac value)
        (fun m h => writeNat m h src (Obj.MAC_MODE mac) value))
    ∧ (∀ (src : Src) (mac : Nat), runsAs (.saCommit src mac)
        (fun m h => commitBy m h src (0x5805 + 0x20 * mac) 1))
    ∧ (∀ (src : Src) (mac value : Nat), runsAs (.msTxAn src mac value)
        (fun m h => writeNat m h src (Obj.MS_TX_AN mac) value))
    ∧ (∀ (queue : Nat) (setup : RingSetup) (value : Nat), runsAs (.rxqTail queue setup value)
        (fun _ h => rxTail h queue setup value))
    ∧ (∀ (queue : Nat) (setup : RingSetup) (value : Nat), runsAs (.txqTail queue setup value)
        (fun _ h => txTail h queue setup value))
    ∧ (∀ (source : TimeSrc) (reading : TimeReading), runsAs (.timeOffsetMeasure source reading)
        (fun _ h => timeMeasure h source reading.offset reading.rate reading.mac))
    ∧ (∀ (source : TimeSrc), runsAs (.timeSourceLost source)
        (fun _ h => timeLost h source))
    ∧ (∀ (source : TimeSrc), runsAs (.timeSourceTakeover source)
        (fun _ h => timeTakeover h source))
    ∧ (∀ (src : Src) (value : Nat), runsAs (.timePriority src value)
        (fun m h => writeNat m h src Obj.TIME_PRIORITY value))
    ∧ (∀ (nv speed width : Nat), runsAs (.nvLinkUp nv speed width)
        (fun _ h => nvLinkUp h nv speed width))
    ∧ (∀ (nv width : Nat), runsAs (.nvRetrain nv width)
        (fun _ h => nvRetrain h nv width))
    ∧ (∀ (nv : Nat), runsAs (.nvRemoval nv)
        (fun _ h => nvRemoval h nv))
    ∧ (∀ (port type limit : Nat), runsAs (.updateFc port type limit)
        (fun _ h => updateFc h port type limit))
    ∧ (∀ (fn : Nat), runsAs (.functionReset fn)
        (fun _ h => functionReset h fn))
    ∧ (∀ (fn reg value : Nat), runsAs (.pcieConfigWrite fn reg value)
        (fun _ h => pcieConfigWrite h fn reg value))

/-- O55. For every command of tile coding, the heads and the outputs and all operands that name existing wires, on every hub with power:
exec answers the next state that the command's own effect, given by name, and the reactions that it asks for leave. Commands:
surfaceCommit, ingControl, ingProducer, ingestDescriptor, tileCode, precodedRecord, tileRetry, interlockResume, headLineStart,
layerUnderrun, hPresent, teCEdge, hEnable, hTiming, hSyncMode, timingCommit, formatCommit, lSurface, slotCommit, hotPlug, trainingDone,
hotUnplug, hpdIrq, relink, auxRequest, auxTimeout, streamStarved, streamResume, streamHoldExpiry, streamStart. Rests on 14_tile_coding,
15_composition_scanout, 16_display_outputs. -/
def Obligations.DisplayCommandsRun : Prop :=
    (∀ (src : Src), runsAs (.surfaceCommit src)
        (fun m h => commitBy m h src 0x6802 1))
    ∧ (∀ (value : Nat), runsAs (.ingControl value)
        (fun _ h => ingControl h value))
    ∧ (∀ (descs : List (Nat × List Byte)) (value : Nat), runsAs (.ingProducer descs value)
        (fun _ h => ingProducer h descs value))
    ∧ (runsAs .ingestDescriptor
        (fun _ h => ingestDescriptor h))
    ∧ (∀ (surface plane tile : Nat) (samples : List Nat), runsAs (.tileCode surface plane tile samples)
        (fun m h => tileCode m h surface plane tile samples))
    ∧ (∀ (surface plane tile pitch : Nat) (bytes : List Byte), runsAs (.precodedRecord surface plane tile pitch bytes)
        (fun m h => precodedRecord m h surface plane tile pitch bytes))
    ∧ (∀ (surface : Nat), runsAs (.tileRetry surface)
        (fun m h => tileRetry m h surface))
    ∧ (∀ (surface plane row : Nat), runsAs (.interlockResume surface plane row)
        (fun m h => interlockResume m h surface plane row))
    ∧ (∀ (start : LineStart), runsAs (.headLineStart start)
        (fun m h => headLineStart m h start.head start.ecc))
    ∧ (∀ (head layer plane : Nat), runsAs (.layerUnderrun head layer plane)
        (fun m h => layerUnderrun m h head layer plane))
    ∧ (∀ (src : Src) (head value : Nat), runsAs (.hPresent src head value)
        (fun m h => writeNat m h src (Obj.H_PRESENT head) value))
    ∧ (runsAs .teCEdge
        (fun _ h => teEdge h))
    ∧ (∀ (src : Src) (head value : Nat), runsAs (.hEnable src head value)
        (fun m h => writeNat m h src (Obj.H_ENABLE head) value))
    ∧ (∀ (src : Src) (head value : Nat), runsAs (.hTiming src head value)
        (fun m h => writeNat m h src (Obj.H_TIMING head) value))
    ∧ (∀ (src : Src) (head value : Nat), runsAs (.hSyncMode src head value)
        (fun m h => writeNat m h src (Obj.H_SYNC_MODE head) value))
    ∧ (∀ (src : Src), runsAs (.timingCommit src)
        (fun m h => commitBy m h src 0x64E1 1))
    ∧ (∀ (src : Src), runsAs (.formatCommit src)
        (fun m h => commitBy m h src 0x6807 1))
    ∧ (∀ (src : Src) (head layer value : Nat), runsAs (.lSurface src head layer value)
        (fun m h => writeNat m h src (Obj.L_SURFACE head layer) value))
    ∧ (∀ (src : Src), runsAs (.slotCommit src)
        (fun m h => commitBy m h src 0x6431 1))
    ∧ (∀ (output : Nat) (caps : SinkCaps), runsAs (.hotPlug output caps)
        (fun _ h => hotPlug h output caps))
    ∧ (∀ (output rate lanes : Nat), runsAs (.trainingDone output rate lanes)
        (fun _ h => trainingDone h output rate lanes))
    ∧ (∀ (output : Nat), runsAs (.hotUnplug output)
        (fun _ h => hotUnplug h output))
    ∧ (∀ (output : Nat) (vector : IrqVector), runsAs (.hpdIrq output vector)
        (fun _ h => hpdIrq h output vector))
    ∧ (∀ (output rate : Nat), runsAs (.relink output rate)
        (fun _ h => relink h output rate))
    ∧ (∀ (adapter : Nat) (kind : AuxKind), runsAs (.auxRequest adapter kind)
        (fun _ h => auxRequest h adapter kind))
    ∧ (∀ (output : Nat), runsAs (.auxTimeout output)
        (fun _ h => auxTimeout h output))
    ∧ (∀ (slot : Nat), runsAs (.streamStarved slot)
        (fun _ h => streamStarved h slot))
    ∧ (∀ (slot : Nat), runsAs (.streamResume slot)
        (fun _ h => streamResume h slot))
    ∧ (∀ (slot : Nat), runsAs (.streamHoldExpiry slot)
        (fun _ h => streamHoldExpiry h slot))
    ∧ (∀ (adapter stream : Nat) (attrs : StreamAttrs), runsAs (.streamStart adapter stream attrs)
        (fun _ h => streamStart h adapter stream attrs))

/-- O56. For every command of the USB hubs and Power Delivery and all operands that name existing wires, on every hub with power: exec
answers the next state that the command's own effect, given by name, and the reactions that it asks for leave. Commands: startSplit,
completeSplit, clearTtBuffer, usbPortReset, portConnect, portDisconnect, usbBusReset, usb3HotReset, controlStatusAck, setInterface,
carveOutCommit, telemetryMicroframe, hostResume, remoteWake, u3Exit, suspend, u3Entry, pdAttach, pdDetach, pdRequest, contractPsRdy,
cutTimeout, pbWrite, prSwap, drSwap, vconnSwap, swapSend, hardReset, vbusSafe0V, adapterOkLow, frsVbusArrival, frsVbusTimeout,
frSwapComplete, ioutReading, adapterOkReturn, prSwapRetry, stageFault, discoverIdentity, eprModeEntry, sinkCapabilities. Rests on
17_usb_hub, 18_power_delivery. -/
def Obligations.UsbAndPowerDeliveryCommandsRun : Prop :=
    (∀ (port : Nat) (split : Split), runsAs (.startSplit port split)
        (fun _ h => startSplit h port split))
    ∧ (∀ (port : Nat) (split : Split), runsAs (.completeSplit port split)
        (fun _ h => completeSplit h port split))
    ∧ (∀ (port device endpoint : Nat), runsAs (.clearTtBuffer port device endpoint)
        (fun _ h => clearTt h port device endpoint))
    ∧ (∀ (usb3 : Bool) (port : Nat), runsAs (.usbPortReset usb3 port)
        (fun _ h => portReset h usb3 port))
    ∧ (∀ (port speed : Nat), runsAs (.portConnect port speed)
        (fun _ h => portConnect h port speed))
    ∧ (∀ (port : Nat), runsAs (.portDisconnect port)
        (fun _ h => pinDisconnect h port))
    ∧ (runsAs .usbBusReset
        (fun _ h => busReset h))
    ∧ (runsAs .usb3HotReset
        (fun _ h => atPin h 55 .hotReset hotReset))
    ∧ (∀ (request : ControlWrite), runsAs (.controlStatusAck request)
        (fun _ h => statusAck h request))
    ∧ (∀ (alternate : Nat), runsAs (.setInterface alternate)
        (fun _ h => setInterface h alternate))
    ∧ (∀ (src : Src), runsAs (.carveOutCommit src)
        (fun m h => commitBy m h src 0x7005 1))
    ∧ (∀ (inToken : Bool), runsAs (.telemetryMicroframe inToken)
        (fun _ h => telemetryMicroframe h inToken))
    ∧ (runsAs .hostResume
        (fun _ h => hostResume h))
    ∧ (∀ (port : Nat), runsAs (.remoteWake port)
        (fun _ h => remoteWake h port))
    ∧ (∀ (port : Nat) (fromHost : Bool), runsAs (.u3Exit port fromHost)
        (fun _ h => atPin h 55 (.u3Exit port fromHost) (fun h => u3Exit h port fromHost)))
    ∧ (runsAs .suspend
        (fun _ h => usbSuspend h))
    ∧ (runsAs .u3Entry
        (fun _ h => u3Entry h))
    ∧ (∀ (partner : PdPartner), runsAs (.pdAttach partner)
        (fun _ h => pdAttach h partner))
    ∧ (∀ (port : Nat), runsAs (.pdDetach port)
        (fun _ h => pdDetach h port))
    ∧ (∀ (port mv ma : Nat), runsAs (.pdRequest port mv ma)
        (fun _ h => pdRequest h port mv ma))
    ∧ (∀ (port : Nat), runsAs (.contractPsRdy port)
        (fun _ h => psRdy h port))
    ∧ (∀ (port : Nat), runsAs (.cutTimeout port)
        (fun _ h => cutTimeout h port))
    ∧ (∀ (src : Src) (idx sub value : Nat), runsAs (.pbWrite src idx sub value)
        (fun m h => writeNat m h src (idx * 256 + sub) value))
    ∧ (∀ (port : Nat) (hubToSink : Bool), runsAs (.prSwap port hubToSink)
        (fun _ h => partnerSwap h port (.pr hubToSink)))
    ∧ (∀ (port : Nat) (hubToUfp : Bool), runsAs (.drSwap port hubToUfp)
        (fun _ h => partnerSwap h port (.dr hubToUfp)))
    ∧ (∀ (port : Nat), runsAs (.vconnSwap port)
        (fun _ h => partnerSwap h port .vconn))
    ∧ (∀ (port : Nat) (kind : SwapKind) (answer : SwapAnswer), runsAs (.swapSend port kind answer)
        (fun _ h => swapSend h port kind answer))
    ∧ (∀ (port : Nat) (byPartner : Bool), runsAs (.hardReset port byPartner)
        (fun _ h => hardReset h port byPartner))
    ∧ (∀ (port : Nat), runsAs (.vbusSafe0V port)
        (fun _ h => safe0V h port))
    ∧ (runsAs .adapterOkLow
        (fun _ h => adapterLow h))
    ∧ (runsAs .frsVbusArrival
        (fun _ h => frsArrival h))
    ∧ (runsAs .frsVbusTimeout
        (fun _ h => frsTimeout h))
    ∧ (runsAs .frSwapComplete
        (fun _ h => frSwapComplete h))
    ∧ (∀ (ma : Nat), runsAs (.ioutReading ma)
        (fun _ h => ioutReading h ma))
    ∧ (runsAs .adapterOkReturn
        (fun _ h => adapterReturn h))
    ∧ (∀ (accepted : Bool), runsAs (.prSwapRetry accepted)
        (fun _ h => swapRetry h accepted))
    ∧ (∀ (ports : List Nat), runsAs (.stageFault ports)
        (fun _ h => stageFault h ports))
    ∧ (∀ (port cableMa : Nat) (epr : Bool), runsAs (.discoverIdentity port cableMa epr)
        (fun _ h => discoverIdentity h port cableMa epr))
    ∧ (∀ (port : Nat), runsAs (.eprModeEntry port)
        (fun _ h => eprEntry h port))
    ∧ (∀ (frsCurrent : Nat), runsAs (.sinkCapabilities frsCurrent)
        (fun _ h => sinkCaps h frsCurrent))

/-- O57. For every command of the lanes, Bellows and the power domains and all operands that name existing wires, on every hub with power:
exec answers the next state that the command's own effect, given by name, and the reactions that it asks for leave. Commands:
txFfeWrite, ffeRampStep, dfeAdaptStep, ctleAdaptStep, rxAdapt, eyeScanDone, laneSleepRequest, laneExit, lnEnable, lnLoop, prbsTx,
prbsRx, prbsInject, prbsSyncGained, prbsSyncLost, laneLockLost, reacquireTimeout, laneRelock, paceReading, bellowsStep, flare,
avsResponse, avsTimeout, avsFaultRetry, bwCeiling, emberEntry, offEntry, dmRequestSleep, dmRequestWake, dmWakeTimer, domainWake,
railRelease, railPowerGood, railTimeout. Rests on 19_serial_lanes, 20_live_calibration, 21_power_domains. -/
def Obligations.LaneBellowsAndDomainCommandsRun : Prop :=
    (∀ (src : Src) (lane : Nat) (value : List Byte), runsAs (.txFfeWrite src lane value)
        (fun m h => writeBy m h src (keyIdx (Obj.TX_FFE lane)) (keySub (Obj.TX_FFE lane)) value))
    ∧ (∀ (lane : Nat), runsAs (.ffeRampStep lane)
        (fun _ h => atLane h lane (fun h => ffeRamp h lane)))
    ∧ (∀ (receiver : LaneReceiver) (moves : List Int), runsAs (.dfeAdaptStep receiver moves)
        (fun _ h => atLane h receiver.lane (fun h => dfeAdapt h receiver.lane moves receiver.second)))
    ∧ (∀ (receiver : LaneReceiver) (move : Int), runsAs (.ctleAdaptStep receiver move)
        (fun _ h => atLane h receiver.lane (fun h => ctleAdapt h receiver.lane move receiver.second)))
    ∧ (∀ (src : Src) (lane value : Nat), runsAs (.rxAdapt src lane value)
        (fun m h => writeNat m h src (Obj.RX_ADAPT lane) value))
    ∧ (∀ (lane : Nat) (margins : Nat × Nat) (second : Option (Nat × Nat)), runsAs (.eyeScanDone lane margins second)
        (fun _ h => atLane h lane (fun h => eyeScan h lane margins.1 margins.2 second)))
    ∧ (∀ (lane : Nat) (rx : Bool) (state : LaneState), runsAs (.laneSleepRequest lane rx state)
        (fun _ h => atLane h lane (fun h => laneSleep h lane rx state)))
    ∧ (∀ (lane : Nat) (rx : Bool), runsAs (.laneExit lane rx)
        (fun _ h => atLane h lane (fun h => laneExit h lane rx)))
    ∧ (∀ (src : Src) (lane value : Nat), runsAs (.lnEnable src lane value)
        (fun m h => writeNat m h src (Obj.LN_ENABLE lane) value))
    ∧ (∀ (src : Src) (lane value : Nat), runsAs (.lnLoop src lane value)
        (fun m h => writeNat m h src (Obj.LN_LOOP lane) value))
    ∧ (∀ (src : Src) (lane value : Nat), runsAs (.prbsTx src lane value)
        (fun m h => writeNat m h src (Obj.PRBS_TX lane) value))
    ∧ (∀ (src : Src) (lane value : Nat), runsAs (.prbsRx src lane value)
        (fun m h => writeNat m h src (Obj.PRBS_RX lane) value))
    ∧ (∀ (src : Src) (lane value : Nat), runsAs (.prbsInject src lane value)
        (fun m h => writeNat m h src (Obj.PRBS_INJECT lane) value))
    ∧ (∀ (lane : Nat), runsAs (.prbsSyncGained lane)
        (fun _ h => prbsGained h lane))
    ∧ (∀ (lane bits errors : Nat), runsAs (.prbsSyncLost lane bits errors)
        (fun _ h => prbsLost h lane bits errors))
    ∧ (∀ (lane : Nat), runsAs (.laneLockLost lane)
        (fun _ h => atLane h lane (fun h => loseLock h lane)))
    ∧ (∀ (lane : Nat), runsAs (.reacquireTimeout lane)
        (fun _ h => reacquireTimeout h lane))
    ∧ (∀ (lane : Nat), runsAs (.laneRelock lane)
        (fun _ h => relock h lane))
    ∧ (∀ (bank logic : Nat) (tj : Int) (trusted : Bool), runsAs (.paceReading bank logic tj trusted)
        (fun _ h => paceReading h bank logic tj trusted))
    ∧ (runsAs .bellowsStep
        (fun _ h => bellowsStep h))
    ∧ (∀ (cause : FlareCause), runsAs (.flare cause)
        (fun _ h => flare h cause))
    ∧ (runsAs .avsResponse
        (fun _ h => avsResponse h))
    ∧ (runsAs .avsTimeout
        (fun _ h => avsTimeout h))
    ∧ (runsAs .avsFaultRetry
        (fun _ h => avsRetry h))
    ∧ (runsAs .bwCeiling
        (fun _ h => bwCeiling h))
    ∧ (∀ (d : Nat), runsAs (.emberEntry d)
        (fun _ h => emberEntry h d))
    ∧ (∀ (d : Nat), runsAs (.offEntry d)
        (fun _ h => offEntry h d))
    ∧ (∀ (src : Src) (d : Nat), runsAs (.dmRequestSleep src d)
        (fun m h => writeNat m h src (Obj.DM_REQUEST d) 1))
    ∧ (∀ (src : Src) (d : Nat), runsAs (.dmRequestWake src d)
        (fun m h => writeNat m h src (Obj.DM_REQUEST d) 2))
    ∧ (∀ (d : Nat), runsAs (.dmWakeTimer d)
        (fun _ h => wakeTimer h d))
    ∧ (∀ (d : Nat) (cause : WakeCause) (failed : List RetArray) (duration : Nat), runsAs (.domainWake d cause failed duration)
        (fun _ h => domainWake h d cause failed duration))
    ∧ (∀ (rail : Nat), runsAs (.railRelease rail)
        (fun _ h => railRelease h rail))
    ∧ (∀ (rail : Nat), runsAs (.railPowerGood rail)
        (fun _ h => railPowerGood h rail))
    ∧ (∀ (rail : Nat), runsAs (.railTimeout rail)
        (fun _ h => railTimeout h rail))

/-- O58. For every command of the twin link, the token and the roles and all operands that name existing wires, on every hub with power:
exec answers the next state that the command's own effect, given by name, and the reactions that it asks for leave. Commands:
tyvelLaneBlock, train, tyvelLinkUp, tyvelLaneRejoin, attest, mgmt, mirror, mirrorAck, mirrorResend, protectedFrame, tileRecords, commit,
applyTime, phase, time, state, statePeriod, equinox, rekey, rekeyDue, twinAliveToggle, tokenClaim, twinFaultDetect, demotion, pair,
unpair, plannedEquinox, equinoxTime, catchUpDone, lockstepEntry. Rests on 22_twin. -/
def Obligations.TwinCommandsRun : Prop :=
    (∀ (blocks : List (Option LaneBlock)), runsAs (.tyvelLaneBlock blocks)
        (fun _ h => laneBlocks h blocks))
    ∧ (∀ (lane laneNumber : Nat) (ffe : List Byte), runsAs (.train lane laneNumber ffe)
        (fun _ h => if hasTwin h then trainFrame (arrivedHdr h .train default).2 lane laneNumber ffe else h))
    ∧ (∀ (lanes : List Nat), runsAs (.tyvelLinkUp lanes)
        (fun _ h => tyvelUp h lanes))
    ∧ (∀ (lane : Nat), runsAs (.tyvelLaneRejoin lane)
        (fun _ h => tyvelRejoin h lane))
    ∧ (∀ (result : AttestResult), runsAs (.attest result)
        (fun _ h => attest (arrivedHdr h .attest default).2 result))
    ∧ (∀ (hdr : TyvelHdr) (pdu : Pdu), runsAs (.mgmt hdr pdu)
        (fun m h => tyvelFrame h .mgmt hdr (fun h => receive m h { ctx := .tyvel } pdu)))
    ∧ (∀ (hdr : TyvelHdr) (seq : Nat) (item : MirrorItem), runsAs (.mirror hdr seq item)
        (fun m h => tyvelFrame h .mirror hdr (fun h => mirrorFrame m h seq item)))
    ∧ (∀ (hdr : TyvelHdr) (seq : Nat), runsAs (.mirrorAck hdr seq)
        (fun _ h => tyvelFrame h .mirrorAck hdr (fun h => mirrorAck h seq)))
    ∧ (runsAs .mirrorResend
        (fun _ h => mirrorResend h))
    ∧ (∀ (hdr : TyvelHdr) (stream seq pos : Nat) (frame : Frame), runsAs (.protectedFrame hdr stream seq pos frame)
        (fun _ h => tyvelFrame h .protect hdr (fun h => protectedFrame h stream seq pos frame)))
    ∧ (∀ (hdr : TyvelHdr) (desc : Nat) (records : List (Nat × Nat × Nat × List Byte)), runsAs (.tileRecords hdr desc records)
        (fun _ h => tyvelFrame h .tileRecords hdr (fun h => twinRecords h desc records)))
    ∧ (∀ (hdr : TyvelHdr) (descriptor : Bool) (seq applyTime : Nat), runsAs (.commit hdr descriptor seq applyTime)
        (fun _ h => tyvelFrame h .commit hdr (fun h => commitFrame h descriptor seq applyTime)))
    ∧ (runsAs .applyTime
        (fun m h => forEach (nextDue h) h (applyOne m)))
    ∧ (∀ (hdr : TyvelHdr) (errorMui : Nat) (atLimit : Bool), runsAs (.phase hdr errorMui atLimit)
        (fun _ h => tyvelFrame h .phase hdr (fun h => phaseFrame h errorMui atLimit)))
    ∧ (∀ (hdr : TyvelHdr) (moment : TwinTime) (roundTrip : Nat), runsAs (.time hdr moment roundTrip)
        (fun _ h => tyvelFrame h .time hdr (fun h => timeFrame h moment.value roundTrip moment.source)))
    ∧ (∀ (hdr : TyvelHdr) (report : TwinReport), runsAs (.state hdr report)
        (fun _ h => tyvelFrame h .state hdr (fun h => stateFrame h report)))
    ∧ (runsAs .statePeriod
        (fun _ h => sendState h))
    ∧ (∀ (hdr : TyvelHdr) (atTime : Nat) (lastSeqs : List (Nat × Nat)), runsAs (.equinox hdr atTime lastSeqs)
        (fun _ h => tyvelFrame h .equinox hdr (fun h => equinoxFrame h atTime lastSeqs)))
    ∧ (∀ (hdr : TyvelHdr) (sending : Bool) (counter : Nat), runsAs (.rekey hdr sending counter)
        (fun _ h => tyvelFrame h .rekey hdr (fun h => rekeyFrame h sending counter)))
    ∧ (runsAs .rekeyDue
        (fun _ h => rekeyDue h))
    ∧ (runsAs .twinAliveToggle
        (fun _ h => aliveToggle h))
    ∧ (∀ (view : ClaimView), runsAs (.tokenClaim view)
        (fun _ h => tokenClaim h view))
    ∧ (∀ (fault : TwinFault) (view : ClaimView) (duration : Nat), runsAs (.twinFaultDetect fault view duration)
        (fun _ h => faultDetect h view fault duration))
    ∧ (∀ (cause : DemotionCause), runsAs (.demotion cause)
        (fun _ h => demote h cause))
    ∧ (∀ (src : Src), runsAs (.pair src)
        (fun m h => writeNat m h src Obj.TW_COMMAND 1))
    ∧ (∀ (src : Src), runsAs (.unpair src)
        (fun m h => writeNat m h src Obj.TW_COMMAND 2))
    ∧ (∀ (src : Src), runsAs (.plannedEquinox src)
        (fun m h => writeNat m h src Obj.TW_COMMAND 3))
    ∧ (runsAs .equinoxTime
        (fun _ h => equinoxTime h))
    ∧ (runsAs .catchUpDone
        (fun _ h => catchUpDone h))
    ∧ (∀ (errorMui : Nat), runsAs (.lockstepEntry errorMui)
        (fun m h => lockstepEntry m h errorMui))

/-- O59. For every command of the keys, the Guards, health, start-up and firmware and all operands that name existing wires, on every hub
with power: exec answers the next state that the command's own effect, given by name, and the reactions that it asks for leave.
Commands: generate, importKey, derive, exportWrapped, erase, makePersistent, sign, macOp, keyPropertyStatement, keyOperationDone,
spdmRequest, entropyFault, tamper, gCommitShadow, gCommitCopy, epochDrained, healthReport, healthRowClear, healthTableCommit,
mapoutClear, junctionOvertemperature, powerOn, resetN, watchdog, hubReset, fwImage, imageProgrammed, fwActivate, fwAccept,
fwPermitUntested, fwTrialTime, powerLoss. Rests on 23_keys_tamper, 24_guard_units, 25_health_seasons, 26_startup_firmware. -/
def Obligations.SecurityHealthAndFirmwareCommandsRun : Prop :=
    (∀ (src : Src), runsAs (.generate src)
        (fun m h => writeNat m h src Obj.KC_OP 1))
    ∧ (∀ (src : Src), runsAs (.importKey src)
        (fun m h => writeNat m h src Obj.KC_OP 2))
    ∧ (∀ (src : Src), runsAs (.derive src)
        (fun m h => writeNat m h src Obj.KC_OP 3))
    ∧ (∀ (src : Src), runsAs (.exportWrapped src)
        (fun m h => writeNat m h src Obj.KC_OP 4))
    ∧ (∀ (src : Src), runsAs (.erase src)
        (fun m h => writeNat m h src Obj.KC_OP 5))
    ∧ (∀ (src : Src) (recordOk : Bool), runsAs (.makePersistent src recordOk)
        (fun m h => writeNat m { h with recordOk := recordOk } src Obj.KC_OP 6))
    ∧ (∀ (src : Src), runsAs (.sign src)
        (fun m h => writeNat m h src Obj.KC_OP 7))
    ∧ (∀ (src : Src), runsAs (.macOp src)
        (fun m h => writeNat m h src Obj.KC_OP 8))
    ∧ (∀ (src : Src), runsAs (.keyPropertyStatement src)
        (fun m h => writeNat m h src Obj.KC_OP 9))
    ∧ (∀ (ok : Bool), runsAs (.keyOperationDone ok)
        (fun _ h => keyDone h ok))
    ∧ (∀ (src : Src) (message : List Byte), runsAs (.spdmRequest src message)
        (fun m h => writeBy m h src (keyIdx Obj.SPDM_REQUEST) (keySub Obj.SPDM_REQUEST) message))
    ∧ (∀ (reseeded : Bool), runsAs (.entropyFault reseeded)
        (fun _ h => entropyFault h reseeded))
    ∧ (∀ (change : TamperChange), runsAs (.tamper change)
        (fun _ h => tamperChange h change))
    ∧ (∀ (src : Src) (guard : Nat), runsAs (.gCommitShadow src guard)
        (fun m h => writeNat m h src (Obj.G_COMMIT guard) 1))
    ∧ (∀ (src : Src) (guard : Nat), runsAs (.gCommitCopy src guard)
        (fun m h => writeNat m h src (Obj.G_COMMIT guard) 2))
    ∧ (∀ (guard : Nat), runsAs (.epochDrained guard)
        (fun _ h => epochDrained h guard))
    ∧ (∀ (code unit : Nat), runsAs (.healthReport code unit)
        (fun _ h => healthReport h code unit))
    ∧ (∀ (row unit : Nat), runsAs (.healthRowClear row unit)
        (fun _ h => rowClear h row unit))
    ∧ (∀ (src : Src), runsAs (.healthTableCommit src)
        (fun m h => commitBy m h src 0x1202 1))
    ∧ (∀ (src : Src) (key : Nat), runsAs (.mapoutClear src key)
        (fun m h => writeNat m h src Obj.MAPOUT_CLEAR key))
    ∧ (runsAs .junctionOvertemperature
        (fun _ h => junctionHot h))
    ∧ (∀ (straps : Straps), runsAs (.powerOn straps)
        (fun m h => powerOn m h straps))
    ∧ (∀ (straps : Straps) (widthNs : Nat), runsAs (.resetN straps widthNs)
        (fun m h => resetN m (tamperNow h straps.tamper) straps widthNs))
    ∧ (runsAs .watchdog
        (fun m h => watchdog m h))
    ∧ (∀ (src : Src) (key : Nat), runsAs (.hubReset src key)
        (fun m h => writeNat m h src Obj.HUB_RESET key))
    ∧ (∀ (src : Src) (image : Image), runsAs (.fwImage src image)
        (fun _ h => imageBy h src image))
    ∧ (∀ (ok : Bool), runsAs (.imageProgrammed ok)
        (fun _ h => imageProgrammed h ok))
    ∧ (∀ (src : Src) (value : Nat), runsAs (.fwActivate src value)
        (fun m h => writeNat m h src Obj.FW_ACTIVATE value))
    ∧ (∀ (src : Src) (value : Nat), runsAs (.fwAccept src value)
        (fun m h => writeNat m h src Obj.FW_ACCEPT value))
    ∧ (∀ (src : Src) (key : Nat), runsAs (.fwPermitUntested src key)
        (fun m h => writeNat m h src Obj.FW_PERMIT_UNTESTED key))
    ∧ (runsAs .fwTrialTime
        (fun _ h => trialTime h))
    ∧ (runsAs .powerLoss
        (fun _ h => powerLoss h))

/-- O60. Every command that is a write of one named object, or a COMMIT of one window, does on every state exactly what the dictionary write
of that value to that object does, so that what is said of OBJECT_WRITE holds of it. Rests on 04_object_dictionary, opcode_table. -/
def Obligations.ObjectRowsAreDictionaryWrites : Prop :=
    ∀ s : State,
    (∀ (src : Src) (idx : Nat), Instr.wf (.windowCommit src idx) = true → exec (.windowCommit src idx) s = exec (.objectWrite src idx 0xFE [1]) s)
    ∧ (∀ (src : Src) (idx : Nat), Instr.wf (.commitDiscard src idx) = true → exec (.commitDiscard src idx) s = exec (.objectWrite src idx 0xFE [2]) s)
    ∧ (∀ (src : Src) (idx sub : Nat), Instr.wf (.flagClear src idx sub) = true → exec (.flagClear src idx sub) s = exec (writeOf src (idx * 256 + sub) 0) s)
    ∧ (∀ (src : Src) (idx sub : Nat), Instr.wf (.peakRestart src idx sub) = true → exec (.peakRestart src idx sub) s = exec (writeOf src (idx * 256 + sub) 0) s)
    ∧ (∀ (src : Src) (key : Nat), Instr.wf (.store src key) = true → exec (.store src key) s = exec (writeOf src Obj.STORE key) s)
    ∧ (∀ (src : Src) (key : Nat), Instr.wf (.restoreDefaults src key) = true → exec (.restoreDefaults src key) s = exec (writeOf src Obj.RESTORE_DEFAULTS key) s)
    ∧ (∀ (src : Src) (unit : Nat), Instr.wf (.unitQuarantine src unit) = true → exec (.unitQuarantine src unit) s = exec (writeOf src Obj.UNIT_QUARANTINE unit) s)
    ∧ (∀ (src : Src) (unit : Nat), Instr.wf (.unitRelease src unit) = true → exec (.unitRelease src unit) s = exec (writeOf src Obj.UNIT_RELEASE unit) s)
    ∧ (∀ (src : Src) (unit : Nat), Instr.wf (.unitReset src unit) = true → exec (.unitReset src unit) s = exec (writeOf src Obj.UNIT_RESET unit) s)
    ∧ (∀ (src : Src) (value : Nat), Instr.wf (.auditStart src value) = true → exec (.auditStart src value) s = exec (writeOf src Obj.AUDIT_START value) s)
    ∧ (∀ (src : Src) (value : Nat), Instr.wf (.configChange src value) = true → exec (.configChange src value) s = exec (writeOf src Obj.CONFIG_CHANGE value) s)
    ∧ (∀ (src : Src), Instr.wf (.subscriberCommit src) = true → exec (.subscriberCommit src) s = exec (.objectWrite src 0x3802 0xFE [1]) s)
    ∧ (∀ (src : Src) (portWindow : Bool), Instr.wf (.shaperCommit src portWindow) = true → exec (.shaperCommit src portWindow) s = exec (.objectWrite src (if portWindow then 0x3806 else 0x3804) 0xFE [1]) s)
    ∧ (∀ (src : Src) (port value : Nat), Instr.wf (.portEnable src port value) = true → exec (.portEnable src port value) s = exec (writeOf src (Obj.PORT_ENABLE port) value) s)
    ∧ (∀ (src : Src) (wildcard : Bool), Instr.wf (.flowEntryCommit src wildcard) = true → exec (.flowEntryCommit src wildcard) s = exec (.objectWrite src (if wildcard then 0x340A else 0x3407) 0xFE [1]) s)
    ∧ (∀ (src : Src), Instr.wf (.multicastCommit src) = true → exec (.multicastCommit src) s = exec (.objectWrite src 0x340C 0xFE [1]) s)
    ∧ (∀ (src : Src), Instr.wf (.policerCommit src) = true → exec (.policerCommit src) s = exec (.objectWrite src 0x4001 0xFE [1]) s)
    ∧ (∀ (src : Src) (sub value : Nat), Instr.wf (.allotmentLimitWrite src sub value) = true → exec (.allotmentLimitWrite src sub value) s = exec (writeOf src (0x5402 * 256 + sub) value) s)
    ∧ (∀ (src : Src) (subscriber : Bool), Instr.wf (.envelopeCommit src subscriber) = true → exec (.envelopeCommit src subscriber) s = exec (.objectWrite src (if subscriber then 0x5406 else 0x5404) 0xFE [1]) s)
    ∧ (∀ (src : Src) (mac value : Nat), Instr.wf (.macMode src mac value) = true → exec (.macMode src mac value) s = exec (writeOf src (Obj.MAC_MODE mac) value) s)
    ∧ (∀ (src : Src) (mac : Nat), Instr.wf (.saCommit src mac) = true → exec (.saCommit src mac) s = exec (.objectWrite src (0x5805 + 0x20 * mac) 0xFE [1]) s)
    ∧ (∀ (src : Src) (mac value : Nat), Instr.wf (.msTxAn src mac value) = true → exec (.msTxAn src mac value) s = exec (writeOf src (Obj.MS_TX_AN mac) value) s)
    ∧ (∀ (src : Src) (value : Nat), Instr.wf (.timePriority src value) = true → exec (.timePriority src value) s = exec (writeOf src Obj.TIME_PRIORITY value) s)
    ∧ (∀ (src : Src), Instr.wf (.surfaceCommit src) = true → exec (.surfaceCommit src) s = exec (.objectWrite src 0x6802 0xFE [1]) s)
    ∧ (∀ (src : Src) (head value : Nat), Instr.wf (.hPresent src head value) = true → exec (.hPresent src head value) s = exec (writeOf src (Obj.H_PRESENT head) value) s)
    ∧ (∀ (src : Src) (head value : Nat), Instr.wf (.hEnable src head value) = true → exec (.hEnable src head value) s = exec (writeOf src (Obj.H_ENABLE head) value) s)
    ∧ (∀ (src : Src) (head value : Nat), Instr.wf (.hTiming src head value) = true → exec (.hTiming src head value) s = exec (writeOf src (Obj.H_TIMING head) value) s)
    ∧ (∀ (src : Src) (head value : Nat), Instr.wf (.hSyncMode src head value) = true → exec (.hSyncMode src head value) s = exec (writeOf src (Obj.H_SYNC_MODE head) value) s)
    ∧ (∀ (src : Src), Instr.wf (.timingCommit src) = true → exec (.timingCommit src) s = exec (.objectWrite src 0x64E1 0xFE [1]) s)
    ∧ (∀ (src : Src), Instr.wf (.formatCommit src) = true → exec (.formatCommit src) s = exec (.objectWrite src 0x6807 0xFE [1]) s)
    ∧ (∀ (src : Src) (head layer value : Nat), Instr.wf (.lSurface src head layer value) = true → exec (.lSurface src head layer value) s = exec (writeOf src (Obj.L_SURFACE head layer) value) s)
    ∧ (∀ (src : Src), Instr.wf (.slotCommit src) = true → exec (.slotCommit src) s = exec (.objectWrite src 0x6431 0xFE [1]) s)
    ∧ (∀ (src : Src), Instr.wf (.carveOutCommit src) = true → exec (.carveOutCommit src) s = exec (.objectWrite src 0x7005 0xFE [1]) s)
    ∧ (∀ (src : Src) (idx sub value : Nat), Instr.wf (.pbWrite src idx sub value) = true → exec (.pbWrite src idx sub value) s = exec (writeOf src (idx * 256 + sub) value) s)
    ∧ (∀ (src : Src) (lane value : Nat), Instr.wf (.rxAdapt src lane value) = true → exec (.rxAdapt src lane value) s = exec (writeOf src (Obj.RX_ADAPT lane) value) s)
    ∧ (∀ (src : Src) (lane value : Nat), Instr.wf (.lnEnable src lane value) = true → exec (.lnEnable src lane value) s = exec (writeOf src (Obj.LN_ENABLE lane) value) s)
    ∧ (∀ (src : Src) (lane value : Nat), Instr.wf (.lnLoop src lane value) = true → exec (.lnLoop src lane value) s = exec (writeOf src (Obj.LN_LOOP lane) value) s)
    ∧ (∀ (src : Src) (lane value : Nat), Instr.wf (.prbsTx src lane value) = true → exec (.prbsTx src lane value) s = exec (writeOf src (Obj.PRBS_TX lane) value) s)
    ∧ (∀ (src : Src) (lane value : Nat), Instr.wf (.prbsRx src lane value) = true → exec (.prbsRx src lane value) s = exec (writeOf src (Obj.PRBS_RX lane) value) s)
    ∧ (∀ (src : Src) (lane value : Nat), Instr.wf (.prbsInject src lane value) = true → exec (.prbsInject src lane value) s = exec (writeOf src (Obj.PRBS_INJECT lane) value) s)
    ∧ (∀ (src : Src) (d : Nat), Instr.wf (.dmRequestSleep src d) = true → exec (.dmRequestSleep src d) s = exec (writeOf src (Obj.DM_REQUEST d) 1) s)
    ∧ (∀ (src : Src) (d : Nat), Instr.wf (.dmRequestWake src d) = true → exec (.dmRequestWake src d) s = exec (writeOf src (Obj.DM_REQUEST d) 2) s)
    ∧ (∀ (src : Src), Instr.wf (.pair src) = true → exec (.pair src) s = exec (writeOf src Obj.TW_COMMAND 1) s)
    ∧ (∀ (src : Src), Instr.wf (.unpair src) = true → exec (.unpair src) s = exec (writeOf src Obj.TW_COMMAND 2) s)
    ∧ (∀ (src : Src), Instr.wf (.plannedEquinox src) = true → exec (.plannedEquinox src) s = exec (writeOf src Obj.TW_COMMAND 3) s)
    ∧ (∀ (src : Src), Instr.wf (.generate src) = true → exec (.generate src) s = exec (writeOf src Obj.KC_OP 1) s)
    ∧ (∀ (src : Src), Instr.wf (.importKey src) = true → exec (.importKey src) s = exec (writeOf src Obj.KC_OP 2) s)
    ∧ (∀ (src : Src), Instr.wf (.derive src) = true → exec (.derive src) s = exec (writeOf src Obj.KC_OP 3) s)
    ∧ (∀ (src : Src), Instr.wf (.exportWrapped src) = true → exec (.exportWrapped src) s = exec (writeOf src Obj.KC_OP 4) s)
    ∧ (∀ (src : Src), Instr.wf (.erase src) = true → exec (.erase src) s = exec (writeOf src Obj.KC_OP 5) s)
    ∧ (∀ (src : Src), Instr.wf (.sign src) = true → exec (.sign src) s = exec (writeOf src Obj.KC_OP 7) s)
    ∧ (∀ (src : Src), Instr.wf (.macOp src) = true → exec (.macOp src) s = exec (writeOf src Obj.KC_OP 8) s)
    ∧ (∀ (src : Src), Instr.wf (.keyPropertyStatement src) = true → exec (.keyPropertyStatement src) s = exec (writeOf src Obj.KC_OP 9) s)
    ∧ (∀ (src : Src) (guard : Nat), Instr.wf (.gCommitShadow src guard) = true → exec (.gCommitShadow src guard) s = exec (writeOf src (Obj.G_COMMIT guard) 1) s)
    ∧ (∀ (src : Src) (guard : Nat), Instr.wf (.gCommitCopy src guard) = true → exec (.gCommitCopy src guard) s = exec (writeOf src (Obj.G_COMMIT guard) 2) s)
    ∧ (∀ (src : Src), Instr.wf (.healthTableCommit src) = true → exec (.healthTableCommit src) s = exec (.objectWrite src 0x1202 0xFE [1]) s)
    ∧ (∀ (src : Src) (key : Nat), Instr.wf (.mapoutClear src key) = true → exec (.mapoutClear src key) s = exec (writeOf src Obj.MAPOUT_CLEAR key) s)
    ∧ (∀ (src : Src) (key : Nat), Instr.wf (.hubReset src key) = true → exec (.hubReset src key) s = exec (writeOf src Obj.HUB_RESET key) s)
    ∧ (∀ (src : Src) (value : Nat), Instr.wf (.fwActivate src value) = true → exec (.fwActivate src value) s = exec (writeOf src Obj.FW_ACTIVATE value) s)
    ∧ (∀ (src : Src) (value : Nat), Instr.wf (.fwAccept src value) = true → exec (.fwAccept src value) s = exec (writeOf src Obj.FW_ACCEPT value) s)
    ∧ (∀ (src : Src) (key : Nat), Instr.wf (.fwPermitUntested src key) = true → exec (.fwPermitUntested src key) s = exec (writeOf src Obj.FW_PERMIT_UNTESTED key) s)
end

