-- ==== Sys2Proof/Laws/State.lean ====
section
/-! SUPPORT. What each named update of the hub leaves in each field, so that no proof unfolds a record update, and what reading a sparse
table or a live value after an update gives. -/

namespace Sys2Proof.Machine

/-! One lemma per field per update -/

@[simp] theorem setV_part (h : Hub) (k : Nat) (v : Val) : (setV h k v).part = h.part := rfl
@[simp] theorem setV_straps (h : Hub) (k : Nat) (v : Val) : (setV h k v).straps = h.straps := rfl
@[simp] theorem setV_now (h : Hub) (k : Nat) (v : Val) : (setV h k v).now = h.now := rfl
@[simp] theorem setV_bootedAt (h : Hub) (k : Nat) (v : Val) : (setV h k v).bootedAt = h.bootedAt := rfl
@[simp] theorem setV_net (h : Hub) (k : Nat) (v : Val) : (setV h k v).net = h.net := rfl
@[simp] theorem setV_cNet (h : Hub) (k : Nat) (v : Val) : (setV h k v).cNet = h.cNet := rfl
@[simp] theorem setV_fresh (h : Hub) (k : Nat) (v : Val) : (setV h k v).fresh = h.fresh := rfl
@[simp] theorem setV_dict (h : Hub) (k : Nat) (v : Val) : (setV h k v).dict = mset h.dict (canonKey k) v := rfl
@[simp] theorem setV_sel (h : Hub) (k : Nat) (v : Val) : (setV h k v).sel = h.sel := rfl
@[simp] theorem setV_staged (h : Hub) (k : Nat) (v : Val) : (setV h k v).staged = h.staged := rfl
@[simp] theorem setV_held (h : Hub) (k : Nat) (v : Val) : (setV h k v).held = h.held := rfl
@[simp] theorem setV_routes (h : Hub) (k : Nat) (v : Val) : (setV h k v).routes = h.routes := rfl
@[simp] theorem setV_intRoutes (h : Hub) (k : Nat) (v : Val) : (setV h k v).intRoutes = h.intRoutes := rfl
@[simp] theorem setV_store (h : Hub) (k : Nat) (v : Val) : (setV h k v).store = h.store := rfl
@[simp] theorem setV_jdp (h : Hub) (k : Nat) (v : Val) : (setV h k v).jdp = h.jdp := rfl
@[simp] theorem setV_bar0 (h : Hub) (k : Nat) (v : Val) : (setV h k v).bar0 = h.bar0 := rfl
@[simp] theorem setV_mbx (h : Hub) (k : Nat) (v : Val) : (setV h k v).mbx = h.mbx := rfl
@[simp] theorem setV_quarantined (h : Hub) (k : Nat) (v : Val) : (setV h k v).quarantined = h.quarantined := rfl
@[simp] theorem setV_mapped (h : Hub) (k : Nat) (v : Val) : (setV h k v).mapped = h.mapped := rfl
@[simp] theorem setV_hearth (h : Hub) (k : Nat) (v : Val) : (setV h k v).hearth = h.hearth := rfl
@[simp] theorem setV_grate (h : Hub) (k : Nat) (v : Val) : (setV h k v).grate = h.grate := rfl
@[simp] theorem setV_policers (h : Hub) (k : Nat) (v : Val) : (setV h k v).policers = h.policers := rfl
@[simp] theorem setV_damper (h : Hub) (k : Nat) (v : Val) : (setV h k v).damper = h.damper := rfl
@[simp] theorem setV_domains (h : Hub) (k : Nat) (v : Val) : (setV h k v).domains = h.domains := rfl
@[simp] theorem setV_pins (h : Hub) (k : Nat) (v : Val) : (setV h k v).pins = h.pins := rfl
@[simp] theorem setV_railReq (h : Hub) (k : Nat) (v : Val) : (setV h k v).railReq = h.railReq := rfl
@[simp] theorem setV_merge (h : Hub) (k : Nat) (v : Val) : (setV h k v).merge = h.merge := rfl
@[simp] theorem setV_usb4 (h : Hub) (k : Nat) (v : Val) : (setV h k v).usb4 = h.usb4 := rfl
@[simp] theorem setV_allot (h : Hub) (k : Nat) (v : Val) : (setV h k v).allot = h.allot := rfl
@[simp] theorem setV_keys (h : Hub) (k : Nat) (v : Val) : (setV h k v).keys = h.keys := rfl
@[simp] theorem setV_tampers (h : Hub) (k : Nat) (v : Val) : (setV h k v).tampers = h.tampers := rfl
@[simp] theorem setV_macs (h : Hub) (k : Nat) (v : Val) : (setV h k v).macs = h.macs := rfl
@[simp] theorem setV_nic (h : Hub) (k : Nat) (v : Val) : (setV h k v).nic = h.nic := rfl
@[simp] theorem setV_time (h : Hub) (k : Nat) (v : Val) : (setV h k v).time = h.time := rfl
@[simp] theorem setV_pcie (h : Hub) (k : Nat) (v : Val) : (setV h k v).pcie = h.pcie := rfl
@[simp] theorem setV_recordOk (h : Hub) (k : Nat) (v : Val) : (setV h k v).recordOk = h.recordOk := rfl
@[simp] theorem setV_coder (h : Hub) (k : Nat) (v : Val) : (setV h k v).coder = h.coder := rfl
@[simp] theorem setV_heads (h : Hub) (k : Nat) (v : Val) : (setV h k v).heads = h.heads := rfl
@[simp] theorem setV_outputs (h : Hub) (k : Nat) (v : Val) : (setV h k v).outputs = h.outputs := rfl
@[simp] theorem setV_usb (h : Hub) (k : Nat) (v : Val) : (setV h k v).usb = h.usb := rfl
@[simp] theorem setV_lanes (h : Hub) (k : Nat) (v : Val) : (setV h k v).lanes = h.lanes := rfl
@[simp] theorem setV_pd (h : Hub) (k : Nat) (v : Val) : (setV h k v).pd = h.pd := rfl
@[simp] theorem setV_guards (h : Hub) (k : Nat) (v : Val) : (setV h k v).guards = h.guards := rfl
@[simp] theorem setV_bellows (h : Hub) (k : Nat) (v : Val) : (setV h k v).bellows = h.bellows := rfl
@[simp] theorem setV_health (h : Hub) (k : Nat) (v : Val) : (setV h k v).health = h.health := rfl
@[simp] theorem setV_twin (h : Hub) (k : Nat) (v : Val) : (setV h k v).twin = h.twin := rfl
@[simp] theorem setV_fw (h : Hub) (k : Nat) (v : Val) : (setV h k v).fw = h.fw := rfl
@[simp] theorem setV_out (h : Hub) (k : Nat) (v : Val) : (setV h k v).out = h.out := rfl
@[simp] theorem setV_todo (h : Hub) (k : Nat) (v : Val) : (setV h k v).todo = h.todo := rfl
@[simp] theorem setV_stores (h : Hub) (k : Nat) (v : Val) : (setV h k v).stores = h.stores := rfl
@[simp] theorem setV_zeroed (h : Hub) (k : Nat) (v : Val) : (setV h k v).zeroed = h.zeroed := rfl

@[simp] theorem send_part (h : Hub) (o : Out) : (send h o).part = h.part := rfl
@[simp] theorem send_straps (h : Hub) (o : Out) : (send h o).straps = h.straps := rfl
@[simp] theorem send_now (h : Hub) (o : Out) : (send h o).now = h.now := rfl
@[simp] theorem send_bootedAt (h : Hub) (o : Out) : (send h o).bootedAt = h.bootedAt := rfl
@[simp] theorem send_net (h : Hub) (o : Out) : (send h o).net = h.net := rfl
@[simp] theorem send_cNet (h : Hub) (o : Out) : (send h o).cNet = h.cNet := rfl
@[simp] theorem send_fresh (h : Hub) (o : Out) : (send h o).fresh = h.fresh := rfl
@[simp] theorem send_dict (h : Hub) (o : Out) : (send h o).dict = h.dict := rfl
@[simp] theorem send_sel (h : Hub) (o : Out) : (send h o).sel = h.sel := rfl
@[simp] theorem send_staged (h : Hub) (o : Out) : (send h o).staged = h.staged := rfl
@[simp] theorem send_held (h : Hub) (o : Out) : (send h o).held = h.held := rfl
@[simp] theorem send_routes (h : Hub) (o : Out) : (send h o).routes = h.routes := rfl
@[simp] theorem send_intRoutes (h : Hub) (o : Out) : (send h o).intRoutes = h.intRoutes := rfl
@[simp] theorem send_store (h : Hub) (o : Out) : (send h o).store = h.store := rfl
@[simp] theorem send_jdp (h : Hub) (o : Out) : (send h o).jdp = h.jdp := rfl
@[simp] theorem send_bar0 (h : Hub) (o : Out) : (send h o).bar0 = h.bar0 := rfl
@[simp] theorem send_mbx (h : Hub) (o : Out) : (send h o).mbx = h.mbx := rfl
@[simp] theorem send_quarantined (h : Hub) (o : Out) : (send h o).quarantined = h.quarantined := rfl
@[simp] theorem send_mapped (h : Hub) (o : Out) : (send h o).mapped = h.mapped := rfl
@[simp] theorem send_hearth (h : Hub) (o : Out) : (send h o).hearth = h.hearth := rfl
@[simp] theorem send_grate (h : Hub) (o : Out) : (send h o).grate = h.grate := rfl
@[simp] theorem send_policers (h : Hub) (o : Out) : (send h o).policers = h.policers := rfl
@[simp] theorem send_damper (h : Hub) (o : Out) : (send h o).damper = h.damper := rfl
@[simp] theorem send_domains (h : Hub) (o : Out) : (send h o).domains = h.domains := rfl
@[simp] theorem send_pins (h : Hub) (o : Out) : (send h o).pins = h.pins := rfl
@[simp] theorem send_railReq (h : Hub) (o : Out) : (send h o).railReq = h.railReq := rfl
@[simp] theorem send_merge (h : Hub) (o : Out) : (send h o).merge = h.merge := rfl
@[simp] theorem send_usb4 (h : Hub) (o : Out) : (send h o).usb4 = h.usb4 := rfl
@[simp] theorem send_allot (h : Hub) (o : Out) : (send h o).allot = h.allot := rfl
@[simp] theorem send_keys (h : Hub) (o : Out) : (send h o).keys = h.keys := rfl
@[simp] theorem send_tampers (h : Hub) (o : Out) : (send h o).tampers = h.tampers := rfl
@[simp] theorem send_macs (h : Hub) (o : Out) : (send h o).macs = h.macs := rfl
@[simp] theorem send_nic (h : Hub) (o : Out) : (send h o).nic = h.nic := rfl
@[simp] theorem send_time (h : Hub) (o : Out) : (send h o).time = h.time := rfl
@[simp] theorem send_pcie (h : Hub) (o : Out) : (send h o).pcie = h.pcie := rfl
@[simp] theorem send_recordOk (h : Hub) (o : Out) : (send h o).recordOk = h.recordOk := rfl
@[simp] theorem send_coder (h : Hub) (o : Out) : (send h o).coder = h.coder := rfl
@[simp] theorem send_heads (h : Hub) (o : Out) : (send h o).heads = h.heads := rfl
@[simp] theorem send_outputs (h : Hub) (o : Out) : (send h o).outputs = h.outputs := rfl
@[simp] theorem send_usb (h : Hub) (o : Out) : (send h o).usb = h.usb := rfl
@[simp] theorem send_lanes (h : Hub) (o : Out) : (send h o).lanes = h.lanes := rfl
@[simp] theorem send_pd (h : Hub) (o : Out) : (send h o).pd = h.pd := rfl
@[simp] theorem send_guards (h : Hub) (o : Out) : (send h o).guards = h.guards := rfl
@[simp] theorem send_bellows (h : Hub) (o : Out) : (send h o).bellows = h.bellows := rfl
@[simp] theorem send_health (h : Hub) (o : Out) : (send h o).health = h.health := rfl
@[simp] theorem send_twin (h : Hub) (o : Out) : (send h o).twin = h.twin := rfl
@[simp] theorem send_fw (h : Hub) (o : Out) : (send h o).fw = h.fw := rfl
@[simp] theorem send_out (h : Hub) (o : Out) : (send h o).out = o :: h.out := rfl
@[simp] theorem send_todo (h : Hub) (o : Out) : (send h o).todo = h.todo := rfl
@[simp] theorem send_stores (h : Hub) (o : Out) : (send h o).stores = h.stores := rfl
@[simp] theorem send_zeroed (h : Hub) (o : Out) : (send h o).zeroed = h.zeroed := rfl

@[simp] theorem later_part (h : Hub) (t : Todo) : (later h t).part = h.part := rfl
@[simp] theorem later_straps (h : Hub) (t : Todo) : (later h t).straps = h.straps := rfl
@[simp] theorem later_now (h : Hub) (t : Todo) : (later h t).now = h.now := rfl
@[simp] theorem later_bootedAt (h : Hub) (t : Todo) : (later h t).bootedAt = h.bootedAt := rfl
@[simp] theorem later_net (h : Hub) (t : Todo) : (later h t).net = h.net := rfl
@[simp] theorem later_cNet (h : Hub) (t : Todo) : (later h t).cNet = h.cNet := rfl
@[simp] theorem later_fresh (h : Hub) (t : Todo) : (later h t).fresh = h.fresh := rfl
@[simp] theorem later_dict (h : Hub) (t : Todo) : (later h t).dict = h.dict := rfl
@[simp] theorem later_sel (h : Hub) (t : Todo) : (later h t).sel = h.sel := rfl
@[simp] theorem later_staged (h : Hub) (t : Todo) : (later h t).staged = h.staged := rfl
@[simp] theorem later_held (h : Hub) (t : Todo) : (later h t).held = h.held := rfl
@[simp] theorem later_routes (h : Hub) (t : Todo) : (later h t).routes = h.routes := rfl
@[simp] theorem later_intRoutes (h : Hub) (t : Todo) : (later h t).intRoutes = h.intRoutes := rfl
@[simp] theorem later_store (h : Hub) (t : Todo) : (later h t).store = h.store := rfl
@[simp] theorem later_jdp (h : Hub) (t : Todo) : (later h t).jdp = h.jdp := rfl
@[simp] theorem later_bar0 (h : Hub) (t : Todo) : (later h t).bar0 = h.bar0 := rfl
@[simp] theorem later_mbx (h : Hub) (t : Todo) : (later h t).mbx = h.mbx := rfl
@[simp] theorem later_quarantined (h : Hub) (t : Todo) : (later h t).quarantined = h.quarantined := rfl
@[simp] theorem later_mapped (h : Hub) (t : Todo) : (later h t).mapped = h.mapped := rfl
@[simp] theorem later_hearth (h : Hub) (t : Todo) : (later h t).hearth = h.hearth := rfl
@[simp] theorem later_grate (h : Hub) (t : Todo) : (later h t).grate = h.grate := rfl
@[simp] theorem later_policers (h : Hub) (t : Todo) : (later h t).policers = h.policers := rfl
@[simp] theorem later_damper (h : Hub) (t : Todo) : (later h t).damper = h.damper := rfl
@[simp] theorem later_domains (h : Hub) (t : Todo) : (later h t).domains = h.domains := rfl
@[simp] theorem later_pins (h : Hub) (t : Todo) : (later h t).pins = h.pins := rfl
@[simp] theorem later_railReq (h : Hub) (t : Todo) : (later h t).railReq = h.railReq := rfl
@[simp] theorem later_merge (h : Hub) (t : Todo) : (later h t).merge = h.merge := rfl
@[simp] theorem later_usb4 (h : Hub) (t : Todo) : (later h t).usb4 = h.usb4 := rfl
@[simp] theorem later_allot (h : Hub) (t : Todo) : (later h t).allot = h.allot := rfl
@[simp] theorem later_keys (h : Hub) (t : Todo) : (later h t).keys = h.keys := rfl
@[simp] theorem later_tampers (h : Hub) (t : Todo) : (later h t).tampers = h.tampers := rfl
@[simp] theorem later_macs (h : Hub) (t : Todo) : (later h t).macs = h.macs := rfl
@[simp] theorem later_nic (h : Hub) (t : Todo) : (later h t).nic = h.nic := rfl
@[simp] theorem later_time (h : Hub) (t : Todo) : (later h t).time = h.time := rfl
@[simp] theorem later_pcie (h : Hub) (t : Todo) : (later h t).pcie = h.pcie := rfl
@[simp] theorem later_recordOk (h : Hub) (t : Todo) : (later h t).recordOk = h.recordOk := rfl
@[simp] theorem later_coder (h : Hub) (t : Todo) : (later h t).coder = h.coder := rfl
@[simp] theorem later_heads (h : Hub) (t : Todo) : (later h t).heads = h.heads := rfl
@[simp] theorem later_outputs (h : Hub) (t : Todo) : (later h t).outputs = h.outputs := rfl
@[simp] theorem later_usb (h : Hub) (t : Todo) : (later h t).usb = h.usb := rfl
@[simp] theorem later_lanes (h : Hub) (t : Todo) : (later h t).lanes = h.lanes := rfl
@[simp] theorem later_pd (h : Hub) (t : Todo) : (later h t).pd = h.pd := rfl
@[simp] theorem later_guards (h : Hub) (t : Todo) : (later h t).guards = h.guards := rfl
@[simp] theorem later_bellows (h : Hub) (t : Todo) : (later h t).bellows = h.bellows := rfl
@[simp] theorem later_health (h : Hub) (t : Todo) : (later h t).health = h.health := rfl
@[simp] theorem later_twin (h : Hub) (t : Todo) : (later h t).twin = h.twin := rfl
@[simp] theorem later_fw (h : Hub) (t : Todo) : (later h t).fw = h.fw := rfl
@[simp] theorem later_out (h : Hub) (t : Todo) : (later h t).out = h.out := rfl
@[simp] theorem later_todo (h : Hub) (t : Todo) : (later h t).todo = h.todo ++ [t] := rfl
@[simp] theorem later_stores (h : Hub) (t : Todo) : (later h t).stores = h.stores := rfl
@[simp] theorem later_zeroed (h : Hub) (t : Todo) : (later h t).zeroed = h.zeroed := rfl

@[simp] theorem tick_part (h : Hub) : (tick h).part = h.part := rfl
@[simp] theorem tick_straps (h : Hub) : (tick h).straps = h.straps := rfl
@[simp] theorem tick_now (h : Hub) : (tick h).now = h.now := rfl
@[simp] theorem tick_bootedAt (h : Hub) : (tick h).bootedAt = h.bootedAt := rfl
@[simp] theorem tick_net (h : Hub) : (tick h).net = h.net := rfl
@[simp] theorem tick_cNet (h : Hub) : (tick h).cNet = h.cNet := rfl
@[simp] theorem tick_fresh (h : Hub) : (tick h).fresh = h.fresh + 1 := rfl
@[simp] theorem tick_dict (h : Hub) : (tick h).dict = h.dict := rfl
@[simp] theorem tick_sel (h : Hub) : (tick h).sel = h.sel := rfl
@[simp] theorem tick_staged (h : Hub) : (tick h).staged = h.staged := rfl
@[simp] theorem tick_held (h : Hub) : (tick h).held = h.held := rfl
@[simp] theorem tick_routes (h : Hub) : (tick h).routes = h.routes := rfl
@[simp] theorem tick_intRoutes (h : Hub) : (tick h).intRoutes = h.intRoutes := rfl
@[simp] theorem tick_store (h : Hub) : (tick h).store = h.store := rfl
@[simp] theorem tick_jdp (h : Hub) : (tick h).jdp = h.jdp := rfl
@[simp] theorem tick_bar0 (h : Hub) : (tick h).bar0 = h.bar0 := rfl
@[simp] theorem tick_mbx (h : Hub) : (tick h).mbx = h.mbx := rfl
@[simp] theorem tick_quarantined (h : Hub) : (tick h).quarantined = h.quarantined := rfl
@[simp] theorem tick_mapped (h : Hub) : (tick h).mapped = h.mapped := rfl
@[simp] theorem tick_hearth (h : Hub) : (tick h).hearth = h.hearth := rfl
@[simp] theorem tick_grate (h : Hub) : (tick h).grate = h.grate := rfl
@[simp] theorem tick_policers (h : Hub) : (tick h).policers = h.policers := rfl
@[simp] theorem tick_damper (h : Hub) : (tick h).damper = h.damper := rfl
@[simp] theorem tick_domains (h : Hub) : (tick h).domains = h.domains := rfl
@[simp] theorem tick_pins (h : Hub) : (tick h).pins = h.pins := rfl
@[simp] theorem tick_railReq (h : Hub) : (tick h).railReq = h.railReq := rfl
@[simp] theorem tick_merge (h : Hub) : (tick h).merge = h.merge := rfl
@[simp] theorem tick_usb4 (h : Hub) : (tick h).usb4 = h.usb4 := rfl
@[simp] theorem tick_allot (h : Hub) : (tick h).allot = h.allot := rfl
@[simp] theorem tick_keys (h : Hub) : (tick h).keys = h.keys := rfl
@[simp] theorem tick_tampers (h : Hub) : (tick h).tampers = h.tampers := rfl
@[simp] theorem tick_macs (h : Hub) : (tick h).macs = h.macs := rfl
@[simp] theorem tick_nic (h : Hub) : (tick h).nic = h.nic := rfl
@[simp] theorem tick_time (h : Hub) : (tick h).time = h.time := rfl
@[simp] theorem tick_pcie (h : Hub) : (tick h).pcie = h.pcie := rfl
@[simp] theorem tick_recordOk (h : Hub) : (tick h).recordOk = h.recordOk := rfl
@[simp] theorem tick_coder (h : Hub) : (tick h).coder = h.coder := rfl
@[simp] theorem tick_heads (h : Hub) : (tick h).heads = h.heads := rfl
@[simp] theorem tick_outputs (h : Hub) : (tick h).outputs = h.outputs := rfl
@[simp] theorem tick_usb (h : Hub) : (tick h).usb = h.usb := rfl
@[simp] theorem tick_lanes (h : Hub) : (tick h).lanes = h.lanes := rfl
@[simp] theorem tick_pd (h : Hub) : (tick h).pd = h.pd := rfl
@[simp] theorem tick_guards (h : Hub) : (tick h).guards = h.guards := rfl
@[simp] theorem tick_bellows (h : Hub) : (tick h).bellows = h.bellows := rfl
@[simp] theorem tick_health (h : Hub) : (tick h).health = h.health := rfl
@[simp] theorem tick_twin (h : Hub) : (tick h).twin = h.twin := rfl
@[simp] theorem tick_fw (h : Hub) : (tick h).fw = h.fw := rfl
@[simp] theorem tick_out (h : Hub) : (tick h).out = h.out := rfl
@[simp] theorem tick_todo (h : Hub) : (tick h).todo = h.todo := rfl
@[simp] theorem tick_stores (h : Hub) : (tick h).stores = h.stores := rfl
@[simp] theorem tick_zeroed (h : Hub) : (tick h).zeroed = h.zeroed := rfl

@[simp] theorem setAllot_part (h : Hub) (f : Allot → Allot) : (setAllot h f).part = h.part := rfl
@[simp] theorem setAllot_dict (h : Hub) (f : Allot → Allot) : (setAllot h f).dict = h.dict := rfl
@[simp] theorem setAllot_straps (h : Hub) (f : Allot → Allot) : (setAllot h f).straps = h.straps := rfl
@[simp] theorem setAllot_todo (h : Hub) (f : Allot → Allot) : (setAllot h f).todo = h.todo := rfl
@[simp] theorem setAllot_stores (h : Hub) (f : Allot → Allot) : (setAllot h f).stores = h.stores := rfl
@[simp] theorem setAllot_zeroed (h : Hub) (f : Allot → Allot) : (setAllot h f).zeroed = h.zeroed := rfl
@[simp] theorem setAllot_recordOk (h : Hub) (f : Allot → Allot) : (setAllot h f).recordOk = h.recordOk := rfl
@[simp] theorem setAllot_fw (h : Hub) (f : Allot → Allot) : (setAllot h f).fw = h.fw := rfl
@[simp] theorem setAllot_usb4 (h : Hub) (f : Allot → Allot) : (setAllot h f).usb4 = h.usb4 := rfl
@[simp] theorem setAllot_twin (h : Hub) (f : Allot → Allot) : (setAllot h f).twin = h.twin := rfl
@[simp] theorem setAllot_out (h : Hub) (f : Allot → Allot) : (setAllot h f).out = h.out := rfl
@[simp] theorem setAllot_fresh (h : Hub) (f : Allot → Allot) : (setAllot h f).fresh = h.fresh := rfl
@[simp] theorem setAllot_allot (h : Hub) (f : Allot → Allot) : (setAllot h f).allot = f h.allot := rfl

@[simp] theorem setBellows_part (h : Hub) (f : Bellows → Bellows) : (setBellows h f).part = h.part := rfl
@[simp] theorem setBellows_dict (h : Hub) (f : Bellows → Bellows) : (setBellows h f).dict = h.dict := rfl
@[simp] theorem setBellows_straps (h : Hub) (f : Bellows → Bellows) : (setBellows h f).straps = h.straps := rfl
@[simp] theorem setBellows_todo (h : Hub) (f : Bellows → Bellows) : (setBellows h f).todo = h.todo := rfl
@[simp] theorem setBellows_stores (h : Hub) (f : Bellows → Bellows) : (setBellows h f).stores = h.stores := rfl
@[simp] theorem setBellows_zeroed (h : Hub) (f : Bellows → Bellows) : (setBellows h f).zeroed = h.zeroed := rfl
@[simp] theorem setBellows_recordOk (h : Hub) (f : Bellows → Bellows) : (setBellows h f).recordOk = h.recordOk := rfl
@[simp] theorem setBellows_fw (h : Hub) (f : Bellows → Bellows) : (setBellows h f).fw = h.fw := rfl
@[simp] theorem setBellows_usb4 (h : Hub) (f : Bellows → Bellows) : (setBellows h f).usb4 = h.usb4 := rfl
@[simp] theorem setBellows_twin (h : Hub) (f : Bellows → Bellows) : (setBellows h f).twin = h.twin := rfl
@[simp] theorem setBellows_out (h : Hub) (f : Bellows → Bellows) : (setBellows h f).out = h.out := rfl
@[simp] theorem setBellows_fresh (h : Hub) (f : Bellows → Bellows) : (setBellows h f).fresh = h.fresh := rfl
@[simp] theorem setBellows_bellows (h : Hub) (f : Bellows → Bellows) : (setBellows h f).bellows = f h.bellows := rfl

@[simp] theorem setCoder_part (h : Hub) (f : Coder → Coder) : (setCoder h f).part = h.part := rfl
@[simp] theorem setCoder_dict (h : Hub) (f : Coder → Coder) : (setCoder h f).dict = h.dict := rfl
@[simp] theorem setCoder_straps (h : Hub) (f : Coder → Coder) : (setCoder h f).straps = h.straps := rfl
@[simp] theorem setCoder_todo (h : Hub) (f : Coder → Coder) : (setCoder h f).todo = h.todo := rfl
@[simp] theorem setCoder_stores (h : Hub) (f : Coder → Coder) : (setCoder h f).stores = h.stores := rfl
@[simp] theorem setCoder_zeroed (h : Hub) (f : Coder → Coder) : (setCoder h f).zeroed = h.zeroed := rfl
@[simp] theorem setCoder_recordOk (h : Hub) (f : Coder → Coder) : (setCoder h f).recordOk = h.recordOk := rfl
@[simp] theorem setCoder_fw (h : Hub) (f : Coder → Coder) : (setCoder h f).fw = h.fw := rfl
@[simp] theorem setCoder_usb4 (h : Hub) (f : Coder → Coder) : (setCoder h f).usb4 = h.usb4 := rfl
@[simp] theorem setCoder_twin (h : Hub) (f : Coder → Coder) : (setCoder h f).twin = h.twin := rfl
@[simp] theorem setCoder_out (h : Hub) (f : Coder → Coder) : (setCoder h f).out = h.out := rfl
@[simp] theorem setCoder_fresh (h : Hub) (f : Coder → Coder) : (setCoder h f).fresh = h.fresh := rfl
@[simp] theorem setCoder_coder (h : Hub) (f : Coder → Coder) : (setCoder h f).coder = f h.coder := rfl

@[simp] theorem setDamper_part (h : Hub) (f : Damper → Damper) : (setDamper h f).part = h.part := rfl
@[simp] theorem setDamper_dict (h : Hub) (f : Damper → Damper) : (setDamper h f).dict = h.dict := rfl
@[simp] theorem setDamper_straps (h : Hub) (f : Damper → Damper) : (setDamper h f).straps = h.straps := rfl
@[simp] theorem setDamper_todo (h : Hub) (f : Damper → Damper) : (setDamper h f).todo = h.todo := rfl
@[simp] theorem setDamper_stores (h : Hub) (f : Damper → Damper) : (setDamper h f).stores = h.stores := rfl
@[simp] theorem setDamper_zeroed (h : Hub) (f : Damper → Damper) : (setDamper h f).zeroed = h.zeroed := rfl
@[simp] theorem setDamper_recordOk (h : Hub) (f : Damper → Damper) : (setDamper h f).recordOk = h.recordOk := rfl
@[simp] theorem setDamper_fw (h : Hub) (f : Damper → Damper) : (setDamper h f).fw = h.fw := rfl
@[simp] theorem setDamper_usb4 (h : Hub) (f : Damper → Damper) : (setDamper h f).usb4 = h.usb4 := rfl
@[simp] theorem setDamper_twin (h : Hub) (f : Damper → Damper) : (setDamper h f).twin = h.twin := rfl
@[simp] theorem setDamper_out (h : Hub) (f : Damper → Damper) : (setDamper h f).out = h.out := rfl
@[simp] theorem setDamper_fresh (h : Hub) (f : Damper → Damper) : (setDamper h f).fresh = h.fresh := rfl
@[simp] theorem setDamper_damper (h : Hub) (f : Damper → Damper) : (setDamper h f).damper = f h.damper := rfl

@[simp] theorem setFw_part (h : Hub) (f : Firmware → Firmware) : (setFw h f).part = h.part := rfl
@[simp] theorem setFw_dict (h : Hub) (f : Firmware → Firmware) : (setFw h f).dict = h.dict := rfl
@[simp] theorem setFw_straps (h : Hub) (f : Firmware → Firmware) : (setFw h f).straps = h.straps := rfl
@[simp] theorem setFw_todo (h : Hub) (f : Firmware → Firmware) : (setFw h f).todo = h.todo := rfl
@[simp] theorem setFw_stores (h : Hub) (f : Firmware → Firmware) : (setFw h f).stores = h.stores := rfl
@[simp] theorem setFw_zeroed (h : Hub) (f : Firmware → Firmware) : (setFw h f).zeroed = h.zeroed := rfl
@[simp] theorem setFw_recordOk (h : Hub) (f : Firmware → Firmware) : (setFw h f).recordOk = h.recordOk := rfl
@[simp] theorem setFw_usb4 (h : Hub) (f : Firmware → Firmware) : (setFw h f).usb4 = h.usb4 := rfl
@[simp] theorem setFw_twin (h : Hub) (f : Firmware → Firmware) : (setFw h f).twin = h.twin := rfl
@[simp] theorem setFw_out (h : Hub) (f : Firmware → Firmware) : (setFw h f).out = h.out := rfl
@[simp] theorem setFw_fresh (h : Hub) (f : Firmware → Firmware) : (setFw h f).fresh = h.fresh := rfl
@[simp] theorem setFw_fw (h : Hub) (f : Firmware → Firmware) : (setFw h f).fw = f h.fw := rfl

@[simp] theorem setTwin_part (h : Hub) (f : Twin → Twin) : (setTwin h f).part = h.part := rfl
@[simp] theorem setTwin_dict (h : Hub) (f : Twin → Twin) : (setTwin h f).dict = h.dict := rfl
@[simp] theorem setTwin_straps (h : Hub) (f : Twin → Twin) : (setTwin h f).straps = h.straps := rfl
@[simp] theorem setTwin_todo (h : Hub) (f : Twin → Twin) : (setTwin h f).todo = h.todo := rfl
@[simp] theorem setTwin_stores (h : Hub) (f : Twin → Twin) : (setTwin h f).stores = h.stores := rfl
@[simp] theorem setTwin_zeroed (h : Hub) (f : Twin → Twin) : (setTwin h f).zeroed = h.zeroed := rfl
@[simp] theorem setTwin_recordOk (h : Hub) (f : Twin → Twin) : (setTwin h f).recordOk = h.recordOk := rfl
@[simp] theorem setTwin_fw (h : Hub) (f : Twin → Twin) : (setTwin h f).fw = h.fw := rfl
@[simp] theorem setTwin_usb4 (h : Hub) (f : Twin → Twin) : (setTwin h f).usb4 = h.usb4 := rfl
@[simp] theorem setTwin_out (h : Hub) (f : Twin → Twin) : (setTwin h f).out = h.out := rfl
@[simp] theorem setTwin_fresh (h : Hub) (f : Twin → Twin) : (setTwin h f).fresh = h.fresh := rfl
@[simp] theorem setTwin_twin (h : Hub) (f : Twin → Twin) : (setTwin h f).twin = f h.twin := rfl

@[simp] theorem setGrate_part (h : Hub) (f : Grate → Grate) : (setGrate h f).part = h.part := rfl
@[simp] theorem setGrate_dict (h : Hub) (f : Grate → Grate) : (setGrate h f).dict = h.dict := rfl
@[simp] theorem setGrate_straps (h : Hub) (f : Grate → Grate) : (setGrate h f).straps = h.straps := rfl
@[simp] theorem setGrate_todo (h : Hub) (f : Grate → Grate) : (setGrate h f).todo = h.todo := rfl
@[simp] theorem setGrate_stores (h : Hub) (f : Grate → Grate) : (setGrate h f).stores = h.stores := rfl
@[simp] theorem setGrate_zeroed (h : Hub) (f : Grate → Grate) : (setGrate h f).zeroed = h.zeroed := rfl
@[simp] theorem setGrate_recordOk (h : Hub) (f : Grate → Grate) : (setGrate h f).recordOk = h.recordOk := rfl
@[simp] theorem setGrate_fw (h : Hub) (f : Grate → Grate) : (setGrate h f).fw = h.fw := rfl
@[simp] theorem setGrate_usb4 (h : Hub) (f : Grate → Grate) : (setGrate h f).usb4 = h.usb4 := rfl
@[simp] theorem setGrate_twin (h : Hub) (f : Grate → Grate) : (setGrate h f).twin = h.twin := rfl
@[simp] theorem setGrate_out (h : Hub) (f : Grate → Grate) : (setGrate h f).out = h.out := rfl
@[simp] theorem setGrate_fresh (h : Hub) (f : Grate → Grate) : (setGrate h f).fresh = h.fresh := rfl
@[simp] theorem setGrate_grate (h : Hub) (f : Grate → Grate) : (setGrate h f).grate = f h.grate := rfl

@[simp] theorem setJdp_part (h : Hub) (f : Jdp → Jdp) : (setJdp h f).part = h.part := rfl
@[simp] theorem setJdp_dict (h : Hub) (f : Jdp → Jdp) : (setJdp h f).dict = h.dict := rfl
@[simp] theorem setJdp_straps (h : Hub) (f : Jdp → Jdp) : (setJdp h f).straps = h.straps := rfl
@[simp] theorem setJdp_todo (h : Hub) (f : Jdp → Jdp) : (setJdp h f).todo = h.todo := rfl
@[simp] theorem setJdp_stores (h : Hub) (f : Jdp → Jdp) : (setJdp h f).stores = h.stores := rfl
@[simp] theorem setJdp_zeroed (h : Hub) (f : Jdp → Jdp) : (setJdp h f).zeroed = h.zeroed := rfl
@[simp] theorem setJdp_recordOk (h : Hub) (f : Jdp → Jdp) : (setJdp h f).recordOk = h.recordOk := rfl
@[simp] theorem setJdp_fw (h : Hub) (f : Jdp → Jdp) : (setJdp h f).fw = h.fw := rfl
@[simp] theorem setJdp_usb4 (h : Hub) (f : Jdp → Jdp) : (setJdp h f).usb4 = h.usb4 := rfl
@[simp] theorem setJdp_twin (h : Hub) (f : Jdp → Jdp) : (setJdp h f).twin = h.twin := rfl
@[simp] theorem setJdp_out (h : Hub) (f : Jdp → Jdp) : (setJdp h f).out = h.out := rfl
@[simp] theorem setJdp_fresh (h : Hub) (f : Jdp → Jdp) : (setJdp h f).fresh = h.fresh := rfl
@[simp] theorem setJdp_jdp (h : Hub) (f : Jdp → Jdp) : (setJdp h f).jdp = f h.jdp := rfl

@[simp] theorem setKeys_part (h : Hub) (f : Keys → Keys) : (setKeys h f).part = h.part := rfl
@[simp] theorem setKeys_dict (h : Hub) (f : Keys → Keys) : (setKeys h f).dict = h.dict := rfl
@[simp] theorem setKeys_straps (h : Hub) (f : Keys → Keys) : (setKeys h f).straps = h.straps := rfl
@[simp] theorem setKeys_todo (h : Hub) (f : Keys → Keys) : (setKeys h f).todo = h.todo := rfl
@[simp] theorem setKeys_stores (h : Hub) (f : Keys → Keys) : (setKeys h f).stores = h.stores := rfl
@[simp] theorem setKeys_zeroed (h : Hub) (f : Keys → Keys) : (setKeys h f).zeroed = h.zeroed := rfl
@[simp] theorem setKeys_recordOk (h : Hub) (f : Keys → Keys) : (setKeys h f).recordOk = h.recordOk := rfl
@[simp] theorem setKeys_fw (h : Hub) (f : Keys → Keys) : (setKeys h f).fw = h.fw := rfl
@[simp] theorem setKeys_usb4 (h : Hub) (f : Keys → Keys) : (setKeys h f).usb4 = h.usb4 := rfl
@[simp] theorem setKeys_twin (h : Hub) (f : Keys → Keys) : (setKeys h f).twin = h.twin := rfl
@[simp] theorem setKeys_out (h : Hub) (f : Keys → Keys) : (setKeys h f).out = h.out := rfl
@[simp] theorem setKeys_fresh (h : Hub) (f : Keys → Keys) : (setKeys h f).fresh = h.fresh := rfl
@[simp] theorem setKeys_keys (h : Hub) (f : Keys → Keys) : (setKeys h f).keys = f h.keys := rfl

@[simp] theorem setTime_part (h : Hub) (f : TimeUnit → TimeUnit) : (setTime h f).part = h.part := rfl
@[simp] theorem setTime_dict (h : Hub) (f : TimeUnit → TimeUnit) : (setTime h f).dict = h.dict := rfl
@[simp] theorem setTime_straps (h : Hub) (f : TimeUnit → TimeUnit) : (setTime h f).straps = h.straps := rfl
@[simp] theorem setTime_todo (h : Hub) (f : TimeUnit → TimeUnit) : (setTime h f).todo = h.todo := rfl
@[simp] theorem setTime_stores (h : Hub) (f : TimeUnit → TimeUnit) : (setTime h f).stores = h.stores := rfl
@[simp] theorem setTime_zeroed (h : Hub) (f : TimeUnit → TimeUnit) : (setTime h f).zeroed = h.zeroed := rfl
@[simp] theorem setTime_recordOk (h : Hub) (f : TimeUnit → TimeUnit) : (setTime h f).recordOk = h.recordOk := rfl
@[simp] theorem setTime_fw (h : Hub) (f : TimeUnit → TimeUnit) : (setTime h f).fw = h.fw := rfl
@[simp] theorem setTime_usb4 (h : Hub) (f : TimeUnit → TimeUnit) : (setTime h f).usb4 = h.usb4 := rfl
@[simp] theorem setTime_twin (h : Hub) (f : TimeUnit → TimeUnit) : (setTime h f).twin = h.twin := rfl
@[simp] theorem setTime_out (h : Hub) (f : TimeUnit → TimeUnit) : (setTime h f).out = h.out := rfl
@[simp] theorem setTime_fresh (h : Hub) (f : TimeUnit → TimeUnit) : (setTime h f).fresh = h.fresh := rfl
@[simp] theorem setTime_time (h : Hub) (f : TimeUnit → TimeUnit) : (setTime h f).time = f h.time := rfl

@[simp] theorem setOutputs_part (h : Hub) (f : Outputs → Outputs) : (setOutputs h f).part = h.part := rfl
@[simp] theorem setOutputs_dict (h : Hub) (f : Outputs → Outputs) : (setOutputs h f).dict = h.dict := rfl
@[simp] theorem setOutputs_straps (h : Hub) (f : Outputs → Outputs) : (setOutputs h f).straps = h.straps := rfl
@[simp] theorem setOutputs_todo (h : Hub) (f : Outputs → Outputs) : (setOutputs h f).todo = h.todo := rfl
@[simp] theorem setOutputs_stores (h : Hub) (f : Outputs → Outputs) : (setOutputs h f).stores = h.stores := rfl
@[simp] theorem setOutputs_zeroed (h : Hub) (f : Outputs → Outputs) : (setOutputs h f).zeroed = h.zeroed := rfl
@[simp] theorem setOutputs_recordOk (h : Hub) (f : Outputs → Outputs) : (setOutputs h f).recordOk = h.recordOk := rfl
@[simp] theorem setOutputs_fw (h : Hub) (f : Outputs → Outputs) : (setOutputs h f).fw = h.fw := rfl
@[simp] theorem setOutputs_usb4 (h : Hub) (f : Outputs → Outputs) : (setOutputs h f).usb4 = h.usb4 := rfl
@[simp] theorem setOutputs_twin (h : Hub) (f : Outputs → Outputs) : (setOutputs h f).twin = h.twin := rfl
@[simp] theorem setOutputs_out (h : Hub) (f : Outputs → Outputs) : (setOutputs h f).out = h.out := rfl
@[simp] theorem setOutputs_fresh (h : Hub) (f : Outputs → Outputs) : (setOutputs h f).fresh = h.fresh := rfl
@[simp] theorem setOutputs_outputs (h : Hub) (f : Outputs → Outputs) : (setOutputs h f).outputs = f h.outputs := rfl

@[simp] theorem setPcie_part (h : Hub) (f : Pcie → Pcie) : (setPcie h f).part = h.part := rfl
@[simp] theorem setPcie_dict (h : Hub) (f : Pcie → Pcie) : (setPcie h f).dict = h.dict := rfl
@[simp] theorem setPcie_straps (h : Hub) (f : Pcie → Pcie) : (setPcie h f).straps = h.straps := rfl
@[simp] theorem setPcie_todo (h : Hub) (f : Pcie → Pcie) : (setPcie h f).todo = h.todo := rfl
@[simp] theorem setPcie_stores (h : Hub) (f : Pcie → Pcie) : (setPcie h f).stores = h.stores := rfl
@[simp] theorem setPcie_zeroed (h : Hub) (f : Pcie → Pcie) : (setPcie h f).zeroed = h.zeroed := rfl
@[simp] theorem setPcie_recordOk (h : Hub) (f : Pcie → Pcie) : (setPcie h f).recordOk = h.recordOk := rfl
@[simp] theorem setPcie_fw (h : Hub) (f : Pcie → Pcie) : (setPcie h f).fw = h.fw := rfl
@[simp] theorem setPcie_usb4 (h : Hub) (f : Pcie → Pcie) : (setPcie h f).usb4 = h.usb4 := rfl
@[simp] theorem setPcie_twin (h : Hub) (f : Pcie → Pcie) : (setPcie h f).twin = h.twin := rfl
@[simp] theorem setPcie_out (h : Hub) (f : Pcie → Pcie) : (setPcie h f).out = h.out := rfl
@[simp] theorem setPcie_fresh (h : Hub) (f : Pcie → Pcie) : (setPcie h f).fresh = h.fresh := rfl
@[simp] theorem setPcie_pcie (h : Hub) (f : Pcie → Pcie) : (setPcie h f).pcie = f h.pcie := rfl

@[simp] theorem setPd_part (h : Hub) (f : Pd → Pd) : (setPd h f).part = h.part := rfl
@[simp] theorem setPd_dict (h : Hub) (f : Pd → Pd) : (setPd h f).dict = h.dict := rfl
@[simp] theorem setPd_straps (h : Hub) (f : Pd → Pd) : (setPd h f).straps = h.straps := rfl
@[simp] theorem setPd_todo (h : Hub) (f : Pd → Pd) : (setPd h f).todo = h.todo := rfl
@[simp] theorem setPd_stores (h : Hub) (f : Pd → Pd) : (setPd h f).stores = h.stores := rfl
@[simp] theorem setPd_zeroed (h : Hub) (f : Pd → Pd) : (setPd h f).zeroed = h.zeroed := rfl
@[simp] theorem setPd_recordOk (h : Hub) (f : Pd → Pd) : (setPd h f).recordOk = h.recordOk := rfl
@[simp] theorem setPd_fw (h : Hub) (f : Pd → Pd) : (setPd h f).fw = h.fw := rfl
@[simp] theorem setPd_usb4 (h : Hub) (f : Pd → Pd) : (setPd h f).usb4 = h.usb4 := rfl
@[simp] theorem setPd_twin (h : Hub) (f : Pd → Pd) : (setPd h f).twin = h.twin := rfl
@[simp] theorem setPd_out (h : Hub) (f : Pd → Pd) : (setPd h f).out = h.out := rfl
@[simp] theorem setPd_fresh (h : Hub) (f : Pd → Pd) : (setPd h f).fresh = h.fresh := rfl
@[simp] theorem setPd_pd (h : Hub) (f : Pd → Pd) : (setPd h f).pd = f h.pd := rfl

@[simp] theorem setUsb_part (h : Hub) (f : Usb → Usb) : (setUsb h f).part = h.part := rfl
@[simp] theorem setUsb_dict (h : Hub) (f : Usb → Usb) : (setUsb h f).dict = h.dict := rfl
@[simp] theorem setUsb_straps (h : Hub) (f : Usb → Usb) : (setUsb h f).straps = h.straps := rfl
@[simp] theorem setUsb_todo (h : Hub) (f : Usb → Usb) : (setUsb h f).todo = h.todo := rfl
@[simp] theorem setUsb_stores (h : Hub) (f : Usb → Usb) : (setUsb h f).stores = h.stores := rfl
@[simp] theorem setUsb_zeroed (h : Hub) (f : Usb → Usb) : (setUsb h f).zeroed = h.zeroed := rfl
@[simp] theorem setUsb_recordOk (h : Hub) (f : Usb → Usb) : (setUsb h f).recordOk = h.recordOk := rfl
@[simp] theorem setUsb_fw (h : Hub) (f : Usb → Usb) : (setUsb h f).fw = h.fw := rfl
@[simp] theorem setUsb_usb4 (h : Hub) (f : Usb → Usb) : (setUsb h f).usb4 = h.usb4 := rfl
@[simp] theorem setUsb_twin (h : Hub) (f : Usb → Usb) : (setUsb h f).twin = h.twin := rfl
@[simp] theorem setUsb_out (h : Hub) (f : Usb → Usb) : (setUsb h f).out = h.out := rfl
@[simp] theorem setUsb_fresh (h : Hub) (f : Usb → Usb) : (setUsb h f).fresh = h.fresh := rfl
@[simp] theorem setUsb_usb (h : Hub) (f : Usb → Usb) : (setUsb h f).usb = f h.usb := rfl

@[simp] theorem setUsb4_part (h : Hub) (f : Usb4 → Usb4) : (setUsb4 h f).part = h.part := rfl
@[simp] theorem setUsb4_dict (h : Hub) (f : Usb4 → Usb4) : (setUsb4 h f).dict = h.dict := rfl
@[simp] theorem setUsb4_straps (h : Hub) (f : Usb4 → Usb4) : (setUsb4 h f).straps = h.straps := rfl
@[simp] theorem setUsb4_todo (h : Hub) (f : Usb4 → Usb4) : (setUsb4 h f).todo = h.todo := rfl
@[simp] theorem setUsb4_stores (h : Hub) (f : Usb4 → Usb4) : (setUsb4 h f).stores = h.stores := rfl
@[simp] theorem setUsb4_zeroed (h : Hub) (f : Usb4 → Usb4) : (setUsb4 h f).zeroed = h.zeroed := rfl
@[simp] theorem setUsb4_recordOk (h : Hub) (f : Usb4 → Usb4) : (setUsb4 h f).recordOk = h.recordOk := rfl
@[simp] theorem setUsb4_fw (h : Hub) (f : Usb4 → Usb4) : (setUsb4 h f).fw = h.fw := rfl
@[simp] theorem setUsb4_twin (h : Hub) (f : Usb4 → Usb4) : (setUsb4 h f).twin = h.twin := rfl
@[simp] theorem setUsb4_out (h : Hub) (f : Usb4 → Usb4) : (setUsb4 h f).out = h.out := rfl
@[simp] theorem setUsb4_fresh (h : Hub) (f : Usb4 → Usb4) : (setUsb4 h f).fresh = h.fresh := rfl
@[simp] theorem setUsb4_usb4 (h : Hub) (f : Usb4 → Usb4) : (setUsb4 h f).usb4 = f h.usb4 := rfl

@[simp] theorem clearTransient_settled (h : Hub) : (clearTransient h).todo = [] ∧ (clearTransient h).stores = []
    ∧ (clearTransient h).zeroed = [] ∧ (clearTransient h).recordOk = true := ⟨rfl, rfl, rfl, rfl⟩
@[simp] theorem keepPart_part (was h : Hub) : (keepPart was h).part = was.part := rfl
@[simp] theorem runOn_pending (f : List Host.Cell → Hub → Hub) (s : State) : (runOn f s).pending = s.pending := by
  simp only [runOn]
@[simp] theorem runOn_part (f : List Host.Cell → Hub → Hub) (s : State) : (runOn f s).hub.part = s.hub.part := by
  simp only [runOn, clearTransient, keepPart]

/-! Sparse tables -/

theorem mget?_mset_same {α : Type} (m : SMap α) (k : Nat) (v : α) : mget? (mset m k v) k = some v := by
  induction m with
  | nil => simp [mset, mget?]
  | cons c r ih =>
    obtain ⟨a, b⟩ := c
    by_cases h1 : k < a
    · simp [mset, mget?, h1]
    · by_cases h2 : a < k
      · have h3 : (a == k) = false := by simp; omega
        simp [mset, mget?, h1, h2, h3, ih]
      · simp [mset, mget?, h1, h2]

theorem mget?_mset_other {α : Type} (m : SMap α) (k k' : Nat) (v : α) (hne : k' ≠ k) : mget? (mset m k v) k' = mget? m k' := by
  have hk : (k == k') = false := by simpa using fun e => hne e.symm
  induction m with
  | nil => simp [mset, mget?, hk]
  | cons c r ih =>
    obtain ⟨a, b⟩ := c
    by_cases h1 : k < a
    · simp [mset, mget?, h1, hk]
    · by_cases h2 : a < k
      · simp [mset, mget?, h1, h2, ih]
      · have : a = k := by omega
        simp [mset, mget?, hk, this]

@[simp] theorem mget_mset_same {α : Type} (m : SMap α) (d : α) (k : Nat) (v : α) : mget (mset m k v) d k = v := by
  simp [mget, mget?_mset_same]

theorem mget_mset_other {α : Type} (m : SMap α) (d : α) (k k' : Nat) (v : α) (hne : k' ≠ k) :
    mget (mset m k v) d k' = mget m d k' := by
  simp [mget, mget?_mset_other m k k' v hne]

/-- Every key of a table after a write is the written key or was one before. -/
theorem mem_mset {α : Type} (m : SMap α) (k : Nat) (v : α) (x : Nat × α) (h : x ∈ mset m k v) : x = (k, v) ∨ x ∈ m := by
  induction m with
  | nil => simpa [mset] using h
  | cons c r ih =>
    obtain ⟨a, b⟩ := c
    by_cases h1 : k < a
    · simpa [mset, h1] using h
    · by_cases h2 : a < k
      · simp only [mset, h1, h2, if_true, if_false, List.mem_cons] at h
        rcases h with h | h
        · exact Or.inr (by simp [h])
        · rcases ih h with h | h
          · exact Or.inl h
          · exact Or.inr (by simp [h])
      · simp only [mset, h1, h2, if_false, List.mem_cons] at h
        rcases h with h | h
        · exact Or.inl h
        · exact Or.inr (by simp [h])

theorem mem_merase {α : Type} (m : SMap α) (k : Nat) (x : Nat × α) (h : x ∈ merase m k) : x ∈ m := by
  induction m with
  | nil => simp [merase] at h
  | cons c r ih =>
    obtain ⟨a, b⟩ := c
    by_cases h1 : (a == k) = true
    · simp only [merase, h1, if_true] at h
      exact List.mem_cons_of_mem _ (ih h)
    · simp only [merase, h1] at h
      rcases List.mem_cons.1 h with h | h
      · exact h ▸ List.mem_cons_self
      · exact List.mem_cons_of_mem _ (ih h)

/-- Keys rise strictly exactly when they are pairwise in order. -/
theorem sorted_iff {α : Type} (m : SMap α) : sorted m = true ↔ m.Pairwise (fun a b => a.1 < b.1) := by
  induction m with
  | nil => simp [sorted]
  | cons a r ih =>
    cases r with
    | nil => simp [sorted]
    | cons b r =>
      simp only [sorted, Bool.and_eq_true, decide_eq_true_eq, ih]
      constructor
      · rintro ⟨hab, hr⟩
        refine List.pairwise_cons.2 ⟨fun x hx => ?_, hr⟩
        rcases List.mem_cons.1 hx with rfl | hx
        · exact hab
        · exact Nat.lt_trans hab ((List.pairwise_cons.1 hr).1 x hx)
      · intro h
        obtain ⟨h1, h2⟩ := List.pairwise_cons.1 h
        exact ⟨h1 b (by simp), h2⟩

theorem sorted_mset {α : Type} (m : SMap α) (k : Nat) (v : α) (h : sorted m = true) : sorted (mset m k v) = true := by
  rw [sorted_iff] at h ⊢
  induction m with
  | nil => simp [mset]
  | cons c r ih =>
    obtain ⟨a, b⟩ := c
    obtain ⟨h1, h2⟩ := List.pairwise_cons.1 h
    by_cases l1 : k < a
    · simp only [mset, l1, if_true]
      refine List.pairwise_cons.2 ⟨fun x hx => ?_, h⟩
      rcases List.mem_cons.1 hx with rfl | hx
      · exact l1
      · exact Nat.lt_trans l1 (h1 x hx)
    · by_cases l2 : a < k
      · simp only [mset, l1, l2, if_true, if_false]
        refine List.pairwise_cons.2 ⟨fun x hx => ?_, ih h2⟩
        rcases mem_mset r k v x hx with rfl | hx
        · exact l2
        · exact h1 x hx
      · have : a = k := by omega
        subst this
        simp only [mset, l1, if_false]
        exact List.pairwise_cons.2 ⟨h1, h2⟩

theorem sorted_merase {α : Type} (m : SMap α) (k : Nat) (h : sorted m = true) : sorted (merase m k) = true := by
  rw [sorted_iff] at h ⊢
  induction m with
  | nil => simp [merase]
  | cons c r ih =>
    obtain ⟨a, b⟩ := c
    obtain ⟨h1, h2⟩ := List.pairwise_cons.1 h
    by_cases l1 : (a == k) = true
    · simp only [merase, l1, if_true]
      exact ih h2
    · simp only [merase, l1]
      exact List.pairwise_cons.2 ⟨fun x hx => h1 x (mem_merase r k x hx), ih h2⟩

theorem mget?_merase_same {α : Type} (m : SMap α) (k : Nat) : mget? (merase m k) k = none := by
  induction m with
  | nil => rfl
  | cons c r ih =>
    obtain ⟨a, b⟩ := c
    by_cases l1 : (a == k) = true
    · simp only [merase, l1, if_true, ih]
    · have l2 : (a == k) = false := by simpa using l1
      simp only [merase, l2, mget?, Bool.false_eq_true, if_false, ih]

theorem mget?_merase_other {α : Type} (m : SMap α) (k k' : Nat) (hne : k' ≠ k) : mget? (merase m k) k' = mget? m k' := by
  induction m with
  | nil => rfl
  | cons c r ih =>
    obtain ⟨a, b⟩ := c
    by_cases l1 : (a == k) = true
    · have h1 : a = k := by simpa using l1
      have h2 : (a == k') = false := by
        simp [h1]
        exact fun e => hne e.symm
      simp [merase, l1, mget?, h2, ih]
    · have l2 : (a == k) = false := by simpa using l1
      simp only [merase, l2, mget?, Bool.false_eq_true, if_false, ih]

/-! Live values -/

@[simp] theorem getV_setV_same (h : Hub) (k : Nat) (v : Val) : getV (setV h k v) k = v := by
  simp [getV, mget?_mset_same]

theorem getV_setV_other (h : Hub) (k k' : Nat) (v : Val) (hne : canonKey k' ≠ canonKey k) : getV (setV h k v) k' = getV h k' := by
  simp [getV, mget?_mset_other _ _ _ _ hne]

@[simp] theorem getN_setN_same (h : Hub) (k n : Nat) : getN (setN h k n) k = n := by
  simp [getN, getI, setN, Val.toInt]

theorem getN_setN_other (h : Hub) (k k' n : Nat) (hne : canonKey k' ≠ canonKey k) : getN (setN h k n) k' = getN h k' := by
  simp [getN, getI, setN, getV_setV_other h k k' _ hne]

theorem getN_setV_other (h : Hub) (k k' : Nat) (v : Val) (hne : canonKey k' ≠ canonKey k) : getN (setV h k v) k' = getN h k' := by
  simp [getN, getI, getV_setV_other h k k' _ hne]

/-- A live value depends on the dictionary and the part alone. -/
theorem getN_congr (h h' : Hub) (hd : h'.dict = h.dict) (hp : h'.part = h.part) (k : Nat) : getN h' k = getN h k := by
  simp [getN, getI, getV, hd, hp]

@[simp] theorem getN_send (h : Hub) (o : Out) (k : Nat) : getN (send h o) k = getN h k := rfl
@[simp] theorem getN_later (h : Hub) (t : Todo) (k : Nat) : getN (later h t) k = getN h k := rfl
@[simp] theorem getN_tick (h : Hub) (k : Nat) : getN (tick h) k = getN h k := rfl

end Sys2Proof.Machine
end

