-- ==== Sys2Proof/Laws/Memory.lean ====
section
/-! SUPPORT. The Hearth's content: every operation on it keeps the canonical form, a read after a write gives the byte written, and every
other address reads as before. -/

namespace Sys2Proof.Machine

theorem Memory.wf_iff (p : Part) (m : List Host.Cell) :
    Memory.wf p m = true ↔ sorted m = true ∧ ∀ c ∈ m, c.2 ≠ 0 ∧ c.1 < p.hearthBytes := by
  simp [Memory.wf]

/-- The empty content is in canonical form. -/
theorem Memory.wf_nil (p : Part) : Memory.wf p [] = true := rfl

/-- Leaving out entries keeps the form. -/
theorem Memory.wf_filter (p : Part) (m : List Host.Cell) (f : Host.Cell → Bool) (h : Memory.wf p m = true) :
    Memory.wf p (m.filter f) = true := by
  rw [Memory.wf_iff] at h ⊢
  refine ⟨?_, fun c hc => h.2 c (List.mem_filter.1 hc).1⟩
  rw [sorted_iff] at *
  exact h.1.filter f

theorem Memory.wf_zeroGroups (p : Part) (gs : List Nat) (m : List Host.Cell) (h : Memory.wf p m = true) :
    Memory.wf p (zeroGroups gs m) = true := Memory.wf_filter p m _ h

theorem Memory.wf_memPut (p : Part) (m : List Host.Cell) (a : Nat) (b : Byte) (ha : a < p.hearthBytes) (h : Memory.wf p m = true) :
    Memory.wf p (memPut m a b) = true := by
  rw [Memory.wf_iff] at h ⊢
  by_cases hb : b = 0
  · simp only [memPut, hb, if_true]
    exact ⟨sorted_merase m a h.1, fun c hc => h.2 c (mem_merase m a c hc)⟩
  · simp only [memPut, hb, if_false]
    refine ⟨sorted_mset m a b h.1, fun c hc => ?_⟩
    rcases mem_mset m a b c hc with rfl | hc
    · exact ⟨hb, ha⟩
    · exact h.2 c hc

theorem Memory.wf_memStore (p : Part) (m : List Host.Cell) (a : Nat) (b : Byte) (h : Memory.wf p m = true) :
    Memory.wf p (memStore p m a b) = true := by
  by_cases ha : a < p.hearthBytes
  · simpa [memStore, ha] using Memory.wf_memPut p m a b ha h
  · simpa [memStore, ha] using h

theorem Memory.wf_memStores (p : Part) (l : List (Nat × Byte)) (m : List Host.Cell) (h : Memory.wf p m = true) :
    Memory.wf p (memStores p m l) = true := by
  induction l generalizing m with
  | nil => simpa [memStores] using h
  | cons w r ih =>
    have := ih (memStore p m w.1 w.2) (Memory.wf_memStore p m w.1 w.2 h)
    simpa [memStores] using this

theorem Memory.wf_newMem (h : Hub) (m : List Host.Cell) (hm : Memory.wf h.part m = true) : Memory.wf h.part (newMem h m) = true :=
  Memory.wf_memStores h.part h.stores _ (Memory.wf_zeroGroups h.part h.zeroed m hm)

/-- R91: what was written is read back. -/
theorem memByte_memPut_same (m : List Host.Cell) (a : Nat) (b : Byte) : memByte (memPut m a b) a = b := by
  unfold memPut memByte
  split
  · rename_i hb
    simp [hb, mget?_merase_same m a]
  · simp [mget?_mset_same]

theorem memByte_memPut_other (m : List Host.Cell) (a a' : Nat) (b : Byte) (hne : a' ≠ a) :
    memByte (memPut m a b) a' = memByte m a' := by
  unfold memPut memByte
  split
  · rw [mget?_merase_other m a a' hne]
  · rw [mget?_mset_other m a a' b hne]

theorem memByte_memStore_other (p : Part) (m : List Host.Cell) (a a' : Nat) (b : Byte) (hne : a' ≠ a) :
    memByte (memStore p m a b) a' = memByte m a' := by
  by_cases ha : a < p.hearthBytes
  · simp [memStore, ha, memByte_memPut_other m a a' b hne]
  · simp [memStore, ha]

/-- A byte that no write of a command names reads as before. -/
theorem memByte_memStores_other (p : Part) (l : List (Nat × Byte)) (m : List Host.Cell) (a : Nat) (h : ∀ w ∈ l, w.1 ≠ a) :
    memByte (memStores p m l) a = memByte m a := by
  induction l generalizing m with
  | nil => rfl
  | cons w r ih =>
    have h1 := ih (memStore p m w.1 w.2) (fun x hx => h x (by simp [hx]))
    have h2 := memByte_memStore_other p m w.1 a w.2 (fun e => h w (by simp) e.symm)
    simpa [memStores, h2] using h1

@[simp] theorem zeroGroups_nil (m : List Host.Cell) : zeroGroups [] m = m := by
  simp [zeroGroups]

/-- A command that writes nothing into the Hearth and zeroes no group leaves its content. -/
theorem newMem_quiet (h : Hub) (m : List Host.Cell) (hs : h.stores = []) (hz : h.zeroed = []) : newMem h m = m := by
  simp [newMem, hs, hz, memStores]

end Sys2Proof.Machine
end

