-- ==== Sys2Proof/Laws/Commands.lean ====
section
/-! SUPPORT. What running a command can do: the three ends of `runCmd`, and what a hub with nothing else to do makes of an effect. -/

namespace Sys2Proof.Machine

/-- A command that names what the hub has no wires for changes nothing. -/
theorem runCmd_illFormed (f : List Host.Cell → Hub → Hub) (s : State) : runCmd false f s = .next s := rfl

/-- Without power nothing happens. -/
theorem runCmd_unpowered (f : List Host.Cell → Hub → Hub) (s : State) (h : s.hub.fw.powered = false) : runCmd true f s = .next s := by
  simp [runCmd, h]

theorem runCmd_powered (f : List Host.Cell → Hub → Hub) (s : State) (h : s.hub.fw.powered = true) :
    runCmd true f s = .next (runOn f s) := by
  simp [runCmd, h]

/-- Everything that a command can answer. -/
theorem runCmd_cases (ok : Bool) (f : List Host.Cell → Hub → Hub) (s : State) :
    (ok = false ∧ runCmd ok f s = .next s)
    ∨ (ok = true ∧ s.hub.fw.powered = false ∧ runCmd ok f s = .next s)
    ∨ (ok = true ∧ s.hub.fw.powered = true ∧ runCmd ok f s = .next (runOn f s)) := by
  cases ok
  · exact Or.inl ⟨rfl, rfl⟩
  · cases h : s.hub.fw.powered
    · exact Or.inr (Or.inl ⟨rfl, rfl, runCmd_unpowered f s h⟩)
    · exact Or.inr (Or.inr ⟨rfl, rfl, runCmd_powered f s h⟩)

@[simp] theorem drain_empty (m : List Host.Cell) (n : Nat) (h : Hub) (ht : h.todo = []) : drain m n h = h := by
  cases n with
  | zero => rfl
  | succ n => simp [drain, ht]

theorem forEach_same {α : Type} (l : List α) (h : Hub) (f : Hub → α → Hub) (hf : ∀ x ∈ l, f h x = h) : forEach l h f = h := by
  unfold forEach
  induction l with
  | nil => rfl
  | cons a r ih =>
    rw [List.foldl_cons, hf a (by simp)]
    exact ih (fun x hx => hf x (by simp [hx]))

theorem followTunnels_same (was h : Hub) (hp : h.usb4.paths = was.usb4.paths) : followTunnels was h = h := by
  unfold followTunnels
  refine forEach_same _ _ _ (fun k _ => ?_)
  have : tunnelOn h k = tunnelOn was k := by simp [tunnelOn, hp]
  simp [this]

theorem leaveLockstep_alone (h : Hub) (ht : getN h Obj.TW_STATE = 0) : leaveLockstep h = h := by
  simp [leaveLockstep, ht]

theorem lockstepCheck_alone (h : Hub) (ht : getN h Obj.TW_STATE = 0) : lockstepCheck h = h := by
  simp [lockstepCheck, ht]

theorem followCopy_alone (m : List Host.Cell) (h : Hub) (ht : getN h Obj.TW_STATE = 0) : followCopy m h = h := by
  simp [followCopy, ht]

/-- A hub without a twin has nothing to follow, unless it is active with its tamper latch set. -/
theorem followTwin_alone (m : List Host.Cell) (was h : Hub) (ht : getN h Obj.TW_STATE = 0) (hl : (isActive h && tampered h) = false) :
    followTwin m was h = h := by
  have hd : whenH (tampered h) h (fun h => demote h .tampered) = h := by
    cases hb : tampered h
    · rfl
    · have hi : isActive h = false := by simpa [hb] using hl
      simp [whenH, demote, hi]
  unfold followTwin
  simp only [hd]
  split <;> simp [leaveLockstep_alone h ht, lockstepCheck_alone h ht, followCopy_alone m h ht]

theorem followUsb3_same (was h : Hub) (hu : usb3Linked h = usb3Linked was) : followUsb3 was h = h := by
  simp [followUsb3, hu]

/-- What the upstream link of the USB 3.2 hub depends on. -/
theorem usb3Linked_same (was h : Hub) (h1 : getN h Obj.USB3_HUB_ENABLE = getN was Obj.USB3_HUB_ENABLE)
    (h2 : getN h (Obj.LINK_MODE 0) = getN was (Obj.LINK_MODE 0)) (h3 : h.part = was.part) (h4 : h.mapped = was.mapped)
    (h5 : h.quarantined = was.quarantined) (h6 : h.usb4.paths = was.usb4.paths) : usb3Linked h = usb3Linked was := by
  simp [usb3Linked, usb3On, usb3Paths, getB, inService, outOfService, h1, h2, h3, h4, h5, h6]

/-- Where no domain has changed, no shed port has met a trigger. -/
theorem followShed_same (was h : Hub) (hd : h.domains = was.domains) : followShed was h = h := by
  have hs : ∀ d, domState h d = domState was d := fun d => by simp [domState, domain, hd]
  unfold followShed
  rw [List.filter_eq_nil_iff.mpr]
  · rfl
  · intro p _
    simp only [hs, List.any_eq_true, not_exists, not_and]
    intro d _
    simp
    omega

theorem applyNow_none (m : List Host.Cell) (h : Hub) (ha : h.twin.applies.filter (fun a => a.time == some 0) = []) :
    applyNow m h = h := by
  simp [applyNow, ha, forEach]

/-- A command that asks for no reaction, moves no tunnel or USB link, wakes no shed port and has no twin sets nothing else off. -/
theorem settle_alone (m : List Host.Cell) (was h : Hub) (ht : h.todo = []) (hp : h.usb4.paths = was.usb4.paths)
    (hu : usb3Linked h = usb3Linked was) (hd : followShed was h = h)
    (hw : getN h Obj.TW_STATE = 0) (hl : (isActive h && tampered h) = false)
    (ha : h.twin.applies.filter (fun a => a.time == some 0) = []) (hr : h.fw.resetWait = false) :
    settle m was h = h := by
  unfold settle
  simp only [drain_empty m drainFuel h ht, followTunnels_same was h hp, followUsb3_same was h hu, hd, followTwin_alone m was h hw hl, applyNow_none m h ha]
  have : pendingReset m h = h := by simp [pendingReset, hr]
  simp only [this, drain_empty m drainFuel h ht]

/-- On a quiet hub, a command whose effect asks for nothing more does that and nothing else. -/
theorem runOn_alone (f : List Host.Cell → Hub → Hub) (s : State) (hq : quiet s)
    (ht : (f s.mem s.hub).todo = []) (hs : (f s.mem s.hub).stores = []) (hz : (f s.mem s.hub).zeroed = [])
    (hk : (f s.mem s.hub).recordOk = true) (hpart : (f s.mem s.hub).part = s.hub.part)
    (hp : (f s.mem s.hub).usb4.paths = s.hub.usb4.paths) (hu : usb3Linked (f s.mem s.hub) = usb3Linked s.hub)
    (hd : followShed s.hub (f s.mem s.hub) = f s.mem s.hub) (hw : getN (f s.mem s.hub) Obj.TW_STATE = 0)
    (hl : (isActive (f s.mem s.hub) && tampered (f s.mem s.hub)) = false)
    (ha : (f s.mem s.hub).twin.applies = s.hub.twin.applies) (hr : (f s.mem s.hub).fw.resetWait = false) :
    runOn f s = { s with hub := f s.mem s.hub } := by
  have e := settle_alone s.mem s.hub (f s.mem s.hub) ht hp hu hd hw hl (by rw [ha]; exact hq.2.2.2.2.1) hr
  unfold runOn
  simp only [e]
  have e2 : keepPart s.hub (f s.mem s.hub) = f s.mem s.hub := by
    cases hf : f s.mem s.hub
    simp_all [keepPart]
  rw [e2]
  have e3 : clearTransient (f s.mem s.hub) = f s.mem s.hub := by
    cases hf : f s.mem s.hub
    simp_all [clearTransient]
  rw [e3, newMem_quiet _ _ hs hz]

end Sys2Proof.Machine
end

