-- ==== Sys2Proof/Laws/Exec.lean ====
section
/-! SUPPORT. What any command can do, over all constructors at once: every meaning but POWER_ON's is `runCmd` of its own effect, and
POWER_ON's is `runAny`. -/

namespace Sys2Proof.Machine

/-- Every command but POWER_ON runs by `runCmd`, without an effect exactly where it is ill formed. -/
theorem exec_runCmd (i : Instr) : (∃ x, i = .powerOn x) ∨ ∃ f, ∀ s, exec i s = runCmd i.wf f s := by
  cases i
  case powerOn x => exact Or.inl ⟨x, rfl⟩
  all_goals exact Or.inr ⟨_, fun _ => rfl⟩

theorem exec_powerOn (x : Straps) (s : State) : exec (.powerOn x) s = .next (runOn (fun m h => powerOn m h x) s) := rfl

theorem wf_powerOn (x : Straps) : (Instr.powerOn x).wf = true := rfl

/-- The outcomes of a command: the state unchanged, or the state that its effect leaves. -/
theorem exec_cases (i : Instr) (s : State) :
    (i.wf = false ∧ exec i s = .next s)
    ∨ (i.wf = true ∧ exec i s = .next s)
    ∨ (i.wf = true ∧ ∃ f, exec i s = .next (runOn f s)) := by
  rcases exec_runCmd i with ⟨x, rfl⟩ | ⟨f, hf⟩
  · exact Or.inr (Or.inr ⟨rfl, _, rfl⟩)
  · rw [hf s]
    rcases runCmd_cases i.wf f s with ⟨h1, h2⟩ | ⟨h1, _, h2⟩ | ⟨h1, _, h2⟩
    · exact Or.inl ⟨h1, h2⟩
    · exact Or.inr (Or.inl ⟨h1, h2⟩)
    · exact Or.inr (Or.inr ⟨h1, f, h2⟩)

/-- What `runsAs` says follows from the arm's own form. -/
theorem runsAs_of (i : Instr) (f : List Host.Cell → Hub → Hub) (h : ∀ s, exec i s = runCmd i.wf f s) : runsAs i f := by
  intro hw s hp
  rw [h s, hw, runCmd_powered f s hp]

/-- On a quiet hub, a command whose effect asks for nothing more answers the state with that effect done. -/
theorem exec_alone (i : Instr) (f : List Host.Cell → Hub → Hub) (s : State) (hi : runsAs i f) (hw : i.wf = true) (hq : quiet s)
    (h' : Hub) (hf : f s.mem s.hub = h') (ht : h'.todo = s.hub.todo) (hs : h'.stores = s.hub.stores) (hz : h'.zeroed = s.hub.zeroed)
    (hk : h'.recordOk = s.hub.recordOk) (hpart : h'.part = s.hub.part) (hp : h'.usb4.paths = s.hub.usb4.paths)
    (hu : usb3Linked h' = usb3Linked s.hub) (hd : followShed s.hub h' = h')
    (hwt : getN h' Obj.TW_STATE = getN s.hub Obj.TW_STATE)
    (hl : (isActive h' && tampered h') = (isActive s.hub && tampered s.hub)) (ha : h'.twin.applies = s.hub.twin.applies)
    (hr : h'.fw.resetWait = s.hub.fw.resetWait) : exec i s = .next { s with hub := h' } := by
  subst hf
  obtain ⟨⟨q1, q2, q3, q4⟩, q5, q6, q7, q8, q9⟩ := hq
  rw [hi hw s q5]
  rw [runOn_alone f s ⟨⟨q1, q2, q3, q4⟩, q5, q6, q7, q8, q9⟩ (by rw [ht, q1]) (by rw [hs, q2]) (by rw [hz, q3]) (by rw [hk, q4]) hpart hp hu hd
    (by rw [hwt, q7]) (by rw [hl, q9]) ha (by rw [hr, q6])]

/-- What every round of a loop keeps, the loop keeps. -/
theorem forEach_inv {α : Type} (P : Hub → Prop) (l : List α) (h : Hub) (f : Hub → α → Hub) (h0 : P h)
    (hs : ∀ x a, P x → P (f x a)) : P (forEach l h f) := by
  unfold forEach
  induction l generalizing h with
  | nil => exact h0
  | cons a r ih => exact ih (f h a) (hs h a h0)

/-- The part of a hub that passing time leaves as it is. -/
def idleFrame (h h' : Hub) : Prop :=
  h'.part = h.part ∧ h'.todo = h.todo ∧ h'.stores = h.stores ∧ h'.zeroed = h.zeroed ∧ h'.recordOk = h.recordOk
  ∧ h'.dict = h.dict ∧ h'.sel = h.sel ∧ h'.staged = h.staged ∧ h'.grate = h.grate ∧ h'.hearth = h.hearth
  ∧ h'.domains = h.domains ∧ h'.keys = h.keys

theorem netTick_frame (h : Hub) : idleFrame h (netTick h) := by
  unfold netTick
  dsimp only
  split
  · exact ⟨rfl, rfl, rfl, rfl, rfl, rfl, rfl, rfl, rfl, rfl, rfl, rfl⟩
  · split <;> exact ⟨rfl, rfl, rfl, rfl, rfl, rfl, rfl, rfl, rfl, rfl, rfl, rfl⟩

theorem returnCredits_frame (h : Hub) : idleFrame h (returnCredits h) ∧ (returnCredits h).now = h.now ∧ (returnCredits h).net = h.net := by
  unfold returnCredits
  refine forEach_inv (fun x => idleFrame h x ∧ x.now = h.now ∧ x.net = h.net) _ _ _
    ⟨⟨rfl, rfl, rfl, rfl, rfl, rfl, rfl, rfl, rfl, rfl, rfl, rfl⟩, rfl, rfl⟩ (fun x p hx => ?_)
  refine forEach_inv (fun y => idleFrame h y ∧ y.now = h.now ∧ y.net = h.net) _ _ _ hx (fun y t hy => ?_)
  dsimp only
  split
  · exact hy
  · exact hy

theorem idleFrame.trans {a b c : Hub} (x : idleFrame a b) (y : idleFrame b c) : idleFrame a c := by
  obtain ⟨a1, a2, a3, a4, a5, a6, a7, a8, a9, a10, a11, a12⟩ := x
  obtain ⟨b1, b2, b3, b4, b5, b6, b7, b8, b9, b10, b11, b12⟩ := y
  exact ⟨b1.trans a1, b2.trans a2, b3.trans a3, b4.trans a4, b5.trans a5, b6.trans a6, b7.trans a7, b8.trans a8, b9.trans a9,
    b10.trans a10, b11.trans a11, b12.trans a12⟩

theorem idleFrame.refl (h : Hub) : idleFrame h h := ⟨rfl, rfl, rfl, rfl, rfl, rfl, rfl, rfl, rfl, rfl, rfl, rfl⟩

theorem send_frame (h : Hub) (o : Out) : idleFrame h (send h o) := ⟨rfl, rfl, rfl, rfl, rfl, rfl, rfl, rfl, rfl, rfl, rfl, rfl⟩

/-- A hub that announces itself only sends. -/
theorem gptpAnnounce_frame (h : Hub) : idleFrame h (gptpAnnounce h) := by
  unfold gptpAnnounce
  dsimp only
  split
  · exact idleFrame.refl h
  · split
    · exact ⟨rfl, rfl, rfl, rfl, rfl, rfl, rfl, rfl, rfl, rfl, rfl, rfl⟩
    · exact forEach_inv (fun x => idleFrame h x) _ _ _ ⟨rfl, rfl, rfl, rfl, rfl, rfl, rfl, rfl, rfl, rfl, rfl, rfl⟩
        (fun x a hx => hx.trans (send_frame x _))

/-- What the hub's clocks, the returned credits and the announcements leave as it is. -/
theorem idleClocks_frame (h : Hub) : idleFrame h (gptpAnnounce (returnCredits (netTick { h with now := h.now + 1 }))) :=
  ((show idleFrame h { h with now := h.now + 1 } from idleFrame.refl h).trans (netTick_frame _)).trans
    ((returnCredits_frame _).1.trans (gptpAnnounce_frame _))

end Sys2Proof.Machine
end

