-- ==== Sys2Proof/Tests/Slice0.lean ====
section
/-! SUPPORT. Tests: the check turns down ill-formed commands, well-formed ones of every row run, every statement's hypotheses can be
met, and one step of a command against the manual's own examples and rules. -/

namespace Sys2Proof.Tests

set_option Elab.async false

open Sys2Proof Sys2Proof.Machine

/-- A hub with objects set to numbers. -/
def withN (h : Hub) (l : List (Nat × Nat)) : Hub := l.foldl (fun h x => setN h x.1 x.2) h
def hub0 : Hub := State.reset.hub
def stateOf (h : Hub) : State := { State.reset with hub := h }
/-- The hub after a command; the hub before it if the command does not run. -/
def after (i : Instr) (h : Hub) : Hub :=
  match exec i (stateOf h) with
  | .next t => t.hub
  | _ => h
def peerMax : Peer := ⟨.udp, 4294967295, 65535, 5, true⟩
def pduMax : Pdu := ⟨31, 127, 127, 15, 63, List.replicate 64 255, false⟩
def reqMax : PortBRequest := { master := 65535, write := true, addr := 0, words := 1, data := List.replicate 32 0, ecc := [⟨31, 7, 16383, 3⟩] }
/-- A hub in Summer with every domain On. -/
def awake : Hub := withN { hub0 with domains := (List.range 64).map (fun d => (d, { st := 1 })) } [(Obj.SEASON, 1)]
def canSrc : Src := ⟨.can, false⟩

/-! Every check of WellFormed refuses an ill-formed term, at the first value beyond its range -/

theorem test_ill_formed_identifiers : (([Instr.readRequest peerMax { pduMax with func := 32 }, .writeRequest peerMax { pduMax with source := 128
  }, .writeSegment peerMax { pduMax with dest := 128 }, .blockSegment peerMax { pduMax with seq := 16 }, .blockAcknowledgement peerMax { pduMax
  with segment := 64 }, .clientAbort peerMax { pduMax with data := List.replicate 65 0 }, .windowBulkRequest { peerMax with ip := 4294967296 }
  pduMax, .heartbeatReceived { peerMax with udpPort := 65536 } pduMax, .timeBroadcastReceived { peerMax with mac := 6 } pduMax, .segmentGapTimeout
  ⟨peerMax, 128, 0⟩, .blockAckTimeout ⟨peerMax, 0, 16⟩, .mgmt ⟨0, true⟩ { pduMax with func := 32 }] : List Instr).all (fun i => !i.wf)) = true :=
  by decide

theorem test_ill_formed_objects : (([Instr.objectWrite canSrc 65536 0 [], .objectWrite canSrc 0 256 [], .windowCommit canSrc 65536, .commitDiscard
  canSrc 65536, .flagClear canSrc 65536 0, .peakRestart canSrc 0 256, .pbWrite canSrc 0 256 0, .bar0Access false 67108864 4 [], .bar0Access false
  0 0 [], .bar0Access false 0 4097 [], .bar0Access true 0 4 [1], .wideRead 67108864, .unitQuarantine canSrc 65536, .unitRelease canSrc 65536,
  .unitReset canSrc 65536, .unitFault { unit := 65536, cluster := false }, .healthReport 65536 0, .healthReport 0 65536, .healthRowClear 256 0, .healthRowClear 0 65536,
  .regionUndervoltage 8] : List Instr).all (fun i => !i.wf)) = true := by decide

theorem test_ill_formed_memory_and_frames : (([Instr.frameIngress 32 { len := 1 }, .frameIngress 0 { len := 0 }, .frameIngress 0 { len := 1, bytes
  := [0, 0] }, .grateStep { ecc := [⟨32, 0, 0, 1⟩] }, .grateStep { ecc := [⟨0, 8, 0, 1⟩] }, .grateStep { ecc := [⟨0, 0, 16384, 1⟩] }, .grateStep {
  seqBad := [32] }, .eccWriteBack default 32, .patrolScrub [⟨32, 0, 0, 1⟩], .portBRequest { reqMax with words := 0 }, .portBRequest { reqMax with
  words := 129 }, .portBRequest { reqMax with addr := 16 }, .portBRequest { reqMax with master := 65536 }, .portBRequest { reqMax with data := []
  }, .portBRequest { reqMax with ecc := [⟨32, 0, 0, 1⟩] }, .reliefRowTake 32 0, .reliefRowTake 0 16384, .macRxFrame 0 { len := 0 } default
  default, .protectedFrame default default default default { len := 0 }] : List Instr).all (fun i => !i.wf)) = true := by decide

theorem test_ill_formed_numbered_units : (([Instr.functionReset 4, .releaseDecision 32, .frameRelease 32, .egressLaunch 32, .gateEntryAdvance 32,
  .gateSwap 32, .portEnable canSrc 32 0, .portDown 32 default, .portFlushDone 32, .portUp 32, .pathDisable 4 0, .creditGrant 4 0, .creditArrival 4
  0 0, .dnLinkLost 0, .dnLinkLost 4, .usb4LinkUp 4 default default default default, .linkNarrowing 4 default, .linkNarrowing 0 ⟨2, 0⟩,
  .asymmetricTransition 4 ⟨0, 1⟩ 0 0, .asymmetricTransition 0 ⟨0, 0⟩ 0 0,
  .asymmetricTransition 0 ⟨0, 3⟩ 0 0, .usb4Fallback 4 default, .usb4Fallback 0 3, .timeOffsetMeasure default ⟨0, 1000001, none⟩,
  .timeOffsetMeasure default ⟨0, -1000001, none⟩, .time default ⟨0, 4⟩ 0, .pauseFrame 6 0, .pauseFrame 0 65536, .pauseExpiry 6, .macLinkLost 6, .macMode canSrc 6 0, .saCommit
  canSrc 6, .msTxAn canSrc 6 0, .udpDatagram 6 0 0 0 0 [], .udpDatagram 0 4294967296 0 0 0 [], .udpDatagram 0 0 65536 0 0 [], .udpDatagram 0 0 0
  4294967296 0 [], .udpDatagram 0 0 0 0 4096 [], .arpRequest 6 0 0 0, .arpRequest 0 4294967296 0 0, .arpRequest 0 0 4294967296 0, .arpRequest 0 0
  0 281474976710656, .nvLinkUp 2 default default, .nvRetrain 2 default, .nvRemoval 2, .updateFc 6 0 0, .updateFc 0 6 0, .pcieConfigWrite 10 0 0,
  .pcieConfigWrite 0 4096 0, .alternateModeEntry 0 default,
  .alternateModeEntry 4 default, .alternateModeEntry 1 ⟨false, 20000001⟩, .alternateModeExit 0, .alternateModeExit 4] : List Instr).all (fun i => !i.wf)) = true := by decide

theorem test_ill_formed_display_and_usb : (([Instr.tileCode 256 0 default default, .tileCode 0 4 default default, .precodedRecord 256 0 default
  default default, .tileRetry 256, .interlockResume 0 4 default, .headLineStart ⟨4, []⟩, .headLineStart ⟨0, [⟨32, 0, 0, 1⟩]⟩,
  .ingProducer [(256, List.replicate 32 0)] 0, .ingProducer [(0, [])] 0, .layerUnderrun 4 0 0, .layerUnderrun 0 4 0, .layerUnderrun 0 0
  4, .hPresent canSrc 4 0, .hEnable canSrc 4 0, .hTiming canSrc 4 0, .hSyncMode canSrc 4 0, .lSurface canSrc 0 4 0, .hotPlug 3 default, .hotPlug 23 default, .hotUnplug 19,
  .trainingDone 3 default default, .hotUnplug 3, .hpdIrq 3 default, .relink 3 default, .auxTimeout 3, .streamStart 256 0 { rate := 0 }, .streamStart 0 4 { rate := 0 },
  .startSplit 0 default, .completeSplit 8 default, .clearTtBuffer 0 0 0, .usbPortReset default 0, .usbPortReset default 9, .remoteWake 0, .u3Exit 8 default, .portConnect 0
  default, .portDisconnect 8] : List Instr).all (fun i => !i.wf)) = true := by decide

theorem test_ill_formed_power_lanes_and_domains : (([Instr.pdAttach { port := 4 }, .pdDetach 4, .pdRequest 4 default default, .contractPsRdy 4, .cutTimeout 4,
  .prSwap 4 default, .drSwap 4 default, .vconnSwap 4, .swapSend 4 default default, .hardReset 4 default, .vbusSafe0V 4, .stageFault [4],
  .discoverIdentity 4 default default, .eprModeEntry 4, .txFfeWrite canSrc 42 default, .ffeRampStep 42, .dfeAdaptStep ⟨42, false⟩ [], .ctleAdaptStep ⟨42, false⟩ 0,
  .rxAdapt canSrc 42 0, .eyeScanDone 42 default none, .laneSleepRequest 42 default default, .laneExit 42 default, .lnEnable canSrc 42 0, .lnLoop canSrc 42
  0, .prbsTx canSrc 42 0, .prbsRx canSrc 42 0, .prbsInject canSrc 42 0, .prbsSyncGained 42, .prbsSyncLost 42 0 0, .laneLockLost 42,
  .reacquireTimeout 42, .laneRelock 42, .train 42 default default, .tyvelLinkUp [42], .tyvelLaneRejoin 42, .tyvelLaneBlock (List.replicate 5
  none), .emberEntry 64, .offEntry 64, .dmRequestSleep canSrc 64, .dmRequestWake canSrc 64, .dmWakeTimer 64, .domainWake 64 default default
  default, .wakeTimeout 64, .railRelease 4, .railPowerGood 4, .railTimeout 4, .gCommitShadow canSrc 16, .gCommitCopy canSrc 16, .epochDrained 16,
  .profileWrite canSrc 1 [], .profileWrite canSrc 4 [], .allotmentLimitWrite canSrc 2 0, .allotmentLimitWrite canSrc 5 0] : List Instr).all (fun i
  => !i.wf)) = true := by decide


/-! The witness of the completion statements: on the reset state, which has power, a well-formed command of every row, its operands at the
ends of their ranges, answers a next state -/

theorem test_reset_has_power : State.reset.hub.fw.powered = true := rfl

theorem test_rows_well_formed_1 : (([.objectWrite ⟨.tyvel, false⟩ 65535 255 [], .windowCommit ⟨.tyvel, false⟩ 65535, .commitDiscard ⟨.tyvel,
  false⟩ 65535, .flagClear ⟨.tyvel, false⟩ 65535 255, .peakRestart ⟨.tyvel, false⟩ 65535 255, .bar0Access false 67108863 4096 [], .wideRead
  67108863, .store ⟨.tyvel, false⟩ 0, .restoreDefaults ⟨.tyvel, false⟩ 0, .storeDone false, .unitQuarantine ⟨.tyvel, false⟩ 65535, .unitRelease
  ⟨.tyvel, false⟩ 65535, .unitReset ⟨.tyvel, false⟩ 65535, .unitFault { unit := 65535, cluster := false }, .regionUndervoltage 7, .readRequest peerMax pduMax, .writeRequest
  peerMax pduMax, .writeSegment peerMax pduMax, .blockSegment peerMax pduMax, .blockAcknowledgement peerMax pduMax, .clientAbort peerMax pduMax,
  .windowBulkRequest peerMax pduMax, .heartbeatReceived peerMax pduMax, .timeBroadcastReceived peerMax pduMax, .segmentGapTimeout ⟨peerMax, 127,
  15⟩, .blockAckTimeout ⟨peerMax, 127, 15⟩, .emergencyInhibit default, .udpDatagram 5 4294967295 65535 4294967295 4095 [], .arpRequest 5
  4294967295 4294967295 281474976710655, .usbVendorTransfer [], .h2dProducer default 0, .d2hConsumer default 0, .functionReset 3, .frameIngress 31
  { len := 1 }, .grateStep { ecc := [⟨31, 7, 16383, 3⟩], seqBad := [31] }, .eccWriteBack false 31, .patrolScrub [⟨31, 7, 16383, 3⟩], .portBRequest
  reqMax, .auditStart ⟨.tyvel, false⟩ 0, .reliefRowTake 31 16383, .releaseDecision 31, .frameRelease 31, .egressLaunch 31, .gateEntryAdvance 31,
  .configChange ⟨.tyvel, false⟩ 0] : List Instr).all Instr.wf) = true := by decide

theorem test_rows_well_formed_2 : (([.gateSwap 31, .subscriberCommit ⟨.tyvel, false⟩, .shaperCommit ⟨.tyvel, false⟩ false, .portEnable ⟨.tyvel,
  false⟩ 31 0, .portDown 31 default, .portFlushDone 31, .portUp 31, .flowEntryCommit ⟨.tyvel, false⟩ false, .multicastCommit ⟨.tyvel, false⟩,
  .policerCommit ⟨.tyvel, false⟩, .profileWrite ⟨.tyvel, false⟩ 3 [], .configSpaceWrite default 0 0, .pathEnable default, .pathDisable 3 0,
  .creditGrant 3 0, .creditArrival 3 0 0, .dnLinkLost 3, .usb4LinkUp 3 0 0 0 0, .linkNarrowing 3 ⟨1, 0⟩, .asymmetricTransition 3 ⟨0, 2⟩ 0 0, .usb4Fallback 3 2, .bandwidthAllocationRequest ⟨255, 0⟩ 0, .allotmentPass 0, .allotmentLimitWrite ⟨.tyvel, false⟩ 4 0, .envelopeCommit ⟨.tyvel, false⟩ false,
  .macRxFrame 5 { len := 1 } false default, .pauseFrame 5 65535, .pauseExpiry 5, .macLinkLost 5, .macMode ⟨.tyvel, false⟩ 5 0, .saCommit ⟨.tyvel,
  false⟩ 5, .msTxAn ⟨.tyvel, false⟩ 5 0, .rxqTail 0 default 0, .txqTail 0 default 0, .timeOffsetMeasure default ⟨0, 1000000, some 5⟩, .timeSourceLost default,
  .timeSourceTakeover default, .timePriority ⟨.tyvel, false⟩ 0, .nvLinkUp 1 0 0, .nvRetrain 1 0, .nvRemoval 1, .updateFc 5 5 0, .surfaceCommit
  ⟨.tyvel, false⟩, .ingControl 0, .ingProducer [(255, List.replicate 32 0)] 0] : List Instr).all Instr.wf) = true := by decide

theorem test_rows_well_formed_3 : (([.tileCode 255 3 0 [], .precodedRecord 255 3 0 0 [], .tileRetry 255, .interlockResume 255 3 16383,
  .headLineStart ⟨3, [⟨31, 7, 16383, 3⟩]⟩, .layerUnderrun 3 3 3, .hPresent ⟨.tyvel, false⟩ 3 0, .hEnable ⟨.tyvel, false⟩ 3 0, .hTiming ⟨.tyvel, false⟩ 3 0, .hSyncMode
  ⟨.tyvel, false⟩ 3 0, .timingCommit ⟨.tyvel, false⟩, .formatCommit ⟨.tyvel, false⟩, .lSurface ⟨.tyvel, false⟩ 3 3 0, .slotCommit ⟨.tyvel, false⟩,
  .hotPlug 22 default, .trainingDone 2 0 0, .hotUnplug 20, .hpdIrq 2 ⟨false, true⟩, .relink 2 0, .auxRequest 255 default, .auxTimeout 2, .streamStarved 0,
  .streamResume 0, .streamHoldExpiry 0, .startSplit 7 default, .completeSplit 7 default, .clearTtBuffer 7 0 0, .usbPortReset false 8,
  .controlStatusAck default, .setInterface 0, .telemetryMicroframe false, .carveOutCommit ⟨.tyvel, false⟩, .remoteWake 7, .u3Exit 7 false,
  .pdAttach { port := 3 }, .pdDetach 3, .pdRequest 3 0 0, .contractPsRdy 3, .cutTimeout 3, .pbWrite ⟨.tyvel, false⟩ 65535 255 0, .prSwap 3 false, .drSwap 3
  false, .vconnSwap 3, .swapSend 3 default default, .hardReset 3 false] : List Instr).all Instr.wf) = true := by decide

theorem test_rows_well_formed_4 : (([.vbusSafe0V 3, .ioutReading 0, .prSwapRetry false, .stageFault [3], .txFfeWrite ⟨.tyvel, false⟩ 41 [],
  .ffeRampStep 41, .dfeAdaptStep ⟨41, true⟩ [], .ctleAdaptStep ⟨41, true⟩ 0, .rxAdapt ⟨.tyvel, false⟩ 41 0, .eyeScanDone 41 (0, 0) none, .laneSleepRequest 41 false
  default, .laneExit 41 false, .lnEnable ⟨.tyvel, false⟩ 41 0, .lnLoop ⟨.tyvel, false⟩ 41 0, .prbsTx ⟨.tyvel, false⟩ 41 0, .prbsRx ⟨.tyvel, false⟩
  41 0, .prbsInject ⟨.tyvel, false⟩ 41 0, .laneLockLost 41, .reacquireTimeout 41, .laneRelock 41, .paceReading 0 0 0 false, .flare default,
  .emberEntry 63, .offEntry 63, .dmRequestSleep ⟨.tyvel, false⟩ 63, .dmRequestWake ⟨.tyvel, false⟩ 63, .dmWakeTimer 63, .domainWake 63 default
  default 0, .railRelease 3, .railPowerGood 3, .railTimeout 3, .tyvelLaneBlock [default, default, default, default], .train 41 0 [], .tyvelLinkUp
  [41], .tyvelLaneRejoin 41, .attest default, .mgmt default pduMax, .mirror default 0 default, .mirrorAck default 0, .protectedFrame default 3 0 0
  { len := 1 }, .tileRecords default 0 default, .commit default false 0 0, .phase default 0 false, .time default ⟨0, 3⟩ 0, .state default default] :
  List Instr).all Instr.wf) = true := by decide

theorem test_rows_well_formed_5 : (([.equinox default 0 default, .rekey default false 0, .tokenClaim default, .twinFaultDetect default default 0,
  .demotion default, .pair ⟨.tyvel, false⟩, .unpair ⟨.tyvel, false⟩, .plannedEquinox ⟨.tyvel, false⟩, .lockstepEntry 0, .generate ⟨.tyvel, false⟩,
  .importKey ⟨.tyvel, false⟩, .derive ⟨.tyvel, false⟩, .exportWrapped ⟨.tyvel, false⟩, .erase ⟨.tyvel, false⟩, .makePersistent ⟨.tyvel, false⟩
  false, .sign ⟨.tyvel, false⟩, .macOp ⟨.tyvel, false⟩, .keyPropertyStatement ⟨.tyvel, false⟩, .keyOperationDone false, .spdmRequest ⟨.tyvel,
  false⟩ [], .entropyFault false, .tamper default, .gCommitShadow ⟨.tyvel, false⟩ 15, .gCommitCopy ⟨.tyvel, false⟩ 15, .epochDrained 15,
  .healthReport 65535 65535, .healthRowClear 255 65535, .healthTableCommit ⟨.tyvel, false⟩, .mapoutClear ⟨.tyvel, false⟩ 0, .powerOn default,
  .resetN default 0, .hubReset ⟨.tyvel, false⟩ 0, .fwImage ⟨.tyvel, false⟩ default, .imageProgrammed false, .fwActivate ⟨.tyvel, false⟩ 0,
  .fwAccept ⟨.tyvel, false⟩ 0, .fwPermitUntested ⟨.tyvel, false⟩ 0, .wakeTimeout 63, .prbsSyncGained 41, .prbsSyncLost 41 0 0, .discoverIdentity 3
  0 false, .eprModeEntry 3, .alternateModeEntry 3 ⟨false, 20000000⟩, .alternateModeExit 3, .sinkCapabilities 0] : List Instr).all Instr.wf) = true := by
  decide

theorem test_rows_well_formed_6 : (([.portConnect 7 0, .portDisconnect 7, .streamStart 255 3 { rate := 0 }, .pcieConfigWrite 9 4095 0, .abortCodeRead,
  .heartbeatPeriod, .managerTimeout, .timePeriod, .canBusOff, .mbxStatusRead, .violationRecord, .auditInterval, .auditDone, .mirrorReentry,
  .upLinkLost, .enginePrewake, .ingestDescriptor, .teCEdge, .usbBusReset, .usb3HotReset, .hostResume, .adapterOkLow, .frsVbusArrival,
  .frsVbusTimeout, .frSwapComplete, .adapterOkReturn, .bellowsStep, .avsResponse, .avsTimeout, .avsFaultRetry, .bwCeiling, .mirrorResend,
  .applyTime, .statePeriod, .rekeyDue, .twinAliveToggle, .equinoxTime, .catchUpDone, .watchdog, .fwTrialTime, .powerLoss, .suspend, .u3Entry,
  .junctionOvertemperature] : List Instr).all Instr.wf) = true := by decide


/-! One step against the manual's examples -/

/-- The example after R26: unit C.3.2.5. -/
theorem test_unit_number_example : unitNo 0 3 2 5 = 0x3205 ∧ bankUnit 117 = 0x3205 ∧ wordAddr 14 5 0 = 0xEA0 ∧ laneUnit 41 = 0xC004 := by decide

/-- The example after R92: address 0x52A7E60 lies in bank 243, group 30, bank 3, row 10,579, which the BW-7720 does not have. -/
theorem test_hearth_address_example : wordAddr 30 3 10579 = 0x52A7E60 ∧ bankUnit 243 = unitNo 0 7 2 3
    ∧ 0x52A7E60 < Part.bw7740.hearthBytes ∧ Part.bw7720.hearthBytes ≤ 0x52A7E60 := by decide

/-- The example of the variants chapter: DN3 is at directory position 353. -/
theorem test_directory_position_example : unitPos 0x8300 = some 353 ∧ Part.bw7720.has 0x8300 = false ∧ Part.bw7730.has 0x8300 = true := by
  decide +kernel

def node21 (p : Part) : Hub := withN { hub0 with part := p, jdp := { hub0.jdp with node := 0x21, reachable := true } } [(Obj.NODE_ID_ACTIVE, 0x21)]

/-- The example after R90: on a BW-7720 a read of 0x5300:00 is aborted as absent, on identifier 0x06421500. -/
theorem test_absent_read_example :
    (pduOf 0x010A8500 [0x00, 0x53, 0x00, 0x00]).func = 1 ∧
    ((after (.readRequest ⟨.can, 0, 0, 0, false⟩ (pduOf 0x010A8500 [0x00, 0x53, 0x00, 0x00])) (node21 .bw7720)).out.head?
      = some (.pdu ⟨.can, 0, 0, 0, false⟩ (pduOf 0x06421500 [0x00, 0x53, 0x00, 2, 1, 0, 0, 0]))) := by decide +kernel

/-- Table 8.4: the policer example, its frames coloured green, green, yellow, yellow; tokens in the model's unit, of which
`byteUnit` make a byte. -/
def policerStep (x : List Colour × Buckets) (now : Nat) : List Colour × Buckets :=
  let t : Buckets := { a := refill x.2.a 200000 30000 now, b := refill x.2.b 100000 20000 now }
  let r := colourOf 1 .green t 1518
  (x.1 ++ [r.1], r.2)
def policerRun : List Colour × Buckets :=
  [40000, 41000, 42000, 43000].foldl policerStep
    ([], { a := ⟨((3000 * byteUnit : Nat) : Int), 0⟩, b := ⟨((20000 * byteUnit : Nat) : Int), 0⟩ })
theorem test_policer_table : policerRun.1 = [.green, .green, .yellow, .yellow]
    ∧ policerRun.2.a.tok = ((1039 * byteUnit : Nat) : Int) ∧ 2 * policerRun.2.b.tok = ((33953 * byteUnit : Nat) : Int) := by decide

/-- The example after R287: 8-bit BT.709 white becomes 4,095 in every channel. -/
theorem test_white_example : (List.range 3).map (fun i => matrixOut (presetMatrix 1) i 3760 2048 2048) = [4095, 4095, 4095] := by decide

/-- R256: codes of samples at the bound of 2, and R292 at half coverage. -/
theorem test_fixed_sample : fixedBits 8 2 [255, 3, 2] = bitsMsb 6 51 ++ bitsMsb 6 1 ++ bitsMsb 6 0 ∧ blend 2048 100 200 = 150 := by decide

/-- R52, R53: nothing is in force in an empty flash, and a wrong key starts nothing. -/
theorem test_store_key : State.reset.hub.store.inForce = none
    ∧ (after (.store canSrc 0) hub0).store.snapshot = none
    ∧ (after (.store canSrc 0x65766173) hub0).store.snapshot.isSome = true := by decide +kernel

/-- R40: an event count wraps and a clear leaves it. -/
theorem test_flag_count_wraps :
    getN (setFlag (withN hub0 [(Obj.AUDIT_MISMATCH + 1, 255)]) Obj.AUDIT_MISMATCH) (Obj.AUDIT_MISMATCH + 1) = 0 := by decide +kernel

/-- R131: a port that is disabled flushes, and is down when the flush ends. -/
theorem test_port_disabled : portState (after (.portEnable canSrc 0 0) awake) 0 = 3
    ∧ portState (after (.portFlushDone 0) (after (.portEnable canSrc 0 0) awake)) 0 = 2 := by decide +kernel

/-- R44: a write to an object of a sleeping domain wakes it first. -/
theorem test_write_wakes : (after (.portEnable canSrc 0 0) hub0).jdp.waiting.length = 1 ∧ portState (after (.portEnable canSrc 0 0) hub0) 0 = 1 := by
  decide +kernel

/-- R328: the Billboard function reads "configured" in link modes 3 to 7, and is absent with BILLBOARD_ENABLE at 0. -/
theorem test_billboard : billboardResult (withN hub0 [(Obj.LINK_MODE 0, 3)]) = some true ∧ billboardResult (withN hub0 [(Obj.LINK_MODE 0, 2)]) = some false ∧
    billboardResult (withN hub0 [(Obj.BILLBOARD_ENABLE, 0)]) = none ∧ thinkTime hub0 = 8 := by decide +kernel


/-! The hypotheses of the statements can be met: for each statement that has hypotheses, states and operands that meet them together, one for
each clause -/

def off : State := stateOf { hub0 with fw := { hub0.fw with powered := false } }
/-- A hub with Hearth content and a command waiting. -/
def busy : State := { stateOf hub0 with mem := [(0, 1), (100663295, 255)], pending := [.canBusOff] }
def answers : Host.Outcome State Fault Refusal → Bool
  | .next _ => true
  | _ => false

/-- A domain whose entry to Off is complete at the next nanosecond. -/
def entering : Hub := { awake with now := 99, domains := mset awake.domains 31 { st := 4, goal := 3, until_ := 100 } }
theorem test_witness_EmptyQueueLetsANanosecondPass : (State.reset.pending = [] ∧ State.reset.hub.fw.powered = true ∧ idleDue hub0 = false)
    ∧ (off.pending = [] ∧ off.hub.fw.powered = false) ∧ hub0.twin.linkUp = false ∧ entering.fw.powered = true ∧ idleDue entering = true := by
  decide +kernel
theorem test_witness_StepKeepsTheHearthCanonical : hearthOk { busy with hub := { hub0 with part := .bw7720 }, mem := [(0, 1), (50331647, 255)] }
    ∧ hearthOk { busy with hub := { hub0 with part := .bw7740 } } ∧ settled busy ∧ answers (step busy) = true := by
  unfold hearthOk settled; decide +kernel
theorem test_witness_EveryCommandAnswersANextState : Instr.wf .canBusOff = true ∧ answers (exec .canBusOff State.reset) = true
    ∧ Instr.wf (.mgmt default { pduMax with func := 32 }) = false := by decide +kernel
theorem test_witness_WithoutPowerOnlyPowerOnActs : off.hub.fw.powered = false ∧ Instr.wf .canBusOff = true ∧ Instr.wf (.powerOn default) = true
    ∧ (∀ x, Instr.canBusOff ≠ .powerOn x) := ⟨rfl, rfl, rfl, fun _ h => Instr.noConfusion h⟩
theorem test_witness_DictionaryValuesRoundTrip : lengthCheck .bool 1 = none ∧ lengthCheck (.u 8) 8 = none ∧ lengthCheck (.i 2) 2 = none
    ∧ lengthCheck (.str 200) 0 = none ∧ lengthCheck (.str 200) 200 = none ∧ lengthCheck (.domain 32) 32 = none
    ∧ ofVal (.i 2) (toVal (.i 2) [0xFE, 0xFF]) = [0xFE, 0xFF] ∧ (toVal (.i 2) [0xFE, 0xFF]).toInt = -2 := by decide +kernel
theorem test_witness_JdpIdentifierFields : pduMax.wf = true ∧ pduIdent pduMax = 0x1FFFFFFF ∧ Pdu.wf ⟨1, 5, 0x21, 4, 0, [], true⟩ = true
    ∧ pduIdent ⟨1, 5, 0x21, 4, 0, [], true⟩ = 0x010A8500 := by decide
/-- The PDUs read, and each way in which what follows them is no PDU: 7 bytes, a length byte of 65, and a PDU past the end. -/
theorem test_witness_DatagramPdusUpToTheBadOne : Pdu.wf { pduMax with fd := true } = true
    ∧ (unwrap 20 (pduWire pduMax ++ pduWire pduMax)).1.length = 2 ∧ (List.replicate 7 (0 : Byte)).length < 8
    ∧ 64 < ((([0, 0, 0, 0, 65, 0, 0, 0] : List Byte)[4]?).getD 0).toNat
    ∧ (([0, 0, 0, 0, 1, 0, 0, 0, 1] : List Byte)).length < 8 + (((([0, 0, 0, 0, 1, 0, 0, 0, 1] : List Byte)[4]?).getD 0).toNat + 3) / 4 * 4
    ∧ (unwrap 20 (pduWire pduMax ++ [0, 0, 0, 0, 1, 0, 0, 0, 1])).2 = true := by decide +kernel
theorem test_witness_FlagSetRaisesItsCount : canonKey (Obj.AUDIT_MISMATCH + 1) ≠ canonKey Obj.AUDIT_MISMATCH
    ∧ (∀ x ∈ [Obj.FRAMES_TX, Obj.TRANSFER_TIMEOUTS, Obj.USB2_STATE, Obj.REMOTE_WAKES, Obj.WAKE_COLLISIONS],
      canonKey Obj.AUDIT_MISMATCH ≠ canonKey x ∧ canonKey (Obj.AUDIT_MISMATCH + 1) ≠ canonKey x) := by decide
theorem test_reset_is_quiet : quiet State.reset := by unfold quiet settled; decide +kernel
theorem test_awake_is_quiet : quiet (stateOf awake) := by unfold quiet settled; decide +kernel
theorem test_witness_CanBusOffIsCounted : quiet State.reset ∧ quiet (stateOf (withN hub0 [(Obj.CAN_BUS_OFF, 4294967295)])) :=
  ⟨test_reset_is_quiet, by unfold quiet settled; decide +kernel⟩
theorem test_witness_CarrierContextsAreKeptApart : Obj.LOOKUP_UNIT < 2 ^ 48 ∧ 2 ^ 48 - 1 < 2 ^ 48 ∧ Ctx.can ≠ Ctx.udp
    ∧ canonKey (0x947E * 256 + 1) = canonKey (0x943E * 256 + 1) ∧ canonKey Obj.LOOKUP_UNIT ≠ canonKey Obj.GATE_PORT := by decide
theorem test_witness_RefusedWriteOnlyAnswers : quiet State.reset ∧ objWf (keyIdx Obj.MANAGER_NODE) (keySub Obj.MANAGER_NODE) = true
    ∧ carrierServed hub0 .can = true ∧ earlyCheck hub0 (keyIdx Obj.MANAGER_NODE) (keySub Obj.MANAGER_NODE) (some [128]) none = none
    ∧ sleepingDomain hub0 .can (keyIdx Obj.MANAGER_NODE) (keySub Obj.MANAGER_NODE) = none
    ∧ (match writeCheck hub0 canSrc (keyIdx Obj.MANAGER_NODE) (keySub Obj.MANAGER_NODE) (posOf hub0 .can (keyIdx Obj.MANAGER_NODE)) [128] with
      | .error a => a == ⟨4, 1⟩
      | .ok _ => false) = true := ⟨test_reset_is_quiet, by decide +kernel⟩
theorem test_witness_AcceptedWriteIsPerformed : quiet State.reset ∧ objWf (keyIdx Obj.MANAGER_NODE) (keySub Obj.MANAGER_NODE) = true
    ∧ carrierServed hub0 .can = true ∧ earlyCheck hub0 (keyIdx Obj.MANAGER_NODE) (keySub Obj.MANAGER_NODE) (some [126]) none = none
    ∧ sleepingDomain hub0 .can (keyIdx Obj.MANAGER_NODE) (keySub Obj.MANAGER_NODE) = none
    ∧ (match writeCheck hub0 canSrc (keyIdx Obj.MANAGER_NODE) (keySub Obj.MANAGER_NODE) (posOf hub0 .can (keyIdx Obj.MANAGER_NODE)) [126] with
      | .ok x => x.2 == .int 126
      | .error _ => false) = true := ⟨test_reset_is_quiet, by decide +kernel⟩
def managed (n : Nat) (seen : Bool) : State := stateOf (withN { hub0 with jdp := { hub0.jdp with managerSeen := seen } } [(Obj.MANAGER_NODE, n)])
theorem test_witness_ManagerLostIsSetOnce : quiet (managed 5 true) ∧ (managed 5 true).hub.routes.contains Obj.MANAGER_LOST = false
    ∧ (managed 5 true).hub.intRoutes.contains Obj.MANAGER_LOST = false ∧ getN (managed 5 true).hub Obj.MANAGER_NODE ≠ 0
    ∧ (managed 5 true).hub.jdp.managerSeen = true ∧ quiet (managed 0 true) ∧ getN (managed 0 true).hub Obj.MANAGER_NODE = 0
    ∧ quiet (managed 5 false) ∧ (managed 5 false).hub.jdp.managerSeen = false := by unfold quiet settled; decide +kernel
def storing : State := stateOf { hub0 with store := { hub0.store with slotA := { seq := 3, ok := true }, snapshot := some { vals := [(Obj.NODE_NAME, .bytes [65])] } } }
theorem test_witness_StoredSetComesIntoForceVerified : quiet storing ∧ storing.hub.routes.contains Obj.STORE_FAILED = false
    ∧ storing.hub.intRoutes.contains Obj.STORE_FAILED = false ∧ storing.hub.store.snapshot.isSome = true
    ∧ (after (.storeDone true) storing.hub).store.inForce.map (·.seq) = some 4 ∧ getN (after (.storeDone false) storing.hub) Obj.STORE_STATUS = 3
    ∧ State.reset.hub.store.snapshot = none := by unfold quiet settled; decide +kernel
theorem test_witness_HearthReadsWhatWasWritten : Memory.wf .bw7740 busy.mem = true ∧ Memory.wf .bw7720 [(50331647, 255)] = true
    ∧ Memory.wf .bw7720 [(50331648, 255)] = false ∧ Memory.wf .bw7740 [(0, 0)] = false ∧ Memory.wf .bw7740 [(1, 1), (1, 2)] = false
    ∧ Part.bw7720.hearthBytes = 50331648 ∧ (1 : Nat) ≠ 0 := by decide +kernel
theorem test_witness_HearthAddressFields : (31 : Nat) < 32 ∧ (7 : Nat) < 8 ∧ (16383 : Nat) < 16384 ∧ wordAddr 31 7 16383 + 31 = 2 ^ 27 - 1
    ∧ (6143 < Part.bw7720.rows) ∧ ¬(6144 < Part.bw7720.rows) := by decide
/-- One group out of service: a frame of 33 cells reserves 2 cells in each of the other 31. -/
def oneOut : Hub := { hub0 with hearth := { hub0.hearth with groupState := [(14, 1)] } }
theorem test_witness_AdmissionReservesInEveryGroup : 13 ∈ groupsIn oneOut ∧ 14 ∉ groupsIn oneOut ∧ groupsIn oneOut ≠ []
    ∧ mget (reservations oneOut 33) 0 13 = 2 ∧ mget (reservations oneOut 31) 0 13 = 1 := by decide +kernel
def auditing (i st : Nat) : State := stateOf (withN hub0 [(Obj.AUDIT_INTERVAL, i), (Obj.AUDIT_STATUS, st)])
theorem test_witness_AuditsSnapshotEveryGroup : quiet (auditing 1 0) ∧ getN (auditing 1 0).hub Obj.AUDIT_INTERVAL ≠ 0
    ∧ getN (auditing 1 0).hub Obj.AUDIT_STATUS ≠ 1 ∧ quiet (auditing 0 0) ∧ getN (auditing 0 0).hub Obj.AUDIT_INTERVAL = 0
    ∧ quiet (auditing 1 1) ∧ getN (auditing 1 1).hub Obj.AUDIT_STATUS = 1 ∧ 31 ∈ groupsIn hub0
    ∧ getN (auditAll hub0) Obj.AUDIT_STATUS = 2 := by unfold quiet settled; decide +kernel
def flushing (p lost : List Nat) : State := stateOf { hub0 with grate := { hub0.grate with flushing := p, linkLost := lost, seq := [(32 * 7 + 13, 9)] } }
theorem test_witness_PortFlushEnds : quiet (flushing [] []) ∧ (flushing [] []).hub.grate.flushing.contains (bondBase 7) = false
    ∧ quiet (flushing [7] [7]) ∧ portBlocked (flushing [7] [7]).hub 7 = true ∧ quiet (flushing [7] []) ∧ portBlocked (flushing [7] []).hub 7 = false
    ∧ portWf 7 = true ∧ reservedPort 7 = false ∧ reservedPort 28 = false ∧ mget (after (.portFlushDone 7) (flushing [7] []).hub).grate.seq 1 237 = 1
    ∧ (flushing [7] []).hub.nic.tx = [] ∧ quiet (stateOf { (flushing [13] []).hub with nic := { tx := [(0, default)] } })
    ∧ portBlocked (stateOf { (flushing [13] []).hub with nic := { tx := [(0, default)] } }).hub 13 = false := by
  unfold quiet settled; decide +kernel
theorem test_witness_GrateStepOfAnIdleSwitch : quiet State.reset ∧ hub0.grate.frames = [] ∧ hub0.grate.ingress = [] ∧ hub0.grate.win = []
    ∧ withheld hub0 = [] := ⟨test_reset_is_quiet, rfl, rfl, rfl, rfl⟩
def key16 : List Byte := List.replicate 16 0
/-- An exact entry for the key of sixteen zeros, and two wildcard entries, of which position 5 matches any key. -/
def flowHub (exact wild : Bool) : Hub :=
  let h := if wild then setBytes (setBytes (withN hub0 [(at_ 5 Obj.WC_E_VALID, 1), (at_ 9 Obj.WC_E_VALID, 1)]) (at_ 5 Obj.WC_W_MASK) (List.replicate 16 0))
    (at_ 5 Obj.WC_E_KEY) (List.replicate 16 0) else hub0
  if exact then setBytes (withN h [(at_ (bucket1 key16 + 3) Obj.EX_E_VALID, 1)]) (at_ (bucket1 key16 + 3) Obj.EX_E_KEY) key16 else h
theorem test_witness_LookupOrder : sorted (flowHub true true).dict = true ∧ lookup (flowHub true true) key16 = .exact (bucket1 key16 + 3)
    ∧ lookup (flowHub false true) key16 = .wild 5 ∧ lookup (flowHub false false) key16 = .miss := by decide +kernel
/-- A bucket that holds n bytes. -/
def bytesIn (n : Nat) : Bucket := ⟨((n * byteUnit : Nat) : Int), 0⟩
theorem test_witness_PolicerColours : (colourOf 0 .green ⟨bytesIn 64, bytesIn 64⟩ 64).1 = .green ∧ (colourOf 0 .yellow ⟨bytesIn 64, bytesIn 64⟩ 64).1 = .yellow
    ∧ (colourOf 0 .green ⟨bytesIn 64, bytesIn 63⟩ 64).1 = .red ∧ (colourOf 1 .green ⟨bytesIn 64, bytesIn 0⟩ 64).1 = .green
    ∧ (colourOf 1 .green ⟨bytesIn 63, bytesIn 64⟩ 64).1 = .yellow ∧ (colourOf 1 .red ⟨bytesIn 64, bytesIn 64⟩ 64).1 = .red
    ∧ getN hub0 (at_ 0 Obj.PL_COLOUR_AWARE) = 0 ∧ (refill (bytesIn 99) 1000 64 10).tok < ((65 * byteUnit : Nat) : Int) := by decide +kernel
theorem test_witness_RefillGainsItsRateUpToTheSize : (bytesIn 3).last ≤ 5 ∧ 5 ≤ 5 ∧ refill (bytesIn 3) 8000 3 5 = ⟨((3 * byteUnit : Nat) : Int), 5⟩ := by decide
theorem test_witness_DwrrPicksAnEligibleMember : (dwrrPick {} false [4, 9] (fun _ => 1024) (fun x => if x == 4 then 16448 else 64)).map (·.1) = some 9
    ∧ dwrrPick {} true [] (fun _ => 1024) (fun _ => 64) = none ∧ ([4, 9] : List Nat) ≠ [] := by decide +kernel
theorem test_witness_WaterfillNeverOverGrants : ([1, 2, 3] : List Nat).Nodup
    ∧ (List.map (mget (waterfill 10 [1, 2, 3] (fun x => 2 * x) (fun _ => 1)) 0) [1, 2, 3]) = [2, 4, 4] := by decide +kernel
def tunnelled (st : Nat) (fc : Bool) (partner : Nat) : State :=
  stateOf { hub0 with usb4 := { hub0.usb4 with paths := [(pathKey 1 2, { spec := { (default : PathSpec) with inAdapter := 3, flowControlled := fc, credits := 8 }, state := st, partner := partner })] } }
theorem test_witness_CreditGrantReturnsWhatIsOwed : quiet (tunnelled 1 true 3) ∧ usb4Wf 1 = true
    ∧ ((mget? (tunnelled 1 true 3).hub.usb4.paths (pathKey 1 2)).map (pathOwed (tunnelled 1 true 3).hub (pathKey 1 2))) = some 5
    ∧ ((mget? (tunnelled 1 true 8).hub.usb4.paths (pathKey 1 2)).map (pathOwed (tunnelled 1 true 8).hub (pathKey 1 2))) = some 0
    ∧ quiet (tunnelled 1 true 8) ∧ quiet (tunnelled 0 true 0) ∧ quiet (tunnelled 1 false 0) ∧ isLane 3 = true ∧ isLane 9 = false ∧ mget? (tunnelled 1 true 3).hub.usb4.paths (pathKey 1 3) = none := by
  unfold quiet settled; decide +kernel
def macOn (pause : Nat) : State := stateOf (withN awake [(Obj.MAC_MODE 5, 1), (Obj.LINK_SPEED 5, 1), (Obj.PAUSE_RX 5, pause)])
theorem test_witness_PauseHoldsTheMac : quiet (macOn 1) ∧ macWf 5 = true ∧ (65535 : Nat) < 65536 ∧ macRuns (macOn 1).hub 5 = true
    ∧ getB (macOn 1).hub (Obj.PAUSE_RX 5) = true ∧ quiet (macOn 0) ∧ getB (macOn 0).hub (Obj.PAUSE_RX 5) = false ∧ macRuns hub0 5 = false
    ∧ (after (.pauseFrame 5 65535) (macOn 1).hub).grate.stalled = [macGrate 5]
    ∧ (after (.pauseFrame 5 0) (after (.pauseFrame 5 1) (macOn 1).hub)).grate.stalled = [] := by unfold quiet settled; decide +kernel
/-- R229's example: TIME_PRIORITY 0x0321, and MAC0's fibre is pulled. -/
def timed (q : List Nat) : State := stateOf (withN { hub0 with time := { hub0.time with qualified := q, inUse := 1 } } [(Obj.TIME_PRIORITY, 0x0321)])
theorem test_witness_LostTimeSourceIsLeft : quiet (timed [1, 2]) ∧ quiet (timed [1]) ∧ (timed [1]).hub.routes.contains Obj.TIME_HOLDOVER = false
    ∧ (timed [1]).hub.intRoutes.contains Obj.TIME_HOLDOVER = false ∧ (timed [1]).hub.time.inUse = srcCode .gptp
    ∧ (timed [1]).hub.time.inUse ≠ srcCode .ptm ∧ getN (after (.timeSourceLost .gptp) (timed [1, 2]).hub) Obj.TIME_SOURCE = 2
    ∧ getN (after (.timeSourceLost .gptp) (timed [1]).hub) Obj.TIME_HOLDOVER = 1
    ∧ (after (.timeSourceLost .gptp) { (timed [1]).hub with time := { (timed [1]).hub.time with syncMac := some 2, announces := [(2, default), (3, default)] } }).time.announces
      = [(3, default)] := by unfold quiet settled; decide +kernel
theorem test_witness_UpdateFcSetsTheCredits : quiet State.reset ∧ (5 : Nat) < 6 ∧ waitList hub0 5 = [] ∧ backList hub0 5 = []
    ∧ mget (after (.updateFc 5 4 256) hub0).pcie.outLimit 1 44 = 0 ∧ mget (after (.updateFc 0 5 4095) hub0).pcie.outLimit 1 5 = 4095 :=
  ⟨test_reset_is_quiet, by decide +kernel⟩
theorem test_witness_FixedPayloadDecodesWithinTheBound : 12 ∈ ([8, 10, 12] : List Nat) ∧ 16 ∈ ([0, 1, 2, 4, 8, 16] : List Nat)
    ∧ (∀ x ∈ ([0, 4095] : List Nat), x < 2 ^ 12) ∧ decodeFixed 12 16 2 (fixedBits 12 16 [0, 4095]) = some [0, 4092] ∧ fixedSample 12 16 125 = none
    ∧ (fixedSample 12 16 124).isSome = true := by decide +kernel
def tileRow : List Nat := [0, 255, 128, 127, 1, 2, 3, 4, 254, 253, 7, 7, 7, 7, 0, 255]
theorem test_witness_AdaptiveRowsDecodeWithinTheBound : tileRow.length = 16 ∧ (∀ x ∈ tileRow, x < 2 ^ 8)
    ∧ decodeRows 8 0 2 none (adaptiveRows 8 0 none [tileRow, tileRow] ++ [true]) [] = some (tileRow ++ tileRow, [true]) := by decide +kernel
theorem test_witness_BlendKeepsToItsInputs : (4096 : Nat) ≤ 4096 ∧ blend 4096 5 9 = 5 ∧ blend 0 5 9 = 9 := by decide
theorem test_witness_OutputReduction : reduceOut 8 0 0 0 4095 = 255 ∧ reduceOut 6 1 3 3 4095 = 63 ∧ reduceOut 8 1 0 3 0 = 0 ∧ reduceOut 12 1 0 3 4095 = 4095
    ∧ (4095 : Nat) < 4096 ∧ (0 : Nat) < 6 ∧ (6 : Nat) < 12 := by decide
def panel (src : Nat) : State := stateOf (withN { hub0 with heads := [(3, { running := true })] } [(at_ 8 Obj.SL_SOURCE, src), (Obj.H_SYNC_MODE 3, 2)])
theorem test_witness_TeEdgeTriggersThePanelTimedHead : quiet (panel 4) ∧ feedsC (panel 4).hub 3 = true ∧ getN (panel 4).hub (Obj.H_SYNC_MODE 3) = 2
    ∧ (headOfHub (panel 4).hub 3).running = true ∧ (headOfHub (after .teCEdge (panel 4).hub) 3).latched = true
    ∧ feedsC (panel 4).hub 0 = false ∧ (headOfHub (after .teCEdge (panel 3).hub) 3).latched = false := by unfold quiet settled; decide +kernel
/-- A passthrough stream placed at position 8 of DP-A's panel output. -/
def streaming : State := stateOf (withN { hub0 with outputs := { hub0.outputs with streams := [(36, { rate := 1000 })], slots := [(8, [0, 1])] } }
  [(at_ 8 Obj.SL_SOURCE, 0x10), (Obj.SINK_PRESENT 2, 1), (Obj.LINK_RATE 2, 1620000)])
theorem test_witness_StarvedStreamKeepsItsSlots : quiet streaming ∧ slotState streaming.hub 8 = 2
    ∧ (streamOf (getN streaming.hub (at_ 8 Obj.SL_SOURCE))).isSome = true ∧ slotState (after (.streamStarved 8) streaming.hub) 8 = 4
    ∧ slotState streaming.hub 0 ≠ 2 ∧ (streamOf (getN (panel 4).hub (at_ 8 Obj.SL_SOURCE))).isSome = false := by unfold quiet settled; decide +kernel
def splits (l : List Split) : State := stateOf { awake with usb := { awake.usb with tt := [(7, l)] } }
def np : Split := { device := 3, endpoint := 1, periodic := false, bytes := 64 }
def per : Split := { device := 4, endpoint := 2, periodic := true, bytes := 188, microframe := 1 }
theorem test_witness_TtBuffersAreTakenAndCleared : quiet (splits []) ∧ usbPortWf 7 = true ∧ usbPortWf 1 = true ∧ usb2On (splits []).hub = true
    ∧ (splits []).hub.routes.contains Obj.TT_EXHAUSTED = false ∧ (splits []).hub.intRoutes.contains Obj.TT_EXHAUSTED = false
    ∧ ttRoom (splits []).hub 7 np = true ∧ ttRoom (splits []).hub 7 per = true ∧ quiet (splits [per]) ∧ ttRoom (splits [per]).hub 7 per = false
    ∧ ttRoom (splits []).hub 7 { np with bytes := 65 } = false
    ∧ splitIsolated (splits []).hub = false ∧ splitIsolated { (splits []).hub with quarantined := [epmUnit] } = true
    ∧ quiet (stateOf { (splits []).hub with quarantined := [epmUnit] })
    ∧ (after (.clearTtBuffer 7 3 1) (splits [np, per]).hub).usb.tt = [(7, [per])] := by unfold quiet settled; decide +kernel
def adapting (l mode : Nat) (code : Nat) : State :=
  stateOf (withN { hub0 with lanes := [(l, { (lane hub0 l) with rx := 3, locked := true, code := code, taps := List.replicate 12 127 })] } [(Obj.RX_ADAPT l, 1), (Obj.RX_CTLE_MODE l, mode)])
/-- A lane whose transmit pair receives too. -/
def reversed (l : Nat) : State :=
  stateOf (withN { hub0 with lanes := [(l, { (lane hub0 l) with rx := 3, locked := true, rev := 1, taps2 := List.replicate 12 0 })] } [(Obj.RX_ADAPT l, 1)])
theorem test_witness_AdaptationMovesByOneStep : quiet (adapting 37 0 31) ∧ laneWf 37 = true ∧ (adapting 37 0 31).hub.part.has (laneUnit 37) = true
    ∧ adapts (adapting 37 0 31).hub 37 = true ∧ getN (adapting 37 0 31).hub (Obj.RX_CTLE_MODE 37) = 0 ∧ (lane (adapting 37 0 31).hub 37).code ≤ 31
    ∧ (List.range 12).all (fun i => nth (lane (adapting 37 0 31).hub 37).taps i 0 == 127) = true ∧ adapts hub0 37 = false
    ∧ (lane (after (.ctleAdaptStep ⟨37, false⟩ 5) (adapting 37 0 31).hub) 37).code = 31 ∧ (lane (after (.ctleAdaptStep ⟨37, false⟩ (-5)) (adapting 37 0 31).hub) 37).code = 30
    ∧ getN (adapting 37 1 0).hub (Obj.RX_CTLE_MODE 37) ≠ 0 ∧ (lane (adapting 37 0 31).hub 37).rev ≠ 1
    ∧ quiet (reversed 1) ∧ adapts (reversed 1).hub 1 = true ∧ (lane (reversed 1).hub 1).rev = 1 ∧ (lane (reversed 1).hub 1).code2 ≤ 31
    ∧ getN (reversed 1).hub (Obj.RX_CTLE_MODE 1) = 0
    ∧ (List.range 12).all (fun i => nth (lane (reversed 1).hub 1).taps2 i 0 == 0) = true
    ∧ (lane (after (.dfeAdaptStep ⟨1, true⟩ [-5]) (reversed 1).hub) 1).taps2.head? = some (-1) := by unfold quiet settled; decide +kernel
def checked (sync : Nat) : State := stateOf (withN (adapting 37 0 5).hub [(Obj.PRBS_RX 37, 5), (Obj.PRBS_SYNC 37, sync)])
theorem test_witness_EyeScanReplacesBothValues : quiet (checked 1) ∧ laneWf 37 = true ∧ (checked 1).hub.part.has (laneUnit 37) = true ∧ typeB 37 = false
    ∧ (lane (checked 1).hub 37).rx = 3 ∧ typeB 8 = true ∧ getN (checked 1).hub (Obj.PRBS_RX 37) ≠ 0 ∧ getN hub0 (Obj.PRBS_RX 37) = 0
    ∧ getB (checked 1).hub (Obj.PRBS_SYNC 37) = true ∧ getB (checked 0).hub (Obj.PRBS_SYNC 37) = false
    ∧ (lane (checked 1).hub 37).rev ≠ 1 ∧ eyeMargin 1 (30, 40) (some (20, 50)) = (20, 50) ∧ eyeMargin 1 (30, 40) (some (31, 5)) = (30, 40)
    ∧ getN (checked 0).hub (Obj.PRBS_RX 37) ≠ 0 ∧ getB (after (.prbsSyncGained 37) (checked 0).hub) (Obj.PRBS_SYNC 37) = true
    ∧ (lane (after (.prbsSyncLost 37 100 3) (checked 1).hub) 37).prbsErrs = 3
    ∧ ownPattern (checked 0).hub 37 = none ∧ getN (checked 0).hub (Obj.LN_LOOP 37) ≠ 2
    ∧ ownPattern (withN (checked 0).hub [(Obj.LN_LOOP 37, 1)]) 37 = some false
    ∧ ownPattern (withN (checked 1).hub [(Obj.LN_LOOP 37, 2), (Obj.PRBS_TX 37, 5)]) 37 = some true := by unfold quiet settled; decide +kernel
theorem test_witness_FfeRampKeepsTheMagnitudeSum : ([0, 0, 63, 0] : List Nat).sum = ([2, 5, 50, 6] : List Nat).sum
    ∧ ffeStep [0, 0, 63, 0] [2, 5, 50, 6] = [1, 0, 62, 0] := by decide
def reading (req : Option (Nat × Nat)) (raising : Nat) : State :=
  stateOf (withN { hub0 with now := 500, bellows := { hub0.bellows with request := req, raiseStart := 100 }, hearth := { hub0.hearth with raising := raising == 1 } } [(Obj.BW_RAISING, raising)])
theorem test_witness_TrustedReadingEndsTheRaise : quiet (reading (some (900, 1)) 1) ∧ (reading (some (900, 1)) 1).hub.bellows.request.isSome = true
    ∧ quiet (reading none 1) ∧ (reading none 1).hub.bellows.request = none ∧ getB (reading none 1).hub Obj.BW_RAISING = true
    ∧ quiet (reading none 0) ∧ (reading none 0).hub.bellows.fault = false ∧ getB (reading none 0).hub Obj.BW_RAISING = false
    ∧ getN (after (.paceReading 1001 7 25 true) (reading none 1).hub) Obj.BW_RAISE_TIME_MAX = 400 := by unfold quiet settled; decide +kernel
/-- Group 31, or PW54, in Ember; a chunk of half 1 lies in the group. -/
def sleepy (d deepest : Nat) (chunk : Bool) : State :=
  stateOf (withN { hub0 with domains := [(d, { st := 2 })], hearth := { hub0.hearth with chunks := if chunk then [(1, 1)] else [] } } [(Obj.DM_DEEPEST d, deepest)])
theorem test_witness_OccupiedGroupStaysInEmber : quiet (sleepy 31 3 true) ∧ groupHolds (sleepy 31 3 true).hub 31 = true ∧ domainWf 63 = true
    ∧ quiet (sleepy 31 3 false) ∧ groupHolds (sleepy 31 3 false).hub 31 = false ∧ domState (sleepy 31 3 false).hub 31 = 2
    ∧ getN (sleepy 31 3 false).hub (Obj.DM_DEEPEST 31) = 3 ∧ domPresent hub0.part 31 = true ∧ domPresent .bw7730 56 = false
    ∧ quiet (sleepy 54 3 true) ∧ domState (after (.offEntry 54) (sleepy 54 3 true).hub) 54 = 4 ∧ domState hub0 0 ≠ 2
    ∧ domState (idleEnds { entering with now := 100 }) 31 = 3
    ∧ getN (sleepy 31 2 false).hub (Obj.DM_DEEPEST 31) ≠ 3 := by unfold quiet settled; decide +kernel
def seen : MergeRec := ⟨5, [5, 4294966300]⟩
theorem test_witness_MergeAcceptsEachSequenceOnce : seen.high < 2 ^ 32 ∧ (mergeTest (some seen) 4).1 = 0 ∧ mergeTest (some seen) 5 = (1, seen)
    ∧ (2147483652 = (seen.high + 2147483647) % 2 ^ 32 ∧ (mergeTest (some seen) 2147483652).1 = 0)
    ∧ (seen.high = (4294966278 + 1023) % 2 ^ 32 ∧ (mergeTest (some seen) 4294966278).1 = 0)
    ∧ (seen.high = (4294966277 + 1024) % 2 ^ 32 ∧ mergeTest (some seen) 4294966277 = (2, seen))
    ∧ (seen.high = (2147483653 + 2147483648) % 2 ^ 32 ∧ mergeTest (some seen) 2147483653 = (2, seen)) := by decide +kernel
def paired (season : Nat) (demoted : Bool) : State :=
  stateOf (withN { hub0 with part := .bw7740, twin := { hub0.twin with demoted := demoted } } [(Obj.TW_ENABLE, 1), (Obj.SEASON, season)])
theorem test_witness_AliveOutputTogglesUntilPowerIsLost : quiet (paired 1 false) ∧ (paired 1 false).hub.part = .bw7740
    ∧ getB (paired 1 false).hub Obj.TW_ENABLE = true ∧ getN (paired 2 false).hub Obj.SEASON = 2 ∧ quiet (paired 3 false) ∧ quiet (paired 2 true)
    ∧ (after .twinAliveToggle (paired 2 false).hub).twin.alive = true ∧ (after .twinAliveToggle (paired 3 false).hub).twin.alive = false
    ∧ (after .twinAliveToggle (paired 2 true).hub).twin.alive = false := by unfold quiet settled; decide +kernel
theorem test_witness_EntropyFaultStopsGeneration : quiet State.reset ∧ hub0.routes.contains Obj.KS_ENTROPY_FAULT = false
    ∧ hub0.intRoutes.contains Obj.KS_ENTROPY_FAULT = false := ⟨test_reset_is_quiet, rfl, rfl⟩
def violated : State :=
  stateOf (withN { hub0 with guards := { records := [⟨15, 1, true, 64, 32, 3, 2, 7, 99⟩], inFlight := [⟨15, 6, reqMax⟩, ⟨14, 2, reqMax⟩] } } [(Obj.G_EPOCH 15, 7), (Obj.VL_TOTAL 0, 4294967295)])
theorem test_witness_GuardEpochsDrainAndViolationsAreLogged : quiet violated ∧ guardWf 15 = true ∧ violated.hub.guards.records ≠ [] ∧ hub0.guards.records = []
    ∧ getN (after (.epochDrained 15) violated.hub) (Obj.G_DRAINED_EPOCH 15) = 6
    ∧ getN (after (.epochDrained 15) { violated.hub with twin := { violated.hub.twin with passes := [⟨15, 5, reqMax, .allowed⟩] } }) (Obj.G_DRAINED_EPOCH 15) = 5 ∧ getN (after .violationRecord violated.hub) (Obj.VL_TOTAL 0) = 0
    ∧ getN (after .violationRecord violated.hub) (at_ 63 (Obj.VL_GUARD 0)) = 15 := by unfold quiet settled; decide +kernel
theorem test_witness_HealthLogEntry : (0 : Nat) ≠ 256 % 256 + 1 ∧ Obj.HL_TIME ∈ [Obj.HL_SEQ, Obj.HL_CODE, Obj.HL_UNIT, Obj.HL_SEASON, Obj.HL_ROW, Obj.HL_TIME]
    ∧ getN (healthLog (withN hub0 [(Obj.HL_TOTAL, 256)]) 0x1101 0x3205 4) (at_ 0 Obj.HL_SEQ) = 257 := by decide +kernel
def image : Image := { (default : Image) with magicOk := true, kind := 1, version := 0x020100 }
def programming : State := stateOf { hub0 with fw := { hub0.fw with writing := some (7, image) } }
theorem test_witness_ProgrammingEndsAsItReads : quiet programming ∧ programming.hub.fw.writing = some (7, image) ∧ hub0.fw.writing = none
    ∧ mget? (after (.imageProgrammed true) programming.hub).fw.images 7 = some image ∧ (after (.imageProgrammed false) programming.hub).fw.images = [] := by
  unfold quiet settled; decide +kernel

/-- Table 22.1: 544 bits as 272 symbols, bit 0 first: SYNC 0b1010 is two symbols of bits 0 and 1; what is sent is read back. -/
theorem test_lane_block : ((blockBytes 4095 7 (List.replicate 64 0x1B)).map byteSymbols).flatten.length = 272
    ∧ (((blockBytes 4095 7 (List.replicate 64 0x1B)).map byteSymbols).flatten.take 2) = [1, 1]
    ∧ readBlock ⟨((blockBytes 4095 7 (List.replicate 64 0x1B)).map byteSymbols).flatten⟩ = some (4095, 7, List.replicate 64 0x1B) := by decide +kernel
/-- R392: the canary of a domain's third entry. -/
theorem test_canary : canary (withN hub0 [(Obj.DM_EMBER_ENTRIES 57, 0x10003)]) 57
    = (List.replicate 15 [(0x5A : Byte), 0xA5]).flatten ++ [3, 0] := by decide +kernel
/-- R270: the rows of tile (3, 2) of an 8-bit plane of 64 x 40, in a rectangle from tile (2, 1): 8 rows of 16 bytes; and with conversion the tile (0, 0) of
a 4:2:0 chroma plane, with a column and a row beyond it. -/
theorem test_source_rows : sourceRows { (default : SurfaceShape) with width := 64, height := 40, depth := 8 } { srcAddr := 4096, srcPitch := 64, tileX0 := 2, tileY0 := 1 } 0 11
      = (List.range 8).map (fun k => (4096 + 64 * (16 + k) + 16, 16))
    ∧ sourceRows { (default : SurfaceShape) with width := 128, height := 128, depth := 8, model := 3, chroma := 2 } { srcAddr := 4096, srcPitch := 128, flags := 2 } 1 0
      = (List.range 33).map (fun k => (4096 + 128 * k, 33)) := by decide +kernel

end Sys2Proof.Tests
end

section
/-! PROOFS. The JDP identifier (R74): each field is the digit of a number written in mixed radix, and what stands above bit 28 is
not read. -/

namespace Sys2Proof

/-- A field of a number: `above` holds what lies over it, `below` what lies under it. -/
theorem bitsOf_of_parts {n above v below hi lo : Nat} (hn : n = (above * 2 ^ (hi + 1 - lo) + v) * 2 ^ lo + below)
    (hv : v < 2 ^ (hi + 1 - lo)) (hbelow : below < 2 ^ lo) : bitsOf n hi lo = v := by
  have hshift : n / 2 ^ lo = above * 2 ^ (hi + 1 - lo) + v := by
    rw [hn, Nat.mul_comm, Nat.mul_add_div (Nat.two_pow_pos lo), Nat.div_eq_of_lt hbelow, Nat.add_zero]
  rw [bitsOf, hshift, Nat.mul_add_mod_of_lt hv]

/-- A field that ends below bit `k` does not see what is added at bit `k` and above. -/
theorem bitsOf_add_mul_two_pow {hi lo k : Nat} (n x : Nat) (hlo : lo ≤ hi + 1) (hk : hi + 1 ≤ k) :
    bitsOf (n + x * 2 ^ k) hi lo = bitsOf n hi lo := by
  obtain ⟨j, rfl⟩ := Nat.exists_eq_add_of_le hk
  have hsplit : x * 2 ^ (hi + 1 + j) = x * 2 ^ j * 2 ^ (hi + 1 - lo) * 2 ^ lo := by
    rw [Nat.mul_assoc, Nat.mul_assoc, ← Nat.pow_add, ← Nat.pow_add]
    congr 2; omega
  rw [bitsOf, hsplit, Nat.add_mul_div_right _ _ (Nat.two_pow_pos lo), Nat.add_mul_mod_self_right, bitsOf]

theorem Pdu.wf_iff (p : Pdu) : p.wf = true ↔
    p.func < 32 ∧ p.source < 128 ∧ p.dest < 128 ∧ p.seq < 16 ∧ p.segment < 64 ∧ p.data.length ≤ 64 := by
  simp [Pdu.wf, and_assoc]

end Sys2Proof

namespace Sys2Proof.Machine

theorem pduIdent_lt {p : Pdu} (hp : p.wf = true) : pduIdent p < 2 ^ 29 := by
  obtain ⟨hfunc, hsource, hdest, hseq, hsegment, -⟩ := (Pdu.wf_iff p).mp hp
  unfold pduIdent
  omega

/-- Table 5.1: where each field of the identifier lies. -/
theorem bitsOf_pduIdent {p : Pdu} (hp : p.wf = true) :
    bitsOf (pduIdent p) 28 24 = p.func ∧ bitsOf (pduIdent p) 23 17 = p.source ∧ bitsOf (pduIdent p) 16 10 = p.dest
    ∧ bitsOf (pduIdent p) 9 6 = p.seq ∧ bitsOf (pduIdent p) 5 0 = p.segment := by
  obtain ⟨hfunc, hsource, hdest, hseq, hsegment, -⟩ := (Pdu.wf_iff p).mp hp
  refine ⟨?func, ?source, ?dest, ?seq, ?segment⟩
  case func =>
    exact bitsOf_of_parts (above := 0) (below := p.source * 2 ^ 17 + p.dest * 2 ^ 10 + p.seq * 2 ^ 6 + p.segment)
      (by unfold pduIdent; omega) hfunc (by omega)
  case source =>
    exact bitsOf_of_parts (above := p.func) (below := p.dest * 2 ^ 10 + p.seq * 2 ^ 6 + p.segment)
      (by unfold pduIdent; omega) hsource (by omega)
  case dest =>
    exact bitsOf_of_parts (above := p.func * 2 ^ 7 + p.source) (below := p.seq * 2 ^ 6 + p.segment)
      (by unfold pduIdent; omega) hdest (by omega)
  case seq =>
    exact bitsOf_of_parts (above := p.func * 2 ^ 14 + p.source * 2 ^ 7 + p.dest) (below := p.segment)
      (by unfold pduIdent; omega) hseq (by omega)
  case segment =>
    exact bitsOf_of_parts (above := p.func * 2 ^ 18 + p.source * 2 ^ 11 + p.dest * 2 ^ 4 + p.seq) (below := 0)
      (by unfold pduIdent; omega) hsegment (by omega)

theorem pduOf_pduIdent {p : Pdu} (hp : p.wf = true) : pduOf (pduIdent p) p.data = { p with fd := true } := by
  obtain ⟨hfunc, hsource, hdest, hseq, hsegment⟩ := bitsOf_pduIdent hp
  rw [pduOf, hfunc, hsource, hdest, hseq, hsegment]

/-- R74: a receiver ignores identifier bits [31:29], and whatever a wider carrier holds above them. -/
theorem pduOf_add_mul_two_pow_29 (ident x : Nat) (data : List Byte) : pduOf (ident + x * 2 ^ 29) data = pduOf ident data := by
  have hignored {hi lo : Nat} (hlo : lo ≤ hi + 1) (hhi : hi + 1 ≤ 29) :
      bitsOf (ident + x * 2 ^ 29) hi lo = bitsOf ident hi lo := bitsOf_add_mul_two_pow ident x hlo hhi
  simp only [pduOf, hignored, Nat.reduceAdd, Nat.reduceLeDiff]

/-- Settles O8: the identifier is the five fields side by side, and the receiver reads nothing above bit 28. -/
theorem jdpIdentifierFields : Obligations.JdpIdentifierFields := by
  intro p x hp
  obtain ⟨hfunc, hsource, hdest, hseq, hsegment⟩ := bitsOf_pduIdent hp
  exact ⟨pduIdent_lt hp, hfunc, hsource, hdest, hseq, hsegment,
    (pduOf_add_mul_two_pow_29 (pduIdent p) x p.data).trans (pduOf_pduIdent hp)⟩

end Sys2Proof.Machine
end

section
/-! PROOFS. The Hearth's byte addresses (R91, R92): row, group, bank and byte stand side by side, so a row fills 8,192 addresses and a
bank number is its group and its place in the group. -/

namespace Sys2Proof.Machine

/-- Table 6.1: where each field of the address lies. -/
theorem bitsOf_wordAddr_add {g b r y : Nat} (hg : g < 32) (hb : b < 8) (hr : r < 16384) (hy : y < 32) :
    bitsOf (wordAddr g b r + y) 26 13 = r ∧ bitsOf (wordAddr g b r + y) 12 8 = g ∧ bitsOf (wordAddr g b r + y) 7 5 = b
    ∧ bitsOf (wordAddr g b r + y) 4 0 = y := by
  refine ⟨?row, ?group, ?bank, ?byte⟩
  case row =>
    exact bitsOf_of_parts (above := 0) (below := g * 2 ^ 8 + b * 2 ^ 5 + y) (by unfold wordAddr; omega) hr (by omega)
  case group =>
    exact bitsOf_of_parts (above := r) (below := b * 2 ^ 5 + y) (by unfold wordAddr; omega) hg (by omega)
  case bank =>
    exact bitsOf_of_parts (above := r * 2 ^ 5 + g) (below := y) (by unfold wordAddr; omega) hb hy
  case byte =>
    exact bitsOf_of_parts (above := r * 2 ^ 8 + g * 2 ^ 3 + b) (below := 0) (by unfold wordAddr; omega) hy (by omega)

/-- R91: the group and the bank within it, read as one field, are the bank number. -/
theorem bitsOf_wordAddr_add_bank {g b y : Nat} (r : Nat) (hg : g < 32) (hb : b < 8) (hy : y < 32) :
    bitsOf (wordAddr g b r + y) 12 5 = 8 * g + b :=
  bitsOf_of_parts (above := r) (below := y) (by unfold wordAddr; omega) (by omega) hy

/-- R91, R26: eight banks to a cluster and four clusters to a region. -/
theorem bankUnit_eight_mul_add {b : Nat} (g : Nat) (hb : b < 8) : bankUnit (8 * g + b) = unitNo 0 (g / 4) (g % 4) b := by
  have hregion : (8 * g + b) / 32 = g / 4 := by omega
  have hcluster : (8 * g + b) / 8 % 4 = g % 4 := by omega
  have hunit : (8 * g + b) % 8 = b := by omega
  rw [bankUnit, hregion, hcluster, hunit]

/-- R92: a part's addresses are those of its rows, without a gap, since group, bank and byte stay below a row's 8,192 addresses. -/
theorem wordAddr_add_lt_hearthBytes_iff {g b y : Nat} (p : Part) (r : Nat) (hg : g < 32) (hb : b < 8) (hy : y < 32) :
    wordAddr g b r + y < p.hearthBytes ↔ r < p.rows := by
  unfold wordAddr Part.hearthBytes
  omega

/-- Settles O18: the four fields are the digits of the address, and the bank number is the middle two of them together. -/
theorem hearthAddressFields : Obligations.HearthAddressFields := by
  intro g b r y hg hb hr hy
  obtain ⟨hrow, hgroup, hbank, hbyte⟩ := bitsOf_wordAddr_add hg hb hr hy
  exact ⟨hrow, hgroup, hbank, hbyte, bitsOf_wordAddr_add_bank r hg hb hy, bankUnit_eight_mul_add g hb,
    fun p => (wordAddr_add_lt_hearthBytes_iff p r hg hb hy).symm⟩

end Sys2Proof.Machine
end

section
/-! PROOFS. Policers (R145-R148): the frame's colour and the buckets it leaves, as R146's procedure written over the frame's tokens, and
what every colour then keeps. -/

namespace Sys2Proof.Machine

theorem debit_tok (x : Bucket) (b : Nat) : (debit x b).tok = x.tok - (b : Int) * (byteUnit : Int) := by
  rw [debit, Int.natCast_mul]

/-- R146: the procedure in mode 0. -/
theorem colourOf_rfc2698 (pre : Colour) (t : Buckets) (b : Nat) : colourOf 0 pre t b =
    if pre = .red ∨ t.b.tok < (b : Int) * (byteUnit : Int) then (.red, t)
    else if pre = .yellow ∨ t.a.tok < (b : Int) * (byteUnit : Int) then (.yellow, { t with b := debit t.b b })
    else (.green, { a := debit t.a b, b := debit t.b b }) := by
  simp [colourOf]

/-- R146: the procedure in every other mode. -/
theorem colourOf_rfc4115 {mode : Nat} (hmode : mode ≠ 0) (pre : Colour) (t : Buckets) (b : Nat) : colourOf mode pre t b =
    if pre = .green ∧ (b : Int) * (byteUnit : Int) ≤ t.a.tok then (.green, { t with a := debit t.a b })
    else if pre ≠ .red ∧ (b : Int) * (byteUnit : Int) ≤ t.b.tok then (.yellow, { t with b := debit t.b b })
    else (.red, t) := by
  simp [colourOf, hmode]

/-- R146: the colour in mode 0 is the first whose test the frame meets, and the tokens taken are that colour's. -/
theorem colourOf_rfc2698_spec (pre : Colour) (t : Buckets) (b : Nat) :
    let n : Int := (b : Int) * (byteUnit : Int)
    let r := colourOf 0 pre t b
    (r.1 = .red ↔ pre = .red ∨ t.b.tok < n) ∧ (r.1 = .yellow ↔ ¬(pre = .red ∨ t.b.tok < n) ∧ (pre = .yellow ∨ t.a.tok < n))
    ∧ (r.1 = .green → r.2.a.tok = t.a.tok - n ∧ r.2.b.tok = t.b.tok - n)
    ∧ (r.1 = .yellow → r.2.a = t.a ∧ r.2.b.tok = t.b.tok - n) := by
  rw [colourOf_rfc2698]
  split
  case isTrue hred => simp [hred]
  case isFalse hred =>
    split
    case isTrue hyellow => simp [hred, hyellow, debit_tok]
    case isFalse hyellow => simp [hred, hyellow, debit_tok]

theorem colourOf_rfc4115_spec {mode : Nat} (hmode : mode ≠ 0) (pre : Colour) (t : Buckets) (b : Nat) :
    let n : Int := (b : Int) * (byteUnit : Int)
    let r := colourOf mode pre t b
    (r.1 = .green ↔ pre = .green ∧ n ≤ t.a.tok) ∧ (r.1 = .yellow ↔ ¬(pre = .green ∧ n ≤ t.a.tok) ∧ pre ≠ .red ∧ n ≤ t.b.tok)
    ∧ (r.1 = .green → r.2.a.tok = t.a.tok - n ∧ r.2.b = t.b)
    ∧ (r.1 = .yellow → r.2.a = t.a ∧ r.2.b.tok = t.b.tok - n) := by
  rw [colourOf_rfc4115 hmode]
  split
  case isTrue hgreen => simp [hgreen, debit_tok]
  case isFalse hgreen =>
    split
    case isTrue hyellow => simp [hgreen, hyellow, debit_tok]
    case isFalse hyellow => simp [hgreen, hyellow]

/-- R146: in either mode a frame takes its tokens only from buckets that were seen to hold them. -/
theorem colourOf_cases (mode : Nat) (pre : Colour) (t : Buckets) (b : Nat) :
    let n : Int := (b : Int) * (byteUnit : Int)
    colourOf mode pre t b = (.red, t)
    ∨ (n ≤ t.b.tok ∧ colourOf mode pre t b = (.yellow, { t with b := debit t.b b }))
    ∨ (n ≤ t.a.tok ∧ n ≤ t.b.tok ∧ colourOf mode pre t b = (.green, { a := debit t.a b, b := debit t.b b }))
    ∨ (n ≤ t.a.tok ∧ colourOf mode pre t b = (.green, { t with a := debit t.a b })) := by
  by_cases hmode : mode = 0
  case pos =>
    rw [hmode, colourOf_rfc2698]
    split
    case isTrue => exact .inl rfl
    case isFalse hred =>
      have hb := Int.not_lt.mp (not_or.mp hred).2
      split
      case isTrue => exact .inr (.inl ⟨hb, rfl⟩)
      case isFalse hyellow => exact .inr (.inr (.inl ⟨Int.not_lt.mp (not_or.mp hyellow).2, hb, rfl⟩))
  case neg =>
    rw [colourOf_rfc4115 hmode]
    split
    case isTrue hgreen => exact .inr (.inr (.inr ⟨hgreen.2, rfl⟩))
    case isFalse =>
      split
      case isTrue hyellow => exact .inr (.inl ⟨hyellow.2, rfl⟩)
      case isFalse => exact .inl rfl

/-- R146: a red frame takes no tokens. -/
theorem colourOf_red_buckets {mode b : Nat} {pre : Colour} {t : Buckets} (hred : (colourOf mode pre t b).1 = .red) :
    (colourOf mode pre t b).2 = t := by
  obtain h | ⟨-, h⟩ | ⟨-, -, h⟩ | ⟨-, h⟩ := colourOf_cases mode pre t b
  · rw [h]
  all_goals
    rw [h] at hred
    cases hred

/-- A bucket gives only what it was seen to hold, so it is not left in debt. -/
theorem debit_tok_nonneg {x : Bucket} {b : Nat} (hheld : (b : Int) * (byteUnit : Int) ≤ x.tok) : 0 ≤ (debit x b).tok := by
  rw [debit_tok]
  exact Int.sub_nonneg_of_le hheld

theorem colourOf_no_debt (mode : Nat) (pre : Colour) (t : Buckets) (b : Nat) :
    (0 ≤ t.a.tok → 0 ≤ (colourOf mode pre t b).2.a.tok) ∧ (0 ≤ t.b.tok → 0 ≤ (colourOf mode pre t b).2.b.tok) := by
  obtain h | ⟨hb, h⟩ | ⟨ha, hb, h⟩ | ⟨ha, h⟩ := colourOf_cases mode pre t b <;> rw [h]
  · exact ⟨id, id⟩
  · exact ⟨id, fun _ => debit_tok_nonneg hb⟩
  · exact ⟨fun _ => debit_tok_nonneg ha, fun _ => debit_tok_nonneg hb⟩
  · exact ⟨fun _ => debit_tok_nonneg ha, id⟩

/-- R146: without PL_COLOUR_AWARE every frame comes in green. -/
theorem preColour_of_colourBlind {h : Hub} {n : Nat} (hblind : getN h (at_ n Obj.PL_COLOUR_AWARE) = 0) (port : Nat) (f : Frame) :
    preColour h n port f = .green := by
  simp [preColour, getB, hblind]

/-- R146, R155: counting the frame changes neither its colour nor the buckets that the procedure leaves. -/
theorem police_eq_colourOf (h : Hub) (n port : Nat) (f : Frame) :
    let r := colourOf (getN h (at_ n Obj.PL_MODE)) (preColour h n port f) (policerBuckets h n) f.len
    (police h n port f).1 = r.1 ∧ (police h n port f).2.policers = mset h.policers n r.2 :=
  ⟨rfl, rfl⟩

/-- R145, R146: a refill stops at the size, so a longer frame never finds its tokens. -/
theorem refill_tok_lt_of_size_lt {size len : Nat} (b : Bucket) (rate now : Nat) (hlen : size < len) :
    (refill b rate size now).tok < (len : Int) * (byteUnit : Int) :=
  calc (refill b rate size now).tok ≤ ((size * byteUnit : Nat) : Int) := Int.min_le_right _ _
    _ < ((len * byteUnit : Nat) : Int) := Int.ofNat_lt.mpr (Nat.mul_lt_mul_of_pos_right hlen (by decide))
    _ = (len : Int) * (byteUnit : Int) := Int.natCast_mul len byteUnit

/-- Settles O24: each mode by its procedure, and a policer by the procedure's colour and buckets. -/
theorem policerColours : Obligations.PolicerColours := by
  refine ⟨fun mode pre t b => ⟨?rfc2698, fun hmode => colourOf_rfc4115_spec hmode pre t b, colourOf_red_buckets,
      colourOf_no_debt mode pre t b⟩,
    fun _ _ port f hblind => preColour_of_colourBlind hblind port f, fun h n port f => ?police,
    fun b rate _ now _ hlen => refill_tok_lt_of_size_lt b rate now hlen⟩
  case rfc2698 =>
    rintro rfl
    exact colourOf_rfc2698_spec pre t b
  case police =>
    obtain ⟨hcolour, hbuckets⟩ := police_eq_colourOf h n port f
    exact ⟨hcolour, by rw [hbuckets, mget_mset_same]⟩

end Sys2Proof.Machine
end

section
/-! PROOFS. The fixed-length payload (R252, R253, R256): a field of bits is read back as its value, b bits hold the code of every
sample, so each code is cut off the payload's front and decoded to within the bound. -/

namespace Sys2Proof.Machine

/-! Fields of bits (R255) -/

@[simp] theorem length_bitsMsb (n v : Nat) : (bitsMsb n v).length = n := by
  simp [bitsMsb]

@[simp] theorem bitsVal_concat (bs : List Bool) (b : Bool) : bitsVal (bs ++ [b]) = 2 * bitsVal bs + b.toNat := by
  simp [bitsVal]

theorem toNat_bitOf (v i : Nat) : (bitOf v i).toNat = v / 2 ^ i % 2 := by
  obtain h | h := Nat.mod_two_eq_zero_or_one (v / 2 ^ i) <;> simp [bitOf, h]

theorem bitOf_succ (v i : Nat) : bitOf v (i + 1) = bitOf (v / 2) i := by
  rw [bitOf, bitOf, Nat.pow_succ', Nat.div_div_eq_div_mul]

/-- The last bit of a field is its least significant one. -/
theorem bitsMsb_succ (n v : Nat) : bitsMsb (n + 1) v = bitsMsb n (v / 2) ++ [bitOf v 0] := by
  simp [bitsMsb, List.range_succ_eq_map, bitOf_succ]

/-- A field holds its value modulo the field's range. -/
theorem bitsVal_bitsMsb (n v : Nat) : bitsVal (bitsMsb n v) = v % 2 ^ n := by
  induction n generalizing v with
  | zero => simp [bitsMsb, bitsVal, Nat.mod_one]
  | succ n ih =>
    rw [bitsMsb_succ, bitsVal_concat, ih, toNat_bitOf, Nat.pow_zero, Nat.div_one, Nat.pow_succ', Nat.mod_mul, Nat.add_comm]

theorem bitsVal_bitsMsb_of_lt {n v : Nat} (hv : v < 2 ^ n) : bitsVal (bitsMsb n v) = v := by
  rw [bitsVal_bitsMsb, Nat.mod_eq_of_lt hv]

/-! The width of a code (R253) -/

/-- The search for b ends at a power of two that is large enough, if the last one it may try is. -/
theorem le_two_pow_clog2From {n fuel b : Nat} (hn : n ≤ 2 ^ (b + fuel)) : n ≤ 2 ^ clog2From n fuel b := by
  induction fuel generalizing b with
  | zero => exact hn
  | succ fuel ih =>
    rw [clog2From]
    split
    case isTrue hb => exact hb
    case isFalse => exact ih (by rwa [Nat.add_right_comm])

/-- R253, R256: the number of levels, from which b is taken, lies above the largest valid code. -/
theorem maxCode_lt_levels (d e : Nat) : (2 ^ d - 1 + e) / (2 * e + 1) < ceilDiv (2 ^ d + 2 * e) (2 * e + 1) := by
  have hpos := Nat.two_pow_pos d
  rw [ceilDiv, show 2 ^ d + 2 * e + (2 * e + 1) - 1 = 2 ^ d - 1 + 2 * e + (2 * e + 1) by omega,
    Nat.add_div_right _ (Nat.succ_pos _), Nat.lt_succ_iff]
  exact Nat.div_le_div_right (by omega)

/-- R253: a quantiser has no more levels than there are samples. -/
theorem levels_le_two_pow (d e : Nat) : ceilDiv (2 ^ d + 2 * e) (2 * e + 1) ≤ 2 ^ d := by
  have hpos := Nat.two_pow_pos d
  have hgrow : 2 * e ≤ 2 * e * 2 ^ d := Nat.le_mul_of_pos_right _ hpos
  rw [ceilDiv, Nat.div_le_iff_le_mul_add_pred (Nat.succ_pos _), Nat.add_one_mul (2 * e)]
  omega

/-- R253: b bits hold every valid code; the model's search for b reaches depths up to 16. -/
theorem maxCode_lt_two_pow_codeBits {d : Nat} (hd : d ≤ 16) (e : Nat) : (2 ^ d - 1 + e) / (2 * e + 1) < 2 ^ codeBits d e := by
  have hreach : ceilDiv (2 ^ d + 2 * e) (2 * e + 1) ≤ 2 ^ (0 + 16) :=
    Nat.le_trans (levels_le_two_pow d e) (Nat.pow_le_pow_right Nat.two_pos hd)
  exact Nat.lt_of_lt_of_le (maxCode_lt_levels d e) (le_two_pow_clog2From hreach)

/-! One code (R256) -/

/-- R256: the code of sample x. -/
def fixedCode (e x : Nat) : Nat := (x + e) / (2 * e + 1)

/-- R256: what the code of sample x decodes to. -/
def fixedDecoded (d e x : Nat) : Nat := min (fixedCode e x * (2 * e + 1)) (2 ^ d - 1)

theorem fixedCode_le_maxCode {d x : Nat} (e : Nat) (hx : x < 2 ^ d) : fixedCode e x ≤ (2 ^ d - 1 + e) / (2 * e + 1) :=
  Nat.div_le_div_right (Nat.add_le_add_right (Nat.le_sub_one_of_lt hx) e)

theorem fixedSample_fixedCode {d x : Nat} (e : Nat) (hx : x < 2 ^ d) : fixedSample d e (fixedCode e x) = some (fixedDecoded d e x) :=
  if_pos (fixedCode_le_maxCode e hx)

theorem fixedSample_eq_none_iff (d e q : Nat) : fixedSample d e q = none ↔ (2 ^ d - 1 + e) / (2 * e + 1) < q := by
  simp [fixedSample]

/-- R252: the multiple of s = 2e + 1 that the code stands for lies within e of x, and the clamp to the sample range only moves it
towards x. -/
theorem fixedDecoded_within {d x : Nat} (e : Nat) (hx : x < 2 ^ d) : fixedDecoded d e x ≤ x + e ∧ x ≤ fixedDecoded d e x + e := by
  have hbelow : fixedCode e x * (2 * e + 1) ≤ x + e := Nat.div_mul_le_self _ _
  have habove : x + e < fixedCode e x * (2 * e + 1) + (2 * e + 1) := Nat.lt_div_mul_add (Nat.succ_pos _)
  unfold fixedDecoded
  omega

/-! The payload (R256) -/

theorem fixedBits_cons (d e x : Nat) (xs : List Nat) :
    fixedBits d e (x :: xs) = bitsMsb (codeBits d e) (fixedCode e x) ++ fixedBits d e xs :=
  List.flatMap_cons

theorem length_fixedBits (d e : Nat) (xs : List Nat) : (fixedBits d e xs).length = codeBits d e * xs.length := by
  induction xs with
  | nil => rfl
  | cons x xs ih => rw [fixedBits_cons, List.length_append, length_bitsMsb, ih, List.length_cons, Nat.mul_succ, Nat.add_comm]

/-- A payload that begins with a field of b bits decodes the field's code first and then what follows it. -/
theorem decodeFixed_bitsMsb_append {d e q y n : Nat} {bs : List Bool} {ys : List Nat} (hq : q < 2 ^ codeBits d e)
    (hfirst : fixedSample d e q = some y) (hrest : decodeFixed d e n bs = some ys) :
    decodeFixed d e (n + 1) (bitsMsb (codeBits d e) q ++ bs) = some (y :: ys) := by
  have htake : (bitsMsb (codeBits d e) q ++ bs).take (codeBits d e) = bitsMsb (codeBits d e) q :=
    List.take_left' (length_bitsMsb _ _)
  have hdrop : (bitsMsb (codeBits d e) q ++ bs).drop (codeBits d e) = bs := List.drop_left' (length_bitsMsb _ _)
  simp only [decodeFixed, htake, hdrop, bitsVal_bitsMsb_of_lt hq, hfirst, hrest]

theorem decodeFixed_fixedBits_append {d : Nat} (hd : d ≤ 16) (e : Nat) {xs : List Nat} (rest : List Bool) (hxs : ∀ x ∈ xs, x < 2 ^ d) :
    decodeFixed d e xs.length (fixedBits d e xs ++ rest) = some (xs.map (fixedDecoded d e)) := by
  induction xs with
  | nil => rfl
  | cons x xs ih =>
    obtain ⟨hx, hxs⟩ := List.forall_mem_cons.mp hxs
    rw [fixedBits_cons, List.append_assoc]
    exact decodeFixed_bitsMsb_append (Nat.lt_of_le_of_lt (fixedCode_le_maxCode e hx) (maxCode_lt_two_pow_codeBits hd e))
      (fixedSample_fixedCode e hx) (ih hxs)

/-- Settles O32: code by code, the payload's front is a field of b bits that holds the code of the next sample. -/
theorem fixedPayloadDecodesWithinTheBound : Obligations.FixedPayloadDecodesWithinTheBound := by
  intro d e xs rest hd _ hxs
  have hdepth : d ≤ 16 := by
    simp only [List.mem_cons, List.not_mem_nil, or_false] at hd
    omega
  exact ⟨rfl, length_fixedBits d e xs, decodeFixed_fixedBits_append hdepth e rest hxs,
    fun x hx => fixedDecoded_within e (hxs x hx), fixedSample_eq_none_iff d e⟩

end Sys2Proof.Machine
end

section
/-! PROOFS. The reduction to the output's depth (R294): the flat list of thresholds read as the manual's matrix, and the two sums of stage 8
written with the shifts that drop n = 12 − D bits. -/

namespace Sys2Proof.Machine

theorem reduceOut_of_full_depth (dither x y v : Nat) : reduceOut 12 dither x y v = v :=
  if_pos rfl

/-- R294: below 12 bits the value is raised by half a step or by the pixel's threshold, cut off and clamped. -/
theorem reduceOut_of_depth_ne {depth : Nat} (hdepth : depth ≠ 12) (dither x y v : Nat) : reduceOut depth dither x y v =
    min ((v + if dither = 0 then 2 ^ (12 - depth) / 2 else bayer x y * 2 ^ (12 - depth) / 16) / 2 ^ (12 - depth)) (2 ^ depth - 1) := by
  simp [reduceOut, hdepth]

/-- R294: `bayer` holds the matrix row by row, four thresholds to a row. -/
theorem bayer_eq_matrix (x y : Nat) :
    bayer x y = ([[0, 8, 2, 10], [12, 4, 14, 6], [3, 11, 1, 9], [15, 7, 13, 5]].getD (y % 4) []).getD (x % 4) 0 := by
  have hentry : ∀ row < 4, ∀ col < 4, nth [0, 8, 2, 10, 12, 4, 14, 6, 3, 11, 1, 9, 15, 7, 13, 5] (4 * row + col) 0
      = ([[0, 8, 2, 10], [12, 4, 14, 6], [3, 11, 1, 9], [15, 7, 13, 5]].getD row []).getD col 0 := by decide
  exact hentry (y % 4) (Nat.mod_lt y (by decide)) (x % 4) (Nat.mod_lt x (by decide))

/-- R294: H_DITHER 0 drops n bits with rounding. -/
theorem reduceOut_rounded {n : Nat} (hpos : 0 < n) (hlt : n < 12) (x y v : Nat) :
    reduceOut (12 - n) 0 x y v = min ((v + 2 ^ n / 2) >>> n) (2 ^ (12 - n) - 1) := by
  rw [reduceOut_of_depth_ne (by omega), if_pos rfl, Nat.sub_sub_self (Nat.le_of_lt hlt), Nat.shiftRight_eq_div_pow]

/-- R294: H_DITHER 1 drops n bits above the pixel's threshold, a sixteenth of the step per unit. -/
theorem reduceOut_dithered {n : Nat} (hpos : 0 < n) (hlt : n < 12) (x y v : Nat) :
    reduceOut (12 - n) 1 x y v = min ((v + ((bayer x y <<< n) >>> 4)) >>> n) (2 ^ (12 - n) - 1) := by
  rw [reduceOut_of_depth_ne (by omega), if_neg Nat.one_ne_zero, Nat.sub_sub_self (Nat.le_of_lt hlt), Nat.shiftRight_eq_div_pow,
    Nat.shiftRight_eq_div_pow, Nat.shiftLeft_eq]

/-- R294: a value of the pipeline's 12 bits leaves with the bits of the output's depth. -/
theorem reduceOut_lt_two_pow {v : Nat} (hv : v < 2 ^ 12) (depth dither x y : Nat) : reduceOut depth dither x y v < 2 ^ depth := by
  by_cases hdepth : depth = 12
  case pos => rwa [hdepth, reduceOut_of_full_depth]
  case neg =>
    rw [reduceOut_of_depth_ne hdepth]
    exact Nat.lt_of_le_of_lt (Nat.min_le_right _ _) (Nat.sub_one_lt (Nat.ne_of_gt (Nat.two_pow_pos depth)))

/-- Settles O35: the clauses of stage 8 at n = 12 − D, with the threshold taken from the matrix. -/
theorem outputReduction : Obligations.OutputReduction := by
  intro n x y v
  refine ⟨reduceOut_of_full_depth 0 x y v, reduceOut_of_full_depth 1 x y v, fun hpos hlt => ⟨reduceOut_rounded hpos hlt x y v, ?dithered⟩,
    fun dither hv _ => reduceOut_lt_two_pow hv (12 - n) dither x y⟩
  case dithered => rw [reduceOut_dithered hpos hlt, bayer_eq_matrix]

end Sys2Proof.Machine
end

section
/-! PROOFS. The whole machine: what every command and every step leave, whatever the command's own effect; a nanosecond without a command;
and the commands that are one dictionary write. -/

namespace Sys2Proof.Machine

/-! What a run leaves -/

theorem settled_runOn (f : List Host.Cell → Hub → Hub) (s : State) : settled (runOn f s) :=
  clearTransient_settled _

/-- R91, R92: the zeroing and the writes of a command keep the Hearth's canonical form. -/
theorem hearthOk_runOn (f : List Host.Cell → Hub → Hub) {s : State} (hs : hearthOk s) : hearthOk (runOn f s) :=
  Memory.wf_newMem (keepPart s.hub (settle s.mem s.hub (f s.mem s.hub))) s.mem hs

theorem hearthOk_of_eq {s t : State} (hpart : t.hub.part = s.hub.part) (hmem : t.mem = s.mem) (hs : hearthOk s) : hearthOk t := by
  unfold hearthOk at *
  rwa [hpart, hmem]

/-! A nanosecond without a command -/

/-- What a view of the hub keeps, two hubs of the same view share. -/
theorem eq_of_view {α β : Type} {view : Hub → β} {a b : Hub} (hab : view a = view b) (p : Hub → α) (q : β → α)
    (hq : ∀ h, q (view h) = p h) : p a = p b := by
  rw [← hq, hab, hq]

/-- The hub without what the returned credits, the announcements, the stages and the receivers change in a nanosecond. -/
def clockCore (h : Hub) : Hub :=
  { h with cNet := 0, fresh := 0, out := [], time := {}, pcie := {}, lanes := [], pd := {}, bellows := {} }

/-- The hub without what a nanosecond changes before the twin link's transmitter acts. -/
def idleCore (h : Hub) : Hub := { clockCore h with now := 0, net := 0 }

/-- The hub without what the twin link's transmitter changes in a nanosecond. -/
def linkCore (h : Hub) : Hub := { h with out := [], keys := {}, twin := {} }

theorem clockCore_send (h : Hub) (o : Out) : clockCore (send h o) = clockCore h := rfl
theorem clockCore_tick (h : Hub) : clockCore (tick h) = clockCore h := rfl
theorem clockCore_setTime (h : Hub) (f : TimeUnit → TimeUnit) : clockCore (setTime h f) = clockCore h := rfl
theorem clockCore_setPcie (h : Hub) (f : Pcie → Pcie) : clockCore (setPcie h f) = clockCore h := rfl
theorem clockCore_setPd (h : Hub) (f : Pd → Pd) : clockCore (setPd h f) = clockCore h := rfl
theorem clockCore_updPort (h : Hub) (p : Nat) (f : PdPort → PdPort) : clockCore (updPort h p f) = clockCore h := rfl
theorem clockCore_updLane (h : Hub) (l : Nat) (f : Lane → Lane) : clockCore (updLane h l f) = clockCore h := rfl
theorem clockCore_setBellows (h : Hub) (f : Bellows → Bellows) : clockCore (setBellows h f) = clockCore h := rfl
theorem linkCore_send (h : Hub) (o : Out) : linkCore (send h o) = linkCore h := rfl
theorem linkCore_setTwin (h : Hub) (f : Twin → Twin) : linkCore (setTwin h f) = linkCore h := rfl
theorem linkCore_putSlot (h : Hub) (n : Nat) (x : KeySlot) : linkCore (putSlot h n x) = linkCore h := rfl

theorem forEach_clockCore {α : Type} (l : List α) (h : Hub) (f : Hub → α → Hub) (hf : ∀ x a, clockCore (f x a) = clockCore x) :
    clockCore (forEach l h f) = clockCore h :=
  forEach_inv (fun x => clockCore x = clockCore h) l h f rfl (fun x a hx => (hf x a).trans hx)

theorem clockCore_returnCredits (h : Hub) : clockCore (returnCredits h) = clockCore h := by
  refine forEach_clockCore _ _ _ fun x p => forEach_clockCore _ _ _ fun y t => ?_
  dsimp only
  split
  · rfl
  · rw [clockCore_send, clockCore_setPcie]

theorem clockCore_gptpAnnounce (h : Hub) : clockCore (gptpAnnounce h) = clockCore h := by
  unfold gptpAnnounce
  dsimp only
  split
  · rfl
  · split
    · rw [clockCore_setTime]
    · rw [forEach_clockCore _ _ _ fun x m => clockCore_send x _, clockCore_setTime]

theorem clockCore_nvRefTick (h : Hub) : clockCore (nvRefTick h) = clockCore h :=
  clockCore_setPcie h _

theorem clockCore_driveLevel (h : Hub) (p : Nat) (v : Bool) : clockCore (driveLevel h p v) = clockCore h := by
  unfold driveLevel
  dsimp only
  split
  · rw [clockCore_updPort]
  · rw [clockCore_send, clockCore_updPort, clockCore_updPort]

theorem clockCore_sinkLevel (h : Hub) (v : Bool) : clockCore (sinkLevel h v) = clockCore h := by
  unfold sinkLevel
  split
  · rfl
  · rw [clockCore_send, clockCore_setPd]

theorem clockCore_driveEn (h : Hub) (p : Nat) (v : Bool) : clockCore (driveEn h p v) = clockCore h := by
  unfold driveEn
  rw [clockCore_driveLevel]
  split
  · exact clockCore_sinkLevel h false
  · rfl

theorem clockCore_stageRead (h : Hub) (p : Nat) : clockCore (stageRead h p) = clockCore h := by
  unfold stageRead
  split
  · rfl
  · dsimp only
    split
    · rw [clockCore_driveEn, clockCore_send, clockCore_tick]
    · rw [clockCore_send, clockCore_tick]

theorem clockCore_prbsTick (h : Hub) (l : Nat) : clockCore (prbsTick h l) = clockCore h := by
  unfold prbsTick
  dsimp only
  split
  · rfl
  · rw [prbsCount, clockCore_updLane, clockCore_updLane]

theorem clockCore_bellowsSample (h : Hub) : clockCore (bellowsSample h) = clockCore h :=
  clockCore_setBellows h _

/-- What a nanosecond does after network time has moved and before the twin link's transmitter acts. -/
def idleSteps (h : Hub) : Hub := bellowsSample (prbsTicks (stageReads (nvRefTick (gptpAnnounce (returnCredits h)))))

theorem clockCore_idleSteps (h : Hub) : clockCore (idleSteps h) = clockCore h := by
  rw [idleSteps, clockCore_bellowsSample, prbsTicks, forEach_clockCore _ _ _ clockCore_prbsTick, stageReads,
    forEach_clockCore _ _ _ clockCore_stageRead, clockCore_nvRefTick, clockCore_gptpAnnounce, clockCore_returnCredits]

theorem idleHub_eq (h : Hub) : idleHub h = tyvelTick (idleSteps (netTick { h with now := h.now + 1 })) := rfl

/-- R228: a nanosecond of network time moves it by none, one or two. -/
theorem netTick_net (h : Hub) : h.net ≤ (netTick h).net ∧ (netTick h).net ≤ h.net + 2 := by
  unfold netTick
  dsimp only [setNet, setTime]
  refine ⟨Nat.le_add_right _ _, Nat.add_le_add_left ?_ _⟩
  split
  · exact Nat.le_refl 2
  · split <;> decide

theorem netTick_now (h : Hub) : (netTick h).now = h.now := rfl

theorem idleCore_netTick (h : Hub) : idleCore (netTick h) = idleCore h := rfl

theorem linkCore_takeKey (h : Hub) (side : Nat) : linkCore (takeKey h side) = linkCore h := by
  unfold takeKey
  split
  · rw [linkCore_putSlot]
  · rfl

theorem linkCore_startFrame (h : Hub) (x : TyvelMsg) : linkCore (startFrame h x).2 = linkCore h := by
  unfold startFrame
  dsimp only
  rw [linkCore_send]
  split
  · rw [linkCore_takeKey, linkCore_setTwin, linkCore_setTwin]
  · rw [linkCore_setTwin]

theorem linkCore_fillStripe (n : Nat) (h : Hub) (bs : List Byte) (start : Option Nat) :
    linkCore (fillStripe n h bs start).2.2 = linkCore h := by
  induction n generalizing h bs start with
  | zero => rfl
  | succ n ih =>
    unfold fillStripe
    split
    · rfl
    · split
      · rfl
      · exact (ih _ _ _).trans (linkCore_startFrame _ _)

theorem linkCore_sendStripe (h : Hub) : linkCore (sendStripe h) = linkCore h := by
  unfold sendStripe
  dsimp only
  split
  · rw [linkCore_setTwin, linkCore_fillStripe]
  · rw [linkCore_send, linkCore_setTwin, linkCore_fillStripe]

/-- R402, R405: the transmitter of the twin link changes only the link and the traffic keys. -/
theorem linkCore_tyvelTick (h : Hub) : linkCore (tyvelTick h) = linkCore h := by
  unfold tyvelTick
  split
  · rfl
  · dsimp only
    split
    · rw [linkCore_setTwin]
    · rw [linkCore_sendStripe, linkCore_setTwin]

theorem tyvelTick_linkDown {h : Hub} (hdown : h.twin.linkUp = false) : tyvelTick h = h := by
  simp [tyvelTick, hdown]

theorem idleCore_beforeLink (h : Hub) : idleCore (idleSteps (netTick { h with now := h.now + 1 })) = idleCore h :=
  (eq_of_view (clockCore_idleSteps _) idleCore idleCore fun _ => rfl).trans (idleCore_netTick _)

theorem idleCore_linkCore (h : Hub) : linkCore (idleCore h) = idleCore (linkCore h) := rfl

/-- What no nanosecond changes: all but the clocks, what the hub sends, and the engines that run by themselves. -/
theorem idleHub_keeps {α : Type} (p : Hub → α) (hp : ∀ h, p (linkCore (idleCore h)) = p h) (h : Hub) : p (idleHub h) = p h := by
  have hlink : p (idleHub h) = p (idleSteps (netTick { h with now := h.now + 1 })) := by
    rw [idleHub_eq, ← hp (tyvelTick _), idleCore_linkCore, linkCore_tyvelTick, ← idleCore_linkCore, hp]
  rw [hlink, ← hp (idleSteps _), idleCore_beforeLink, hp]

theorem idleHub_clocks (h : Hub) : (idleHub h).now = h.now + 1 ∧ h.net ≤ (idleHub h).net ∧ (idleHub h).net ≤ h.net + 2 := by
  have hnow : (idleHub h).now = (netTick { h with now := h.now + 1 }).now :=
    (eq_of_view (linkCore_tyvelTick _) Hub.now Hub.now fun _ => rfl).trans
      (eq_of_view (clockCore_idleSteps _) Hub.now Hub.now fun _ => rfl)
  have hnet : (idleHub h).net = (netTick { h with now := h.now + 1 }).net :=
    (eq_of_view (linkCore_tyvelTick _) Hub.net Hub.net fun _ => rfl).trans
      (eq_of_view (clockCore_idleSteps _) Hub.net Hub.net fun _ => rfl)
  rw [hnow, hnet, netTick_now]
  exact ⟨rfl, netTick_net { h with now := h.now + 1 }⟩

theorem idleHub_keys {h : Hub} (hdown : h.twin.linkUp = false) : (idleHub h).keys = h.keys := by
  have hlink := eq_of_view (idleCore_beforeLink h) (fun h => h.twin.linkUp) (fun h => h.twin.linkUp) fun _ => rfl
  rw [idleHub_eq, tyvelTick_linkDown (hlink.trans hdown)]
  exact eq_of_view (idleCore_beforeLink h) Hub.keys Hub.keys fun _ => rfl

/-! A step -/

theorem step_nil {s : State} (hp : s.pending = []) : step s = .next (idle s) := by
  unfold step
  rw [hp]

theorem idle_unpowered {s : State} (hoff : s.hub.fw.powered = false) : idle s = s := by
  simp [idle, hoff]

theorem idle_due {s : State} (hon : s.hub.fw.powered = true) (hdue : idleDue s.hub = true) :
    idle s = runOn (fun _ h => idleEnds (idleHub h)) s := by
  simp [idle, hon, hdue]

theorem idle_notDue {s : State} (hon : s.hub.fw.powered = true) (hdue : idleDue s.hub = false) :
    idle s = { s with hub := idleHub s.hub } := by
  simp [idle, hon, hdue]

/-- What a step leaves: the state, a run's, or the hub a nanosecond later; in each case over the Hearth that was there. -/
theorem step_cases {s t : State} (ht : step s = .next t) :
    (∃ q, t = { s with pending := q }) ∨ (∃ f q, t = runOn f { s with pending := q }) ∨ t = { s with hub := idleHub s.hub } := by
  unfold step at ht
  split at ht
  case h_1 hp =>
    obtain rfl := Host.Outcome.next.inj ht
    cases hon : s.hub.fw.powered
    case false => exact .inl ⟨s.pending, idle_unpowered hon⟩
    case true =>
      cases hdue : idleDue s.hub
      case false => exact .inr (.inr (idle_notDue hon hdue))
      case true => exact .inr (.inl ⟨_, s.pending, idle_due hon hdue⟩)
  case h_2 c rest hp =>
    obtain ⟨-, h⟩ | ⟨-, h⟩ | ⟨-, f, h⟩ := exec_cases c { s with pending := rest }
    all_goals
      rw [h] at ht
      obtain rfl := Host.Outcome.next.inj ht
    · exact .inl ⟨rest, rfl⟩
    · exact .inl ⟨rest, rfl⟩
    · exact .inr (.inl ⟨f, rest, rfl⟩)

/-- Settles O4: a run clears what a command left undone and writes the Hearth canonically, and nothing else touches either. -/
theorem stepKeepsTheHearthCanonical : Obligations.StepKeepsTheHearthCanonical := by
  intro s t hmem hsettled hstep
  obtain ⟨q, rfl⟩ | ⟨f, q, rfl⟩ | rfl := step_cases hstep
  case inl => exact ⟨hmem, hsettled, rfl⟩
  case inr.inl => exact ⟨hearthOk_runOn f (s := { s with pending := q }) hmem, settled_runOn f _, rfl⟩
  case inr.inr =>
    have hpart := idleHub_keeps Hub.part (fun _ => rfl) s.hub
    obtain ⟨htodo, hstores, hzeroed, hrecord⟩ := hsettled
    exact ⟨hearthOk_of_eq hpart rfl hmem, ⟨(idleHub_keeps Hub.todo (fun _ => rfl) s.hub).trans htodo,
      (idleHub_keeps Hub.stores (fun _ => rfl) s.hub).trans hstores,
      (idleHub_keeps Hub.zeroed (fun _ => rfl) s.hub).trans hzeroed, (idleHub_keeps Hub.recordOk (fun _ => rfl) s.hub).trans hrecord⟩, hpart⟩

/-- Settles O2: by the three ends of `idle`. -/
theorem emptyQueueLetsANanosecondPass : Obligations.EmptyQueueLetsANanosecondPass := by
  intro s hp
  refine ⟨fun hon hdue => ⟨{ s with hub := idleHub s.hub }, ?step, ?frame⟩,
    fun hon hdue => (step_nil hp).trans (congrArg _ (idle_due hon hdue)),
    fun hoff => (step_nil hp).trans (congrArg _ (idle_unpowered hoff))⟩
  case step => rw [step_nil hp, idle_notDue hon hdue]
  case frame =>
    obtain ⟨hnow, hlow, hhigh⟩ := idleHub_clocks s.hub
    exact ⟨hnow, hlow, hhigh, idleHub_keeps Hub.dict (fun _ => rfl) s.hub, idleHub_keeps Hub.sel (fun _ => rfl) s.hub,
      idleHub_keeps Hub.staged (fun _ => rfl) s.hub, rfl, hp, idleHub_keeps Hub.grate (fun _ => rfl) s.hub,
      idleHub_keeps Hub.hearth (fun _ => rfl) s.hub, idleHub_keeps Hub.domains (fun _ => rfl) s.hub, idleHub_keys⟩

/-- Settles O1: `step` takes the front command off the queue and runs it. -/
theorem stepRunsTheFrontCommand : Obligations.StepRunsTheFrontCommand := by
  intro c rest s
  rfl

/-- Settles O3: the reset state is a literal; of a domain it lists only 57 and 63. -/
theorem resetIsSpring : Obligations.ResetIsSpring := by
  refine ⟨by decide +kernel, fun d => ?domains, rfl, rfl, rfl, rfl, rfl, rfl, ⟨rfl, rfl, rfl, rfl⟩, Memory.wf_nil _⟩
  case domains =>
    by_cases h57 : d = 57
    case pos => subst h57; rfl
    case neg =>
      by_cases h63 : d = 63
      case pos => subst h63; rfl
      case neg =>
        have hother : mget? State.reset.hub.domains d = none := by
          simp [State.reset, mget?, Ne.symm h57, Ne.symm h63]
        simp [domState, domain, mget, hother, h57, h63]

/-! Every command -/

/-- Settles O5: a command leaves the state, or what a run leaves of it, which keeps the queue and the part. -/
theorem everyCommandAnswersANextState : Obligations.EveryCommandAnswersANextState := by
  intro i s
  obtain ⟨-, h⟩ | ⟨hwf, h⟩ | ⟨hwf, f, h⟩ := exec_cases i s
  · exact ⟨s, h, rfl, rfl, fun _ => rfl⟩
  · exact ⟨s, h, rfl, rfl, fun _ => rfl⟩
  · exact ⟨runOn f s, h, runOn_pending f s, runOn_part f s, fun hill => by simp [hwf] at hill⟩

/-- Settles O6: every command but POWER_ON runs by `runCmd`, which asks for power. -/
theorem withoutPowerOnlyPowerOnActs : Obligations.WithoutPowerOnlyPowerOnActs := by
  intro i s hoff
  refine ⟨fun hother => ?_, fun x hx => hx ▸ exec_powerOn x s⟩
  obtain ⟨x, hx⟩ | ⟨f, hf⟩ := exec_runCmd i
  · exact absurd hx (hother x)
  · rw [hf s]
    cases hwf : i.wf
    case false => exact runCmd_illFormed f s
    case true => exact runCmd_unpowered f s hoff

/-- Settles O52: each command runs by `runCmd` of the effect that is named. -/
theorem dictionaryAndJdpCommandsRun : Obligations.DictionaryAndJdpCommandsRun := by
  unfold Obligations.DictionaryAndJdpCommandsRun
  and_intros
  all_goals intros; exact runsAs_of _ _ fun _ => rfl

/-- Settles O53: each command runs by `runCmd` of the effect that is named. -/
theorem hearthGrateFlowAndDamperCommandsRun : Obligations.HearthGrateFlowAndDamperCommandsRun := by
  unfold Obligations.HearthGrateFlowAndDamperCommandsRun
  and_intros
  all_goals intros; exact runsAs_of _ _ fun _ => rfl

/-- Settles O54: each command runs by `runCmd` of the effect that is named. -/
theorem tunnelNetworkAndPcieCommandsRun : Obligations.TunnelNetworkAndPcieCommandsRun := by
  unfold Obligations.TunnelNetworkAndPcieCommandsRun
  and_intros
  all_goals intros; exact runsAs_of _ _ fun _ => rfl

/-- Settles O55: each command runs by `runCmd` of the effect that is named. -/
theorem displayCommandsRun : Obligations.DisplayCommandsRun := by
  unfold Obligations.DisplayCommandsRun
  and_intros
  all_goals intros; exact runsAs_of _ _ fun _ => rfl

/-- Settles O56: each command runs by `runCmd` of the effect that is named. -/
theorem usbAndPowerDeliveryCommandsRun : Obligations.UsbAndPowerDeliveryCommandsRun := by
  unfold Obligations.UsbAndPowerDeliveryCommandsRun
  and_intros
  all_goals intros; exact runsAs_of _ _ fun _ => rfl

/-- Settles O57: each command runs by `runCmd` of the effect that is named. -/
theorem laneBellowsAndDomainCommandsRun : Obligations.LaneBellowsAndDomainCommandsRun := by
  unfold Obligations.LaneBellowsAndDomainCommandsRun
  and_intros
  all_goals intros; exact runsAs_of _ _ fun _ => rfl

/-- Settles O58: each command runs by `runCmd` of the effect that is named. -/
theorem twinCommandsRun : Obligations.TwinCommandsRun := by
  unfold Obligations.TwinCommandsRun
  and_intros
  all_goals intros; exact runsAs_of _ _ fun _ => rfl

theorem runsAs_powerOn (x : Straps) : runsAs (.powerOn x) (fun m h => powerOn m h x) := fun _ _ _ => rfl

/-- Settles O59: each command runs by `runCmd` of the effect that is named, but POWER_ON, which asks for no power. -/
theorem securityHealthAndFirmwareCommandsRun : Obligations.SecurityHealthAndFirmwareCommandsRun := by
  unfold Obligations.SecurityHealthAndFirmwareCommandsRun
  and_intros
  any_goals exact runsAs_powerOn
  all_goals intros; exact runsAs_of _ _ fun _ => rfl

end Sys2Proof.Machine
end

section
/-! PROOFS. The commands that are one dictionary write (R44, R56): a command's row of the dispatch and the write of the object that it names
have one effect. -/

namespace Sys2Proof.Machine

/-- Two well-formed commands that run one effect do the same. -/
theorem exec_eq_of_sameEffect {i j : Instr} {f : List Host.Cell → Hub → Hub} {s : State} (hi : exec i s = runCmd i.wf f s)
    (hj : exec j s = runCmd j.wf f s) (hwi : i.wf = true) (hwj : j.wf = true) : exec i s = exec j s := by
  rw [hi, hj, hwi, hwj]

/-- R43: a key's index and sub-index fit their fields. -/
theorem wf_writeOf (src : Src) (k n : Nat) : (writeOf src k n).wf = true := by
  have hidx : keyIdx k < 65536 := Nat.mod_lt _ (by decide)
  have hsub : keySub k < 256 := Nat.mod_lt _ (by decide)
  simp [writeOf, Instr.wf, objWf, hidx, hsub]

theorem wf_objectWrite_iff (src : Src) (idx sub : Nat) (bs : List Byte) :
    (Instr.objectWrite src idx sub bs).wf = true ↔ idx < 65536 ∧ sub < 256 := by
  simp [Instr.wf, objWf]

/-- Settles O60: each row's own effect is the write or the COMMIT that is named, and a well-formed row names an index of 16 bits. -/
theorem objectRowsAreDictionaryWrites : Obligations.ObjectRowsAreDictionaryWrites := by
  intro s
  and_intros
  all_goals intros
  all_goals refine exec_eq_of_sameEffect rfl rfl ‹_› ?_
  any_goals exact wf_writeOf _ _ _
  all_goals grind [wf_objectWrite_iff, Instr.wf, objWf, macWf]

end Sys2Proof.Machine
end

section
/-! PROOFS. Bytes and values (R7, R45), and the PDUs of a datagram (R87, R512). -/

namespace Sys2Proof

theorem length_leBytes (n v : Nat) : (leBytes n v).length = n := by
  induction n generalizing v with
  | zero => rfl
  | succ n ih => rw [leBytes, List.length_cons, ih]

theorem leNat_lt (bs : List Byte) : leNat bs < 256 ^ bs.length := by
  induction bs with
  | nil => exact Nat.one_pos
  | cons b bs ih =>
    have hb := b.isLt
    rw [leNat, List.length_cons, Nat.pow_succ]
    omega

/-- R7: the bytes of the value that a byte string stands for are that string. -/
theorem leBytes_leNat (bs : List Byte) : leBytes bs.length (leNat bs) = bs := by
  induction bs with
  | nil => rfl
  | cons b bs ih =>
    have hrest : leNat (b :: bs) / 256 = leNat bs := by
      have hb := b.isLt
      rw [leNat]
      omega
    have hfirst : BitVec.ofNat 8 (leNat (b :: bs)) = b := by
      apply BitVec.eq_of_toNat_eq
      have hb := b.isLt
      rw [BitVec.toNat_ofNat, leNat]
      omega
    rw [List.length_cons, leBytes, hrest, hfirst, ih]

/-- R7: n bytes hold a number modulo their range. -/
theorem leNat_leBytes (n v : Nat) : leNat (leBytes n v) = v % 256 ^ n := by
  induction n generalizing v with
  | zero => rw [leBytes, leNat, Nat.pow_zero, Nat.mod_one]
  | succ n ih =>
    have hbyte : (BitVec.ofNat 8 v).toNat = v % 256 := BitVec.toNat_ofNat v 8
    rw [leBytes, leNat, ih, hbyte, Nat.pow_succ', Nat.mod_mul]

theorem leNat_leBytes_of_lt {n v : Nat} (hv : v < 256 ^ n) : leNat (leBytes n v) = v := by
  rw [leNat_leBytes, Nat.mod_eq_of_lt hv]

end Sys2Proof

namespace Sys2Proof.Machine

/-! Values of the dictionary -/

/-- Table 4.1: a type of a fixed size admits that length alone. -/
theorem lengthCheck_u_eq_none {n len : Nat} (hlen : lengthCheck (.u n) len = none) : len = n := by
  obtain hlt | heq | hgt := Nat.lt_trichotomy len n
  · simp [lengthCheck, Ty.size, hlt, Nat.not_lt_of_gt hlt] at hlen
  · exact heq
  · simp [lengthCheck, Ty.size, hgt] at hlen

/-- R7: the bytes of an unsigned number. -/
theorem ofVal_toVal_u {n : Nat} {bs : List Byte} (hlen : bs.length = n) : ofVal (.u n) (toVal (.u n) bs) = bs := by
  rw [toVal, ofVal, Val.toInt, Int.toNat_natCast, ← hlen, leBytes_leNat]

/-- R7: two's complement of n bytes loses nothing of their value. -/
theorem ofVal_toVal_i {n : Nat} {bs : List Byte} (hlen : bs.length = n) : ofVal (.i n) (toVal (.i n) bs) = bs := by
  have hfits : leNat bs < 2 ^ (8 * n) := by
    rw [Nat.pow_mul, ← hlen]
    exact leNat_lt bs
  rw [toVal, ofVal, Val.toInt, BitVec.ofInt_toInt, BitVec.toNat_ofNat, Nat.mod_eq_of_lt hfits, ← hlen, leBytes_leNat]

/-- Settles O7: number by number through its little-endian bytes; a byte string is its own value. -/
theorem dictionaryValuesRoundTrip : Obligations.DictionaryValuesRoundTrip := by
  intro t bs hlen
  cases t with
  | bool => exact ofVal_toVal_u (n := 1) (lengthCheck_u_eq_none (n := 1) hlen)
  | u n => exact ofVal_toVal_u (lengthCheck_u_eq_none hlen)
  | i n => exact ofVal_toVal_i (lengthCheck_u_eq_none (n := n) hlen)
  | octets n => rfl
  | str n => rfl
  | domain n => rfl

/-! PDUs of a datagram -/

/-- R87: the length of a PDU's layout: a header of 8 bytes and the data, padded to a multiple of 4. -/
theorem length_pduWire (p : Pdu) : (pduWire p).length = 8 + (p.data.length + 3) / 4 * 4 := by
  simp only [pduWire, List.length_append, length_leBytes, List.length_replicate, List.length_cons, List.length_nil]
  omega

/-- R87: the layout of a PDU whose fields fit is read back: its length byte, its identifier, its data, and what follows. -/
theorem pduWire_append_fields {p : Pdu} (hp : p.wf = true) (bs : List Byte) :
    (((pduWire p ++ bs)[4]?).getD 0).toNat = p.data.length ∧ leNat ((pduWire p ++ bs).take 4) = pduIdent p
    ∧ ((pduWire p ++ bs).drop 8).take p.data.length = p.data
    ∧ (pduWire p ++ bs).drop (8 + (p.data.length + 3) / 4 * 4) = bs := by
  have hlen : p.data.length < 256 := by
    obtain ⟨-, -, -, -, -, hdata⟩ := (Pdu.wf_iff p).mp hp
    omega
  have hident : pduIdent p < 256 ^ 4 := Nat.lt_trans (pduIdent_lt hp) (by decide)
  have hword : (leBytes 4 (pduIdent p)).length = 4 := length_leBytes _ _
  have hhead : (leBytes 4 (pduIdent p) ++ leBytes 1 p.data.length ++ [0, 0, 0]).length = 8 := by
    simp [length_leBytes]
  refine ⟨?length, ?ident, ?data, List.drop_left' (length_pduWire p)⟩
  case length =>
    have hbyte : (pduWire p ++ bs)[4]? = some (BitVec.ofNat 8 p.data.length) := by
      simp only [pduWire, List.append_assoc]
      rw [List.getElem?_append_right (by omega), hword]
      rfl
    rw [hbyte, Option.getD_some, BitVec.toNat_ofNat, Nat.mod_eq_of_lt hlen]
  case ident =>
    simp only [pduWire, List.append_assoc]
    rw [List.take_left' hword, leNat_leBytes_of_lt hident]
  case data =>
    rw [pduWire, List.append_assoc, List.append_assoc, List.drop_left' hhead, List.take_left]

/-- R512: with no bytes left there are no PDUs left. -/
theorem unwrap_nil (n : Nat) : unwrap n [] = ([], false) := by
  cases n <;> rfl

/-- R512: bytes that are no whole PDU are given up. -/
theorem unwrap_bad {bs : List Byte} (n : Nat) (hne : bs ≠ [])
    (hbad : bs.length < 8 ∨ 64 < ((bs[4]?).getD 0).toNat ∨ bs.length < 8 + (((bs[4]?).getD 0).toNat + 3) / 4 * 4) :
    unwrap (n + 1) bs = ([], true) := by
  have hstop : (decide (bs.length < 8) || decide (((bs[4]?).getD 0).toNat > 64)
      || decide (bs.length < 8 + (((bs[4]?).getD 0).toNat + 3) / 4 * 4)) = true := by
    simp only [Bool.or_eq_true, decide_eq_true_eq, or_assoc]
    exact hbad
  rw [unwrap, if_neg (by simpa using hne)]
  exact if_pos hstop

/-- R87, R512: a PDU in front is read, and then what follows it. -/
theorem unwrap_pduWire_append {p : Pdu} (hp : p.wf = true) (hfd : p.fd = true) (n : Nat) (bs : List Byte) :
    unwrap (n + 1) (pduWire p ++ bs) = (p :: (unwrap n bs).1, (unwrap n bs).2) := by
  obtain ⟨hlen, hident, hdata, hrest⟩ := pduWire_append_fields hp bs
  obtain ⟨-, -, -, -, -, hmax⟩ := (Pdu.wf_iff p).mp hp
  have hwire := length_pduWire p
  have hne : (pduWire p ++ bs).isEmpty = false := by
    rw [List.isEmpty_eq_false_iff, ← List.length_pos_iff, List.length_append]
    omega
  have hgo : (decide ((pduWire p ++ bs).length < 8) || decide (p.data.length > 64)
      || decide ((pduWire p ++ bs).length < 8 + (p.data.length + 3) / 4 * 4)) = false := by
    simp only [List.length_append, hwire, Bool.or_eq_false_iff, decide_eq_false_iff_not]
    omega
  have hpdu : pduOf (pduIdent p) p.data = p := by
    rw [pduOf_pduIdent hp, ← hfd]
  simp only [unwrap, hne, hlen, hgo, hident, hdata, hrest, hpdu, Bool.false_eq_true, if_false]

/-- R512: what the PDUs of a sender are followed by is read after them, given a step for each and those that the rest takes. -/
theorem unwrap_flatMap_pduWire {ps : List Pdu} (hps : ∀ p ∈ ps, p.wf = true ∧ p.fd = true) (n : Nat) (tail : List Byte) :
    unwrap (ps.length + n) (ps.flatMap pduWire ++ tail) = (ps ++ (unwrap n tail).1, (unwrap n tail).2) := by
  induction ps with
  | nil => rw [List.length_nil, Nat.zero_add, List.flatMap_nil, List.nil_append, List.nil_append]
  | cons p ps ih =>
    obtain ⟨⟨hwf, hfd⟩, hrest⟩ := List.forall_mem_cons.mp hps
    rw [List.flatMap_cons, List.append_assoc, List.length_cons, Nat.add_right_comm, unwrap_pduWire_append hwf hfd, ih hrest,
      List.cons_append]

/-- A PDU takes 8 bytes or more, so the receiver's steps are enough for every PDU and one more. -/
theorem length_le_of_flatMap_pduWire (ps : List Pdu) (tail : List Byte) : ps.length ≤ (ps.flatMap pduWire ++ tail).length / 8 := by
  rw [Nat.le_div_iff_mul_le (by decide)]
  induction ps with
  | nil => simp
  | cons p ps ih =>
    have hwire := length_pduWire p
    rw [List.length_cons, List.flatMap_cons, List.append_assoc, List.length_append]
    omega

/-- Settles O9: the receiver takes PDU after PDU off the front, and gives up at the first bytes that are none. -/
theorem datagramPdusUpToTheBadOne : Obligations.DatagramPdusUpToTheBadOne := by
  intro ps tail hps bs
  obtain ⟨n, hn⟩ := Nat.exists_eq_add_of_le (length_le_of_flatMap_pduWire ps tail)
  have hread : unwrap (bs.length / 8 + 1) bs = (ps ++ (unwrap (n + 1) tail).1, (unwrap (n + 1) tail).2) := by
    rw [hn, Nat.add_assoc, unwrap_flatMap_pduWire hps]
  refine ⟨fun hnil => ?whole, fun hne hbad => ?bad⟩
  case whole => rw [hread, hnil, unwrap_nil, List.append_nil]
  case bad => rw [hread, unwrap_bad n hne hbad, List.append_nil]

end Sys2Proof.Machine
end

section
/-! PROOFS. The Hearth (R91, R92, R99): a byte reads what was last written, and an admission reserves its share in every group in service. -/

namespace Sys2Proof.Machine

/-! Sums and tables -/

theorem foldl_add_eq_sum {α : Type} (f : α → Nat) (l : List α) (n : Nat) : l.foldl (fun a x => a + f x) n = n + (l.map f).sum := by
  induction l generalizing n with
  | nil => rfl
  | cons x l ih => rw [List.foldl_cons, ih, List.map_cons, List.sum_cons, Nat.add_assoc]

theorem sumOf_eq_sum {α : Type} (f : α → Nat) (l : List α) : sumOf f l = (l.map f).sum := by
  rw [sumOf, foldl_add_eq_sum, Nat.zero_add]

/-- A table lists what it gives. -/
theorem mem_of_mget?_eq_some {α : Type} {m : SMap α} {k : Nat} {v : α} (h : mget? m k = some v) : (k, v) ∈ m := by
  induction m with
  | nil => cases h
  | cons c r ih =>
    rw [mget?] at h
    split at h
    case isTrue hk =>
      obtain rfl := eq_of_beq hk
      obtain rfl := Option.some.inj h
      exact List.mem_cons_self
    case isFalse => exact List.mem_cons_of_mem _ (ih h)

/-- A table that is computed over a list of keys gives the value of every key listed, and none of another. -/
theorem mget?_map_keys {α : Type} (ks : List Nat) (f : Nat → α) (k : Nat) :
    mget? (ks.map (fun x => (x, f x))) k = if k ∈ ks then some (f k) else none := by
  induction ks with
  | nil => rfl
  | cons x ks ih =>
    rw [List.map_cons, mget?, ih]
    by_cases hx : x = k
    case pos => subst hx; simp
    case neg => simp [hx, Ne.symm hx]

/-! Bytes -/

/-- R92: a content in canonical form lists no address above the part's rows. -/
theorem memByte_of_hearthBytes_le {p : Part} {m : List Host.Cell} {a : Nat} (hm : Memory.wf p m = true) (ha : p.hearthBytes ≤ a) :
    memByte m a = 0 := by
  obtain ⟨-, hcells⟩ := (Memory.wf_iff p m).mp hm
  cases hlisted : mget? m a with
  | none => rw [memByte, hlisted, Option.getD_none]
  | some b => exact absurd (hcells _ (mem_of_mget?_eq_some hlisted)).2 (Nat.not_lt_of_le ha)

theorem memStore_of_lt {p : Part} {a : Nat} (ha : a < p.hearthBytes) (m : List Host.Cell) (b : Byte) : memStore p m a b = memPut m a b :=
  if_pos ha

theorem memStore_of_hearthBytes_le {p : Part} {a : Nat} (ha : p.hearthBytes ≤ a) (m : List Host.Cell) (b : Byte) : memStore p m a b = m :=
  if_neg (Nat.not_lt_of_le ha)

/-- Settles O17: within the rows a store is a put, above them it does nothing. -/
theorem hearthReadsWhatWasWritten : Obligations.HearthReadsWhatWasWritten := by
  intro p m a a' b hm
  refine ⟨fun ha => ?read, memByte_memStore_other p m a a' b,
    fun ha => ⟨memStore_of_hearthBytes_le ha m b, memByte_of_hearthBytes_le hm ha⟩, Memory.wf_memStore p m a b hm⟩
  case read => rw [memStore_of_lt ha, memByte_memPut_same]

/-! Admission -/

theorem sum_map_const {α : Type} (l : List α) (c : Nat) : (l.map (fun _ => c)).sum = l.length * c := by
  induction l with
  | nil => rw [List.map_nil, List.sum_nil, List.length_nil, Nat.zero_mul]
  | cons x l ih => rw [List.map_cons, List.sum_cons, ih, List.length_cons, Nat.succ_mul, Nat.add_comm]

/-- R99: the groups' shares together are no less than the frame. -/
theorem le_mul_ceilDiv {n g : Nat} (hg : 0 < g) : n ≤ g * ceilDiv n g := by
  have hdiv := Nat.lt_div_mul_add (a := n + g - 1) hg
  rw [ceilDiv, Nat.mul_comm]
  omega

/-- Settles O19: the table of reservations is computed over the groups in service. -/
theorem admissionReservesInEveryGroup : Obligations.AdmissionReservesInEveryGroup := by
  intro h n g
  refine ⟨fun hg => ?inService, fun hg => ?outOfService, fun hne => ?cover⟩
  case inService => rw [mget, reservations, mget?_map_keys, if_pos hg, Option.getD_some, perGroup, ceilDiv]
  case outOfService => rw [mget, reservations, mget?_map_keys, if_neg hg, Option.getD_none]
  case cover =>
    have hsum : sumOf (fun x => x.2) (reservations h n) = (groupsIn h).length * perGroup h n := by
      rw [sumOf_eq_sum, reservations, List.map_map]
      exact sum_map_const (groupsIn h) (perGroup h n)
    rw [hsum]
    exact le_mul_ceilDiv (List.length_pos_iff.mpr hne)

end Sys2Proof.Machine
end

section
/-! PROOFS. The Flow Table, Damper and allotment: the order of a lookup (R138, R139), refills (R145), deficit round robin (R164) and
water filling (R208). -/

namespace Sys2Proof.Machine

/-! Lookups -/

/-- R138: the four positions of a bucket are those from its first. -/
theorem bucketPositions_eq (key : List Byte) : bucketPositions key =
    [bucket0 key, bucket0 key + 1, bucket0 key + 2, bucket0 key + 3, bucket1 key, bucket1 key + 1, bucket1 key + 2, bucket1 key + 3] := rfl

/-- Where an exact entry holds the key. -/
def exactHolds (h : Hub) (key : List Byte) (p : Nat) : Prop :=
  p ∈ bucketPositions key ∧ getB h (at_ p Obj.EX_E_VALID) = true ∧ getBytes h (at_ p Obj.EX_E_KEY) = key

/-- Where a valid wildcard entry matches the key. -/
def wildHolds (h : Hub) (key : List Byte) (p : Nat) : Prop :=
  p ∈ validWild h ∧ andBytes key (getBytes h (at_ p Obj.WC_W_MASK)) = getBytes h (at_ p Obj.WC_E_KEY)

theorem exactHolds_of_exactMatch {h : Hub} {key : List Byte} {p : Nat} (hp : exactMatch h key = some p) : exactHolds h key p := by
  have hmem := List.mem_of_find?_eq_some hp
  have hholds := List.find?_some hp
  simp only [Bool.and_eq_true, beq_iff_eq] at hholds
  exact ⟨hmem, hholds⟩

theorem not_exactHolds_of_exactMatch_eq_none {h : Hub} {key : List Byte} (hnone : exactMatch h key = none) (q : Nat) : ¬ exactHolds h key q := by
  rintro ⟨hmem, hholds⟩
  have hq := List.find?_eq_none.mp hnone q hmem
  simp [hholds] at hq

/-- R139: the search for a valid wildcard entry. -/
def wildMatch (h : Hub) (key : List Byte) : Option Nat :=
  (validWild h).find? (fun p => andBytes key (getBytes h (at_ p Obj.WC_W_MASK)) == getBytes h (at_ p Obj.WC_E_KEY))

theorem lookup_of_exactMatch_eq_some {h : Hub} {key : List Byte} {p : Nat} (hp : exactMatch h key = some p) : lookup h key = .exact p := by
  simp only [lookup, hp]

theorem lookup_of_wildMatch_eq_some {h : Hub} {key : List Byte} {p : Nat} (hnone : exactMatch h key = none) (hp : wildMatch h key = some p) :
    lookup h key = .wild p := by
  rw [wildMatch] at hp
  simp only [lookup, hnone, hp]

theorem lookup_of_wildMatch_eq_none {h : Hub} {key : List Byte} (hnone : exactMatch h key = none) (hmiss : wildMatch h key = none) :
    lookup h key = .miss := by
  rw [wildMatch] at hmiss
  simp only [lookup, hnone, hmiss]

/-- R139: on a dictionary in order, the valid wildcard positions ascend. -/
theorem validWild_pairwise {h : Hub} (hd : sorted h.dict = true) : (validWild h).Pairwise (· ≤ ·) := by
  rw [validWild, List.pairwise_map]
  refine ((sorted_iff h.dict).mp hd).filter _ |>.imp fun hlt => ?_
  exact Nat.div_le_div_right (Nat.le_of_lt hlt)

/-- The first element that a search of an ascending list finds is the lowest that it could find. -/
theorem le_of_find?_eq_some {l : List Nat} {f : Nat → Bool} {p q : Nat} (hl : l.Pairwise (· ≤ ·)) (hp : l.find? f = some p) (hq : q ∈ l)
    (hf : f q = true) : p ≤ q := by
  induction l with
  | nil => cases hq
  | cons x l ih =>
    obtain ⟨hx, hl⟩ := List.pairwise_cons.mp hl
    rw [List.find?_cons] at hp
    split at hp
    case h_1 =>
      obtain rfl := Option.some.inj hp
      obtain rfl | hq := List.mem_cons.mp hq
      · exact Nat.le_refl q
      · exact hx q hq
    case h_2 hno =>
      obtain rfl | hq := List.mem_cons.mp hq
      · simp [hf] at hno
      · exact ih hl hp hq

theorem wildHolds_of_wildMatch {h : Hub} {key : List Byte} {p : Nat} (hp : wildMatch h key = some p) : wildHolds h key p :=
  ⟨List.mem_of_find?_eq_some hp, eq_of_beq (List.find?_some hp :)⟩

theorem le_of_wildMatch {h : Hub} {key : List Byte} {p q : Nat} (hd : sorted h.dict = true) (hp : wildMatch h key = some p)
    (hq : wildHolds h key q) : p ≤ q :=
  le_of_find?_eq_some (validWild_pairwise hd) hp hq.1 (beq_iff_eq.mpr hq.2)

theorem not_wildHolds_of_wildMatch_eq_none {h : Hub} {key : List Byte} (hnone : wildMatch h key = none) (q : Nat) : ¬ wildHolds h key q := by
  rintro ⟨hmem, hmatch⟩
  exact List.find?_eq_none.mp hnone q hmem (beq_iff_eq.mpr hmatch)

/-- Settles O23: the exact search, then the wildcard search in ascending order. -/
theorem lookupOrder : Obligations.LookupOrder := by
  refine ⟨fun key => ⟨crc32 polyC key % 1024, crc32 polyIeee key % 1024, Nat.mod_lt _ (by decide), Nat.mod_lt _ (by decide),
    bucketPositions_eq key, rfl, rfl⟩, fun h key hd => ?_⟩
  change (∀ p, lookup h key = .exact p → exactHolds h key p)
    ∧ (∀ p, lookup h key = .wild p → (∀ q, ¬ exactHolds h key q) ∧ wildHolds h key p ∧ ∀ q, wildHolds h key q → p ≤ q)
    ∧ (lookup h key = .miss → (∀ q, ¬ exactHolds h key q) ∧ ∀ q, ¬ wildHolds h key q)
  cases hexact : exactMatch h key with
  | some p =>
    rw [lookup_of_exactMatch_eq_some hexact]
    refine ⟨fun q hq => ?_, fun q hq => (nomatch hq), fun hq => (nomatch hq)⟩
    obtain rfl := Hit.exact.inj hq
    exact exactHolds_of_exactMatch hexact
  | none =>
    cases hwild : wildMatch h key with
    | some p =>
      rw [lookup_of_wildMatch_eq_some hexact hwild]
      refine ⟨fun q hq => (nomatch hq), fun q hq => ?_, fun hq => (nomatch hq)⟩
      obtain rfl := Hit.wild.inj hq
      exact ⟨not_exactHolds_of_exactMatch_eq_none hexact, wildHolds_of_wildMatch hwild, fun _ => le_of_wildMatch hd hwild⟩
    | none =>
      rw [lookup_of_wildMatch_eq_none hexact hwild]
      exact ⟨fun q hq => (nomatch hq), fun q hq => (nomatch hq),
        fun _ => ⟨not_exactHolds_of_exactMatch_eq_none hexact, not_wildHolds_of_wildMatch_eq_none hwild⟩⟩

/-! Refills -/

/-- R145: a refill at an instant in between changes nothing of what a later one gives. -/
theorem refill_refill {b : Bucket} {t1 t2 : Nat} (rate size : Nat) (h1 : b.last ≤ t1) (h2 : t1 ≤ t2) :
    refill (refill b rate size t1) rate size t2 = refill b rate size t2 := by
  have hsplit : rate * (t2 - b.last) = rate * (t1 - b.last) + rate * (t2 - t1) := by
    rw [← Nat.mul_add]
    congr 1
    omega
  simp only [refill, hsplit, Bucket.mk.injEq, and_true]
  omega

/-- Settles O25: a refill is the smaller of the size and what the bucket held with what it gained. -/
theorem refillGainsItsRateUpToTheSize : Obligations.RefillGainsItsRateUpToTheSize := by
  intro b rate size t1 t2
  exact ⟨Int.min_le_right _ _, rfl, refill_refill rate size⟩

/-! Deficit round robin -/

theorem headD_mem {e : List Nat} (he : e ≠ []) (d : Nat) : e.headD d ∈ e := by
  obtain ⟨x, e, rfl⟩ := List.exists_cons_of_ne_nil he
  exact List.mem_cons_self

theorem nextAfter_mem {e : List Nat} (he : e ≠ []) (x : Nat) : nextAfter e x ∈ e := by
  unfold nextAfter
  split
  case h_1 y hy => exact List.mem_of_find?_eq_some hy
  case h_2 => exact headD_mem he 0

/-- R164: the loop goes from member to member. -/
theorem dwrrLoop_fst_mem {e : List Nat} {quantum len : Nat → Nat} {x : Nat} (n : Nat) (d : SMap Int) (hx : x ∈ e) :
    (dwrrLoop e quantum len n x d).1 ∈ e := by
  induction n generalizing x d with
  | zero => exact hx
  | succ n ih =>
    rw [dwrrLoop]
    dsimp only
    split
    · exact hx
    · exact ih _ (nextAfter_mem (List.ne_nil_of_mem hx) x)

/-- R164: the member at which a round starts: the one that its pointer stands at, if that is eligible, and the next one otherwise. -/
def dwrrStart (ptr : Option Nat) (e : List Nat) : Nat :=
  if (match ptr with
    | some x => e.contains x
    | none => false) then ptr.getD 0
  else match ptr with
    | some x => nextAfter e x
    | none => e.headD 0

theorem dwrrStart_mem {e : List Nat} (he : e ≠ []) (ptr : Option Nat) : dwrrStart ptr e ∈ e := by
  cases ptr with
  | none => exact headD_mem he 0
  | some x =>
    simp only [dwrrStart, Option.getD_some]
    split
    case isTrue hx => exact List.contains_iff_mem.mp hx
    case isFalse => exact nextAfter_mem he x

theorem dwrrPick_nil (n : Dwrr) (excess : Bool) (quantum len : Nat → Nat) : dwrrPick n excess [] quantum len = none := rfl

/-- R164: what a pick answers: where the loop ends, at the pointer and deficits of its own round. -/
theorem dwrrPick_of_ne_nil {e : List Nat} (he : e ≠ []) (n : Dwrr) (excess : Bool) (quantum len : Nat → Nat) :
    ∃ d0, let r := dwrrLoop e quantum len (18 * e.length + 1) (dwrrStart (if excess then n.ptrE else n.ptrC) e) d0
      dwrrPick n excess e quantum len
        = some (r.1, if excess then { n with ptrE := some r.1, defE := r.2 } else { n with ptrC := some r.1, defC := r.2 }) := by
  have hne : e.isEmpty = false := List.isEmpty_eq_false_iff.mpr he
  unfold dwrrPick
  rw [hne]
  exact ⟨_, rfl⟩

/-- Settles O26: the round starts at a member and goes from member to member. -/
theorem dwrrPicksAnEligibleMember : Obligations.DwrrPicksAnEligibleMember := by
  intro n excess e quantum len
  refine ⟨fun he => he ▸ dwrrPick_nil n excess quantum len, fun he => ?_⟩
  obtain ⟨d0, hpick⟩ := dwrrPick_of_ne_nil he n excess quantum len
  refine ⟨_, _, hpick, dwrrLoop_fst_mem _ d0 (dwrrStart_mem he _), ?_⟩
  cases excess <;> simp

/-! Water filling -/

/-- What the members of a list hold together. -/
def held (g : SMap Nat) (xs : List Nat) : Nat := sumOf (fun x => mget g 0 x) xs

theorem held_cons (g : SMap Nat) (x : Nat) (xs : List Nat) : held g (x :: xs) = mget g 0 x + held g xs := by
  rw [held, held, sumOf_eq_sum, sumOf_eq_sum, List.map_cons, List.sum_cons]

theorem held_congr {g g' : SMap Nat} {xs : List Nat} (h : ∀ x ∈ xs, mget g' 0 x = mget g 0 x) : held g' xs = held g xs := by
  rw [held, held, sumOf_eq_sum, sumOf_eq_sum, List.map_congr_left h]

/-- A member's gain is the list's gain, if the list names it once. -/
theorem held_mset_add {g : SMap Nat} {xs : List Nat} {x : Nat} (s : Nat) (hxs : xs.Nodup) (hx : x ∈ xs) :
    held (mset g x (mget g 0 x + s)) xs = held g xs + s := by
  induction xs with
  | nil => cases hx
  | cons y xs ih =>
    obtain ⟨hy, hxs⟩ := List.nodup_cons.mp hxs
    rw [held_cons, held_cons]
    by_cases hxy : y = x
    case pos =>
      subst hxy
      rw [mget_mset_same, held_congr fun z hz => mget_mset_other g 0 y z _ fun hzy => hy (hzy ▸ hz)]
      omega
    case neg =>
      rw [mget_mset_other g 0 x y _ hxy, ih hxs ((List.mem_cons.mp hx).resolve_left (Ne.symm hxy))]
      omega

/-- Between rounds: what the members hold and what is left are no more than the amount, and no member holds more than its room. -/
structure FillOk (room : Nat → Nat) (xs : List Nat) (amount : Nat) (g : SMap Nat) (left : Nat) : Prop where
  total : held g xs + left ≤ amount
  rooms : ∀ x ∈ xs, mget g 0 x ≤ room x

/-- A member takes what its room and what is left allow. -/
theorem FillOk.take {room : Nat → Nat} {xs : List Nat} {amount left s x : Nat} {g : SMap Nat} (hok : FillOk room xs amount g left)
    (hxs : xs.Nodup) (hx : x ∈ xs) (hroom : mget g 0 x + s ≤ room x) (hleft : s ≤ left) :
    FillOk room xs amount (mset g x (mget g 0 x + s)) (left - s) where
  total := by
    have htotal := hok.total
    rw [held_mset_add s hxs hx]
    omega
  rooms y hy := by
    by_cases hyx : y = x
    case pos => subst hyx; rwa [mget_mset_same]
    case neg => rw [mget_mset_other g 0 x y _ hyx]; exact hok.rooms y hy

/-- R208: the shares of a round's weights are no more than what it began with. -/
theorem sum_shares_le (a0 : Nat) (wt : Nat → Nat) (l : List Nat) : sumOf (fun x => a0 * wt x / sumOf wt l) l ≤ a0 := by
  have hdiv (w : Nat) (l : List Nat) : (l.map (fun x => a0 * wt x / w)).sum ≤ a0 * (l.map wt).sum / w := by
    induction l with
    | nil => simp
    | cons x l ih =>
      rw [List.map_cons, List.sum_cons, List.map_cons, List.sum_cons, Nat.mul_add]
      exact Nat.le_trans (Nat.add_le_add_left ih _) (Nat.div_add_div_le_add_div)
  rw [sumOf_eq_sum, sumOf_eq_sum]
  exact Nat.le_trans (hdiv _ l) (Nat.div_le_of_le_mul (Nat.le_of_eq (Nat.mul_comm _ _)))

theorem fillRound_ok {room wt : Nat → Nat} {xs l : List Nat} {amount a0 w left : Nat} {g : SMap Nat} {rose : Bool} (hxs : xs.Nodup)
    (hl : ∀ x ∈ l, x ∈ xs) (hshares : sumOf (fun x => a0 * wt x / w) l ≤ left) (hok : FillOk room xs amount g left) :
    FillOk room xs amount (fillRound a0 w room wt l g left rose).1 (fillRound a0 w room wt l g left rose).2.1 := by
  induction l generalizing g left rose with
  | nil => exact hok
  | cons x l ih =>
    rw [sumOf_eq_sum, List.map_cons, List.sum_cons, ← sumOf_eq_sum] at hshares
    obtain ⟨hx, hl⟩ := List.forall_mem_cons.mp hl
    have hroom := hok.rooms x hx
    exact ih hl (by omega) (hok.take hxs hx (by omega) (by omega))

/-- R208: a round in which no share rose changes no member's share. -/
theorem fillRound_of_not_rose {room wt : Nat → Nat} {l : List Nat} {a0 w left : Nat} {g : SMap Nat} {rose : Bool}
    (hrose : (fillRound a0 w room wt l g left rose).2.2 = false) (y : Nat) :
    rose = false ∧ mget (fillRound a0 w room wt l g left rose).1 0 y = mget g 0 y := by
  induction l generalizing g left rose with
  | nil => exact ⟨hrose, rfl⟩
  | cons x l ih =>
    obtain ⟨hsame, hrest⟩ := ih hrose
    obtain ⟨hbefore, hzero⟩ := Bool.or_eq_false_iff.mp hsame
    have hs : min (a0 * wt x / w) (room x - mget g 0 x) = 0 := Nat.eq_zero_of_not_pos (of_decide_eq_false hzero)
    refine ⟨hbefore, hrest.trans ?_⟩
    rw [hs, Nat.add_zero]
    by_cases hyx : y = x
    case pos => rw [hyx, mget_mset_same]
    case neg => rw [mget_mset_other g 0 x y _ hyx]

theorem fillOnes_ok {room : Nat → Nat} {xs l : List Nat} {amount left : Nat} {g : SMap Nat} (hxs : xs.Nodup) (hnodup : l.Nodup)
    (hl : ∀ x ∈ l, x ∈ xs) (hopen : ∀ x ∈ l, mget g 0 x < room x) (hok : FillOk room xs amount g left) :
    FillOk room xs amount (fillOnes l g left).1 (fillOnes l g left).2 := by
  induction l generalizing g left with
  | nil => exact hok
  | cons x l ih =>
    obtain ⟨hx, hl⟩ := List.forall_mem_cons.mp hl
    obtain ⟨hxroom, hopen⟩ := List.forall_mem_cons.mp hopen
    obtain ⟨hnotin, hnodup⟩ := List.nodup_cons.mp hnodup
    rw [fillOnes]
    split
    case isTrue hleft => exact eq_of_beq hleft ▸ hok
    case isFalse hleft =>
      have hpos : 0 < left := Nat.pos_of_ne_zero fun hzero => hleft (beq_iff_eq.mpr hzero)
      refine ih hnodup hl (fun y hy => ?_) (hok.take hxs hx hxroom hpos)
      rw [mget_mset_other g 0 x y _ fun hyx => hnotin (hyx ▸ hy)]
      exact hopen y hy

/-- R208: every round keeps within the amount and the rooms, and leaves open only members with room. -/
theorem fillLoop_ok {room wt : Nat → Nat} {xs l : List Nat} {amount left : Nat} {g : SMap Nat} (n : Nat) (hxs : xs.Nodup) (hnodup : l.Nodup)
    (hl : ∀ x ∈ l, x ∈ xs) (hopen : ∀ x ∈ l, mget g 0 x < room x) (hok : FillOk room xs amount g left) :
    ∃ rest, FillOk room xs amount (fillLoop room wt n l g left) rest := by
  induction n generalizing l g left with
  | zero => exact ⟨left, hok⟩
  | succ n ih =>
    rw [fillLoop]
    split
    case isTrue => exact ⟨left, hok⟩
    case isFalse =>
      have hround := fillRound_ok (rose := false) hxs hl (sum_shares_le left wt l) hok
      have hopenLeft (g' : SMap Nat) : ∀ x ∈ l.filter (fun x => decide (mget g' 0 x < room x)), x ∈ xs ∧ mget g' 0 x < room x :=
        fun x hx => (List.mem_filter.mp hx).imp (hl x) of_decide_eq_true
      dsimp only
      refine ih (hnodup.filter _) (fun x hx => (hopenLeft _ x hx).1) (fun x hx => (hopenLeft _ x hx).2) ?_
      split
      case isTrue => exact hround
      case isFalse hrose =>
        refine fillOnes_ok hxs hnodup hl (fun x hx => ?_) hround
        rw [(fillRound_of_not_rose (Bool.not_eq_true _ ▸ hrose) x).2]
        exact hopen x hx

/-- Settles O27: every round of the loop keeps within the amount and the rooms. -/
theorem waterfillNeverOverGrants : Obligations.WaterfillNeverOverGrants := by
  intro amount xs room wt hxs
  have hstart : FillOk room xs amount [] amount := by
    refine ⟨?_, fun x _ => Nat.zero_le _⟩
    have hzero : held [] xs = 0 := by
      rw [held, sumOf_eq_sum]
      exact sum_map_const xs 0
    exact Nat.le_of_eq (by rw [hzero, Nat.zero_add])
  obtain ⟨rest, hok⟩ := fillLoop_ok (wt := wt) (4 * xs.length + 8) hxs (hxs.filter (fun x => decide (room x > 0)))
    (fun x hx => (List.mem_filter.mp hx).1) (fun x hx => of_decide_eq_true (List.mem_filter.mp hx).2) hstart
  exact ⟨Nat.le_trans (Nat.le_add_right _ rest) hok.total, hok.rooms⟩

end Sys2Proof.Machine
end

section
/-! PROOFS. Adaptive coding (R257, R258): a Rice code is read back, the decoder predicts what the coder predicted, and the clamp to the
sample range never leaves the bound, so a row group decodes to its samples within the bound, whatever parameter it was written with. -/

namespace Sys2Proof.Machine

/-! Quantised residuals (R257) -/

/-- R257: a residual lies within the bound of what its quantised value stands for. -/
theorem quantise_within (e : Nat) (r : Int) : -(e : Int) ≤ r - quantise e r * ((2 * e + 1 : Nat) : Int)
    ∧ r - quantise e r * ((2 * e + 1 : Nat) : Int) ≤ e := by
  have hlow : (r.natAbs + e) / (2 * e + 1) * (2 * e + 1) ≤ r.natAbs + e := Nat.div_mul_le_self _ _
  have hhigh : r.natAbs + e < (r.natAbs + e) / (2 * e + 1) * (2 * e + 1) + (2 * e + 1) := Nat.lt_div_mul_add (Nat.succ_pos _)
  have hmul : quantise e r * ((2 * e + 1 : Nat) : Int) = r.sign * (((r.natAbs + e) / (2 * e + 1) * (2 * e + 1) : Nat) : Int) := by
    rw [quantise, Int.mul_assoc, ← Int.natCast_mul]
  rw [hmul]
  obtain hneg | rfl | hpos := Int.lt_trichotomy r 0
  · rw [Int.sign_eq_neg_one_of_neg hneg]
    omega
  · simp
  · rw [Int.sign_eq_one_of_pos hpos]
    omega

/-- R257: a quantised value is the only one whose multiple lies within the bound. -/
theorem quantise_eq_of_within {e : Nat} {r q : Int} (hlow : -(e : Int) ≤ r - q * ((2 * e + 1 : Nat) : Int))
    (hhigh : r - q * ((2 * e + 1 : Nat) : Int) ≤ e) : quantise e r = q := by
  obtain ⟨hlow', hhigh'⟩ := quantise_within e r
  have hdiff : ((quantise e r - q) * ((2 * e + 1 : Nat) : Int)).natAbs < 2 * e + 1 := by
    rw [Int.sub_mul]
    omega
  rw [Int.natAbs_mul, Int.natAbs_natCast] at hdiff
  rcases Nat.eq_zero_or_pos (quantise e r - q).natAbs with hzero | hpos
  · omega
  · have hone := Nat.le_mul_of_pos_left (2 * e + 1) hpos
    omega

/-- R257: a quantised value is no larger than its residual. -/
theorem natAbs_quantise_le (e : Nat) (r : Int) : (quantise e r).natAbs ≤ r.natAbs := by
  have hdiv : (r.natAbs + e) / (2 * e + 1) ≤ r.natAbs := by
    rw [Nat.div_le_iff_le_mul_add_pred (Nat.succ_pos _), Nat.add_one_mul]
    omega
  rw [quantise, Int.natAbs_mul, Int.natAbs_natCast]
  obtain hneg | rfl | hpos := Int.lt_trichotomy r 0
  · rwa [Int.sign_eq_neg_one_of_neg hneg, Int.natAbs_neg, Int.natAbs_one, Nat.one_mul]
  · simp
  · rwa [Int.sign_eq_one_of_pos hpos, Int.natAbs_one, Nat.one_mul]

/-- R257: the map of residuals to codes loses nothing. -/
theorem unmapRes_mapRes (q : Int) : unmapRes (mapRes q) = q := by
  unfold unmapRes mapRes
  split <;> split <;> simp only [beq_iff_eq] at * <;> omega

theorem mapRes_le (q : Int) : mapRes q ≤ 2 * q.natAbs := by
  unfold mapRes
  split <;> omega

/-! One sample (R257) -/

theorem nth_lt {l : List Nat} {m : Nat} (hl : ∀ x ∈ l, x < m) (hm : 0 < m) (i : Nat) : nth l i 0 < m := by
  unfold nth
  cases hget : l[i]? with
  | none => exact hm
  | some x => exact hl x (List.mem_of_getElem? hget)

/-- R257: a prediction from samples of the range lies in the range. -/
theorem predict_mem {d : Nat} {above : Option (List Nat)} {left : List Nat} (hd : 0 < d) (habove : ∀ r ∈ above, ∀ x ∈ r, x < 2 ^ d)
    (hleft : ∀ x ∈ left, x < 2 ^ d) : 0 ≤ predict d above left ∧ predict d above left < ((2 ^ d : Nat) : Int) := by
  have hpos := Nat.two_pow_pos d
  have hhalf : 2 ^ (d - 1) < 2 ^ d := Nat.pow_lt_pow_right (by decide) (Nat.sub_one_lt (Nat.ne_of_gt hd))
  unfold predict
  match above, left with
  | none, [] => exact ⟨Int.natCast_nonneg _, Int.ofNat_lt.mpr hhalf⟩
  | none, a :: _ =>
    have ha := hleft a List.mem_cons_self
    dsimp only
    omega
  | some r, [] =>
    have hb := nth_lt (habove r rfl) hpos 0
    dsimp only
    omega
  | some r, a :: left =>
    have ha := hleft a List.mem_cons_self
    have hb := nth_lt (habove r rfl) hpos (a :: left).length
    have hc := nth_lt (habove r rfl) hpos ((a :: left).length - 1)
    dsimp only
    split
    · omega
    · split <;> omega

theorem rebuild_lt (d e : Nat) (p q : Int) : rebuild d e p q < 2 ^ d := by
  have hpos := Nat.two_pow_pos d
  unfold rebuild
  omega

/-- R257: the sample that the decoder rebuilds lies within the bound, and passes the decoder's check: the clamp moves it towards the
source, so it never leaves the residual's own interval. -/
theorem rebuild_quantise {d e x : Nat} {p : Int} (hx : x < 2 ^ d) :
    let y := rebuild d e p (quantise e ((x : Int) - p))
    y ≤ x + e ∧ x ≤ y + e ∧ quantise e ((y : Int) - p) = quantise e ((x : Int) - p) := by
  obtain ⟨hlow, hhigh⟩ := quantise_within e ((x : Int) - p)
  have hy : ((rebuild d e p (quantise e ((x : Int) - p)) : Nat) : Int)
      = min (max (p + quantise e ((x : Int) - p) * ((2 * e + 1 : Nat) : Int)) 0) ((2 ^ d - 1 : Nat) : Int) := by
    unfold rebuild
    omega
  refine ⟨by omega, by omega, quantise_eq_of_within ?_ ?_⟩ <;> omega

/-- R257: what is coded of a sample of the range fits the d + 1 bits of the longest code. -/
theorem mapRes_quantise_lt {d x : Nat} {p : Int} (e : Nat) (hx : x < 2 ^ d) (hp : 0 ≤ p ∧ p < ((2 ^ d : Nat) : Int)) :
    mapRes (quantise e ((x : Int) - p)) < 2 ^ (d + 1) := by
  have hmap := mapRes_le (quantise e ((x : Int) - p))
  have hq := natAbs_quantise_le e ((x : Int) - p)
  rw [Nat.pow_succ]
  omega

/-! One Rice code (R257) -/

theorem findIdx_not_replicate_append (m : Nat) (l : List Bool) : (List.replicate m true ++ false :: l).findIdx (fun b => !b) = m := by
  induction m with
  | zero => rfl
  | succ m ih => simp [List.replicate_succ, List.findIdx_cons, ih]

/-- A short code is read back: m ones, a zero, and k bits. -/
theorem unrice_short {d k m v : Nat} (hm : m < 24) (hv : v < 2 ^ k) (rest : List Bool) :
    unrice d k (List.replicate m true ++ false :: (bitsMsb k v ++ rest)) = some (m * 2 ^ k + v, rest) := by
  have htake : (List.replicate m true ++ false :: (bitsMsb k v ++ rest)).take 24
      = List.replicate m true ++ false :: (bitsMsb k v ++ rest).take (23 - m) := by
    obtain ⟨j, hj⟩ := Nat.exists_eq_add_of_lt hm
    rw [hj, Nat.add_assoc, List.take_append, List.length_replicate, Nat.add_sub_cancel_left, List.take_of_length_le (by simp),
      List.take_succ_cons, show 23 - m = j by omega]
  have hall : (List.replicate m true ++ false :: (bitsMsb k v ++ rest).take (23 - m)).all id = false := by simp
  have hdrop : (List.replicate m true ++ false :: (bitsMsb k v ++ rest)).drop (m + 1) = bitsMsb k v ++ rest := by
    rw [List.append_cons]
    exact List.drop_left' (by simp)
  have hlen : ¬ (List.replicate m true ++ false :: (bitsMsb k v ++ rest)).length < m + 1 + k := by
    simp only [List.length_append, List.length_cons, List.length_replicate, length_bitsMsb]
    omega
  have hshort : (m == 24) = false := beq_eq_false_iff_ne.mpr (Nat.ne_of_lt hm)
  simp only [unrice, htake, hall, findIdx_not_replicate_append, hshort, Bool.false_eq_true, if_false, hlen, hdrop,
    List.take_left' (length_bitsMsb k v), List.drop_left' (length_bitsMsb k v), bitsVal_bitsMsb_of_lt hv]

/-- A long code is read back: 24 ones and d + 1 bits. -/
theorem unrice_long {d u : Nat} (k : Nat) (hu : u < 2 ^ (d + 1)) (rest : List Bool) :
    unrice d k (List.replicate 24 true ++ (bitsMsb (d + 1) u ++ rest)) = some (u, rest) := by
  have htake : (List.replicate 24 true ++ (bitsMsb (d + 1) u ++ rest)).take 24 = List.replicate 24 true :=
    List.take_left' List.length_replicate
  have hall : (List.replicate 24 true).all id = true := rfl
  have hdrop : (List.replicate 24 true ++ (bitsMsb (d + 1) u ++ rest)).drop 24 = bitsMsb (d + 1) u ++ rest :=
    List.drop_left' List.length_replicate
  have hdropAll : (List.replicate 24 true ++ (bitsMsb (d + 1) u ++ rest)).drop (25 + d) = rest := by
    rw [show 25 + d = 24 + (d + 1) by omega, ← List.drop_drop, hdrop, List.drop_left' (length_bitsMsb _ _)]
  have hlen : ¬ (List.replicate 24 true ++ (bitsMsb (d + 1) u ++ rest)).length < 24 + d + 1 := by
    simp only [List.length_append, List.length_replicate, length_bitsMsb]
    omega
  simp only [unrice, htake, hall, if_true, beq_self_eq_true, hlen, if_false, hdrop, hdropAll, List.take_left' (length_bitsMsb (d + 1) u),
    bitsVal_bitsMsb_of_lt hu]

/-- R257: a Rice code is read back, and leaves what follows it. -/
theorem unrice_rice_append {d u : Nat} (k : Nat) (hu : u < 2 ^ (d + 1)) (rest : List Bool) :
    unrice d k (rice d k u ++ rest) = some (u, rest) := by
  unfold rice
  dsimp only
  split
  case isTrue hm =>
    have hsplit : u / 2 ^ k * 2 ^ k + u % 2 ^ k = u := Nat.div_add_mod' u (2 ^ k)
    rw [List.append_assoc, List.append_assoc, List.singleton_append, unrice_short hm (Nat.mod_lt _ (Nat.two_pow_pos k)), hsplit]
  case isFalse => rw [List.append_assoc, unrice_long k hu]

/-! One row (R257) -/

/-- Within the bound, and of the sample range. -/
def decodesTo (d e x y : Nat) : Prop := y ≤ x + e ∧ x ≤ y + e ∧ y < 2 ^ d

/-- As many samples, each within the bound of its source. -/
inductive AllDecodeTo (d e : Nat) : List Nat → List Nat → Prop
  | nil : AllDecodeTo d e [] []
  | cons {x y : Nat} {xs ys : List Nat} (head : decodesTo d e x y) (tail : AllDecodeTo d e xs ys) : AllDecodeTo d e (x :: xs) (y :: ys)

theorem AllDecodeTo.length_eq {d e : Nat} {xs ys : List Nat} (h : AllDecodeTo d e xs ys) : ys.length = xs.length := by
  induction h with
  | nil => rfl
  | cons _ _ ih => rw [List.length_cons, List.length_cons, ih]

theorem AllDecodeTo.append {d e : Nat} {xs ys xs' ys' : List Nat} (h : AllDecodeTo d e xs ys) (h' : AllDecodeTo d e xs' ys') :
    AllDecodeTo d e (xs ++ xs') (ys ++ ys') := by
  induction h with
  | nil => exact h'
  | cons head _ ih => exact .cons head ih

theorem AllDecodeTo.lt {d e : Nat} {xs ys : List Nat} (h : AllDecodeTo d e xs ys) : ∀ y ∈ ys, y < 2 ^ d := by
  induction h with
  | nil => exact fun _ hy => nomatch hy
  | cons head _ ih => exact List.forall_mem_cons.mpr ⟨head.2.2, ih⟩

theorem AllDecodeTo.getElem? {d e : Nat} {xs ys : List Nat} (h : AllDecodeTo d e xs ys) {i x y : Nat} (hx : xs[i]? = some x)
    (hy : ys[i]? = some y) : decodesTo d e x y := by
  induction h generalizing i with
  | nil => cases hx
  | cons head _ ih =>
    cases i with
    | zero =>
      obtain rfl := Option.some.inj hx
      obtain rfl := Option.some.inj hy
      exact head
    | succ i => exact ih hx hy

/-- R257: the row that the coder writes decodes to samples within the bound, and leaves what follows it. -/
theorem decodeRow_codeRow {d e : Nat} (hd : 0 < d) {above : Option (List Nat)} (habove : ∀ r ∈ above, ∀ x ∈ r, x < 2 ^ d)
    {xs : List Nat} (hxs : ∀ x ∈ xs, x < 2 ^ d) (dec us : List Nat) (hdec : ∀ x ∈ dec, x < 2 ^ d) :
    ∃ new codes : List Nat, codeRow d e above xs (dec, us) = (new.reverse ++ dec, codes.reverse ++ us) ∧ AllDecodeTo d e xs new
      ∧ ∀ k rest, decodeRow d e k above xs.length (codes.flatMap (rice d k) ++ rest) dec = some (new.reverse ++ dec, rest) := by
  induction xs generalizing dec us with
  | nil => exact ⟨[], [], rfl, .nil, fun _ _ => rfl⟩
  | cons x xs ih =>
    obtain ⟨hx, hxs⟩ := List.forall_mem_cons.mp hxs
    have hp := predict_mem hd habove hdec
    obtain ⟨hhigh, hlow, hcheck⟩ := rebuild_quantise (e := e) (p := predict d above dec) hx
    have hcode := mapRes_quantise_lt e hx hp
    have hy := rebuild_lt d e (predict d above dec) (quantise e ((x : Int) - predict d above dec))
    obtain ⟨new, codes, hcodeRow, hnew, hdecode⟩ := ih hxs _ (mapRes (quantise e ((x : Int) - predict d above dec)) :: us)
      (List.forall_mem_cons.mpr ⟨hy, hdec⟩)
    refine ⟨rebuild d e (predict d above dec) (quantise e ((x : Int) - predict d above dec)) :: new,
      mapRes (quantise e ((x : Int) - predict d above dec)) :: codes, ?code, .cons ⟨hhigh, hlow, hy⟩ hnew, fun k rest => ?decode⟩
    case code =>
      rw [codeRow, hcodeRow, List.reverse_cons, List.reverse_cons, List.append_assoc, List.append_assoc]
      rfl
    case decode =>
      rw [List.flatMap_cons, List.append_assoc, List.length_cons, decodeRow, unrice_rice_append k hcode]
      simp only [unmapRes_mapRes, hcheck, bne_self_eq_false, Bool.and_false, Bool.false_eq_true, if_false, hdecode,
        List.reverse_cons, List.append_assoc, List.singleton_append]

/-! Row groups (R257, R258) -/

/-- R257: a row group: its parameter and its codes. -/
def rowGroup (d k : Nat) (us : List Nat) : List Bool := bitsMsb 4 k ++ us.flatMap (rice d k)

/-- R258: the parameter that is chosen is one of those allowed. -/
theorem bestGroup_eq_rowGroup (d : Nat) (us : List Nat) : ∃ k ≤ d, bestGroup d us = rowGroup d k us := by
  have hfold (ks : List Nat) (hks : ∀ k ∈ ks, k < d) (b : List Bool) (hb : ∃ k ≤ d, b = rowGroup d k us) :
      ∃ k ≤ d, ks.foldl (fun b k => if (rowGroup d (k + 1) us).length < b.length then rowGroup d (k + 1) us else b) b
        = rowGroup d k us := by
    induction ks generalizing b with
    | nil => exact hb
    | cons k ks ih =>
      obtain ⟨hk, hks⟩ := List.forall_mem_cons.mp hks
      refine ih hks _ ?_
      dsimp only
      split
      · exact ⟨k + 1, hk, rfl⟩
      · exact hb
  exact hfold (List.range d) (fun k hk => List.mem_range.mp hk) _ ⟨0, Nat.zero_le d, rfl⟩

/-- R257: the decoder takes a row group off the front, given what its row decodes to. -/
theorem decodeRows_rowGroup_append {d e k : Nat} (hk : k ≤ d) (hd : d < 16) {above : Option (List Nat)} {us dec : List Nat}
    {rest : List Bool} (hrow : decodeRow d e k above 16 (us.flatMap (rice d k) ++ rest) [] = some (dec, rest)) (n : Nat) (acc : List Nat) :
    decodeRows d e (n + 1) above (rowGroup d k us ++ rest) acc = decodeRows d e n (some dec.reverse) rest (acc ++ dec.reverse) := by
  have hbits : (bitsMsb 4 k).length = 4 := length_bitsMsb 4 k
  have hparam : bitsVal (bitsMsb 4 k) = k := bitsVal_bitsMsb_of_lt (Nat.lt_of_le_of_lt hk hd)
  have hlen : ¬ (bitsMsb 4 k ++ (us.flatMap (rice d k) ++ rest)).length < 4 := by
    rw [List.length_append, hbits]
    omega
  simp only [rowGroup, List.append_assoc, decodeRows, List.take_left' hbits, List.drop_left' hbits, hparam, hlen, Nat.not_lt_of_le hk,
    decide_false, Bool.or_self, Bool.false_eq_true, if_false, hrow]

/-- R257: row group after row group decodes within the bound, each from the row that was decoded before it. -/
theorem decodeRows_adaptiveRows {d e : Nat} (hpos : 0 < d) (hd : d < 16) {rows : List (List Nat)}
    (hrows : ∀ r ∈ rows, r.length = 16 ∧ ∀ x ∈ r, x < 2 ^ d) {above : Option (List Nat)} (habove : ∀ r ∈ above, ∀ x ∈ r, x < 2 ^ d)
    (rest : List Bool) (acc : List Nat) :
    ∃ ys, decodeRows d e rows.length above (adaptiveRows d e above rows ++ rest) acc = some (acc ++ ys, rest)
      ∧ AllDecodeTo d e rows.flatten ys := by
  induction rows generalizing above acc with
  | nil => exact ⟨[], by rw [List.append_nil]; rfl, .nil⟩
  | cons row rows ih =>
    obtain ⟨⟨hlen, hrow⟩, hrows⟩ := List.forall_mem_cons.mp hrows
    obtain ⟨new, codes, hcode, hnew, hdecode⟩ := decodeRow_codeRow (e := e) hpos habove hrow [] [] (fun x hx => nomatch hx)
    rw [List.append_nil, List.append_nil] at hcode
    have hnewRange : ∀ r ∈ some new, ∀ x ∈ r, x < 2 ^ d := by
      intro r hr
      obtain rfl := Option.some.inj (Option.mem_def.mp hr)
      exact hnew.lt
    obtain ⟨k, hk, hgroup⟩ := bestGroup_eq_rowGroup d codes
    obtain ⟨ys, hys, hall⟩ := ih hrows hnewRange (acc ++ new)
    refine ⟨new ++ ys, ?_, hnew.append hall⟩
    have hfirst := hdecode k (adaptiveRows d e (some new) rows ++ rest)
    rw [hlen, List.append_nil] at hfirst
    rw [adaptiveRows, hcode]
    dsimp only
    rw [List.reverse_reverse, List.reverse_reverse, hgroup, List.append_assoc, List.length_cons, decodeRows_rowGroup_append hk hd hfirst,
      List.reverse_reverse, hys, List.append_assoc]

/-- Settles O33: by the rows, from the first, which has none above it. -/
theorem adaptiveRowsDecodeWithinTheBound : Obligations.AdaptiveRowsDecodeWithinTheBound := by
  intro d e rows rest hd _ hrows
  have hrange : 0 < d ∧ d < 16 := by
    simp only [List.mem_cons, List.not_mem_nil, or_false] at hd
    omega
  obtain ⟨ys, hys, hall⟩ := decodeRows_adaptiveRows (e := e) hrange.1 hrange.2 hrows (above := none) (fun r hr => nomatch hr) rest []
  refine ⟨ys, hys, hall.length_eq, fun i x y hx hy => ?_⟩
  obtain ⟨hhigh, hlow, -⟩ := hall.getElem? hx hy
  exact ⟨hhigh, hlow⟩

end Sys2Proof.Machine
end

section
/-! PROOFS. Small procedures: blending (R292), the offers of a power source (R341), a step of the transmit equaliser (R360), and the merge
of protected frames (R415). -/

namespace Sys2Proof.Machine

/-! Blending -/

/-- R292: a weighted mean of two values lies between them. -/
theorem blend_between {a : Nat} (ha : a ≤ 4096) (src dst : Nat) : min src dst ≤ blend a src dst ∧ blend a src dst ≤ max src dst := by
  obtain ⟨c, hc⟩ := Nat.exists_eq_add_of_le ha
  have hweight (m : Nat) : 4096 * m = a * m + c * m := by rw [hc, Nat.add_mul]
  have hlow := hweight (min src dst)
  have hhigh := hweight (max src dst)
  have hsrcLow : a * min src dst ≤ a * src := Nat.mul_le_mul_left a (Nat.min_le_left _ _)
  have hdstLow : c * min src dst ≤ c * dst := Nat.mul_le_mul_left c (Nat.min_le_right _ _)
  have hsrcHigh : a * src ≤ a * max src dst := Nat.mul_le_mul_left a (Nat.le_max_left _ _)
  have hdstHigh : c * dst ≤ c * max src dst := Nat.mul_le_mul_left c (Nat.le_max_right _ _)
  rw [blend, show 4096 - a = c by omega]
  omega

/-- Settles O34: the weighted mean, and its two ends. -/
theorem blendKeepsToItsInputs : Obligations.BlendKeepsToItsInputs := by
  intro a src dst ha
  obtain ⟨hlow, hhigh⟩ := blend_between ha src dst
  refine ⟨hlow, hhigh, ?_, ?_⟩ <;> unfold blend <;> omega

/-! Offers -/

/-- R341: the current that a cap leaves at a voltage: the full one, or one lowered to a multiple of 10 mA. -/
def cappedMa (full cap mv : Nat) : Nat := if mv * full ≤ cap * 1000 then full else cap * 1000 / mv / 10 * 10

theorem cappedMa_power_le (full cap mv : Nat) : mv * cappedMa full cap mv ≤ cap * 1000 := by
  unfold cappedMa
  split
  case isTrue hfits => exact hfits
  case isFalse =>
    calc mv * (cap * 1000 / mv / 10 * 10) ≤ mv * (cap * 1000 / mv) := Nat.mul_le_mul_left mv (Nat.div_mul_le_self _ _)
      _ ≤ cap * 1000 := Nat.mul_div_le _ _

theorem cappedMa_le_full (full cap mv : Nat) : cappedMa full cap mv ≤ full := by
  unfold cappedMa
  split
  case isTrue => exact Nat.le_refl full
  case isFalse hover =>
    calc cap * 1000 / mv / 10 * 10 ≤ cap * 1000 / mv := Nat.div_mul_le_self _ _
      _ ≤ full := Nat.div_le_of_le_mul (Nat.le_of_lt (Nat.lt_of_not_le hover))

theorem cappedMa_full_or_lowered (full cap mv : Nat) :
    cappedMa full cap mv = full ∨ (cappedMa full cap mv % 10 = 0 ∧ cap * 1000 < mv * full) := by
  unfold cappedMa
  split
  case isTrue => exact .inl rfl
  case isFalse hover => exact .inr ⟨Nat.mul_mod_left _ _, Nat.lt_of_not_le hover⟩

/-- R341: the offers of a cap, each a voltage with its current. -/
def offers (h : Hub) (p cap : Nat) : List (Nat × Nat) :=
  ((voltages h p).filter (fun mv => mv == 5000 || 500 ≤ cappedMa (maxMa h p) cap mv)).map (fun mv => (mv, cappedMa (maxMa h p) cap mv))

theorem pdos_eq_flatMap_offers (h : Hub) (p cap : Nat) : pdos h p cap = (offers h p cap).flatMap (fun x => [x.1, x.2]) := by
  rw [pdos, offers, List.flatMap_map]
  induction voltages h p with
  | nil => rfl
  | cons mv vs ih =>
    rw [List.flatMap_cons, List.filter_cons, ih]
    dsimp only
    rw [← cappedMa]
    split
    · rw [List.flatMap_cons]
    · rfl

theorem mem_offers_iff (h : Hub) (p cap : Nat) (x : Nat × Nat) : x ∈ offers h p cap ↔
    x.1 ∈ voltages h p ∧ (x.1 = 5000 ∨ 500 ≤ x.2) ∧ x.2 = cappedMa (maxMa h p) cap x.1 := by
  obtain ⟨mv, ma⟩ := x
  simp only [offers, List.mem_map, List.mem_filter, Bool.or_eq_true, beq_iff_eq, decide_eq_true_eq, Prod.mk.injEq]
  constructor
  · rintro ⟨v, ⟨hv, hmin⟩, rfl, rfl⟩
    exact ⟨hv, hmin, rfl⟩
  · rintro ⟨hv, hmin, rfl⟩
    exact ⟨mv, ⟨hv, hmin⟩, rfl, rfl⟩

/-- Settles O39: 5 V is the first voltage and passes whatever its current; every other one passes with 500 mA or more. -/
theorem offeredPowerKeepsToTheCap : Obligations.OfferedPowerKeepsToTheCap := by
  intro h p cap
  refine ⟨offers h p cap, pdos_eq_flatMap_offers h p cap, rfl, fun x hx => ?_⟩
  obtain ⟨hv, hmin, hma⟩ := (mem_offers_iff h p cap x).mp hx
  rw [hma] at hmin ⊢
  exact ⟨hv, cappedMa_le_full _ _ _, cappedMa_power_le _ _ _, fun hne => hmin.resolve_left hne, cappedMa_full_or_lowered _ _ _⟩

/-! A step of the transmit equaliser -/

theorem map_nth_range {n : Nat} {a : List Nat} (ha : a.length = n) : (List.range n).map (fun i => nth a i 0) = a := by
  subst ha
  refine List.ext_getElem (by simp) fun i _ hi => ?_
  simp [nth, hi]

theorem nth_map_range {α : Type} {n i : Nat} (f : Nat → α) (d : α) (hi : i < n) : nth ((List.range n).map f) i d = f i := by
  simp [nth, hi]

/-- The members of a part of a list without repetitions, counted over that list. -/
theorem sum_indicator {s t : List Nat} (hst : s.Sublist t) (ht : t.Nodup) : (t.map (fun i => if i ∈ s then 1 else 0)).sum = s.length := by
  induction hst with
  | slnil => rfl
  | cons a hst ih =>
    obtain ⟨ha, ht⟩ := List.nodup_cons.mp ht
    rw [List.map_cons, List.sum_cons, if_neg fun has => ha (hst.subset has), Nat.zero_add, ih ht]
  | @cons_cons s t a hst ih =>
    obtain ⟨ha, ht⟩ := List.nodup_cons.mp ht
    have hrest : t.map (fun i => if i ∈ a :: s then 1 else 0) = t.map (fun i => if i ∈ s then 1 else 0) := by
      refine List.map_congr_left fun i hi => ?_
      have hne : i ≠ a := fun hia => ha (hia ▸ hi)
      simp only [List.mem_cons, hne, false_or]
    rw [List.map_cons, List.sum_cons, hrest, ih ht, if_pos List.mem_cons_self, List.length_cons, Nat.add_comm]

theorem sum_map_add_nat {α : Type} (f g : α → Nat) (l : List α) : (l.map (fun x => f x + g x)).sum = (l.map f).sum + (l.map g).sum := by
  induction l with
  | nil => rfl
  | cons x l ih =>
    rw [List.map_cons, List.map_cons, List.map_cons, List.sum_cons, List.sum_cons, List.sum_cons, ih]
    omega

/-- R360: the coefficients that are below their targets. -/
def below (a b : List Nat) : List Nat := (List.range 4).filter (fun i => nth a i 0 < nth b i 0)

/-- R360: the coefficients that a step raises; those that it lowers are those that the step back would raise. -/
def raised (a b : List Nat) : List Nat := (below a b).take (min (below a b).length (below b a).length)

theorem mem_raised {a b : List Nat} {i : Nat} (hi : i ∈ raised a b) : i < 4 ∧ nth a i 0 < nth b i 0 := by
  have hbelow := List.mem_filter.mp (List.mem_of_mem_take hi)
  exact ⟨List.mem_range.mp hbelow.1, of_decide_eq_true hbelow.2⟩

theorem raised_sublist (a b : List Nat) : (raised a b).Sublist (List.range 4) :=
  (List.take_sublist _ _).trans List.filter_sublist

theorem length_raised (a b : List Nat) : (raised a b).length = min (below a b).length (below b a).length := by
  rw [raised, List.length_take, Nat.min_assoc, Nat.min_comm (below b a).length, ← Nat.min_assoc, Nat.min_self]

/-- R360: a coefficient after a step. -/
def steppedTo (a b : List Nat) (i : Nat) : Nat :=
  if i ∈ raised a b then nth a i 0 + 1 else if i ∈ raised b a then nth a i 0 - 1 else nth a i 0

theorem ffeStep_eq (a b : List Nat) : ffeStep a b = (List.range 4).map (steppedTo a b) := by
  have hlowered : raised b a = (below b a).take (min (below a b).length (below b a).length) := by
    rw [raised, Nat.min_comm]
  refine List.map_congr_left fun i _ => ?_
  simp only [steppedTo, ← List.contains_iff_mem, hlowered]
  rfl

/-- R360: no coefficient is both raised and lowered, so what a step adds and what it takes away balance one against the other. -/
theorem steppedTo_add (a b : List Nat) (i : Nat) :
    steppedTo a b i + (if i ∈ raised b a then 1 else 0) = nth a i 0 + (if i ∈ raised a b then 1 else 0) := by
  unfold steppedTo
  by_cases hup : i ∈ raised a b
  case pos =>
    have hdown : i ∉ raised b a := fun h => Nat.lt_asymm (mem_raised hup).2 (mem_raised h).2
    simp [hup, hdown]
  case neg =>
    by_cases hdown : i ∈ raised b a
    case pos =>
      have hpos := (mem_raised hdown).2
      simp only [hup, hdown, if_true, if_false]
      omega
    case neg => simp [hup, hdown]

/-- R360: as many coefficients go up as down. -/
theorem sum_ffeStep {a : List Nat} (ha : a.length = 4) (b : List Nat) : (ffeStep a b).sum = a.sum := by
  have hbalance : ((List.range 4).map (fun i => steppedTo a b i + (if i ∈ raised b a then 1 else 0))).sum
      = ((List.range 4).map (fun i => nth a i 0 + (if i ∈ raised a b then 1 else 0))).sum := by
    rw [funext (steppedTo_add a b)]
  have hcount (a b : List Nat) := sum_indicator (raised_sublist a b) List.nodup_range
  rw [sum_map_add_nat, sum_map_add_nat, ← ffeStep_eq, map_nth_range ha, hcount, hcount, length_raised, length_raised,
    Nat.min_comm (below b a).length] at hbalance
  exact Nat.add_right_cancel hbalance

theorem steppedTo_between (a b : List Nat) (i : Nat) : steppedTo a b i ≤ nth a i 0 + 1 ∧ nth a i 0 ≤ steppedTo a b i + 1
    ∧ min (nth a i 0) (nth b i 0) ≤ steppedTo a b i ∧ steppedTo a b i ≤ max (nth a i 0) (nth b i 0) := by
  unfold steppedTo
  split
  case isTrue hup =>
    have hlt := (mem_raised hup).2
    omega
  case isFalse =>
    split
    case isTrue hdown =>
      have hlt := (mem_raised hdown).2
      omega
    case isFalse => omega

/-- Of two sets of one sum, one with no coefficient below the other's is the other. -/
theorem eq_of_below_eq_nil {a b : List Nat} (ha : a.length = 4) (hb : b.length = 4) (hsum : a.sum = b.sum) (hnone : below a b = []) :
    a = b := by
  have hge : ∀ i < 4, nth b i 0 ≤ nth a i 0 := fun i hi =>
    Nat.le_of_not_lt fun hlt => List.filter_eq_nil_iff.mp hnone i (List.mem_range.mpr hi) (decide_eq_true hlt)
  rw [← map_nth_range ha, ← map_nth_range hb] at hsum ⊢
  simp only [List.range_succ, List.range_zero, List.nil_append, List.cons_append, List.map_cons, List.map_nil, List.sum_cons,
    List.sum_nil] at hsum
  have h0 := hge 0 (by decide)
  have h1 := hge 1 (by decide)
  have h2 := hge 2 (by decide)
  have h3 := hge 3 (by decide)
  refine List.map_congr_left fun i hi => ?_
  have hi := List.mem_range.mp hi
  have hplaces : i = 0 ∨ i = 1 ∨ i = 2 ∨ i = 3 := by omega
  rcases hplaces with rfl | rfl | rfl | rfl <;> omega

/-- R360: a step moves something unless the target is reached: while it is not, a coefficient is below its target and one above. -/
theorem ffeStep_eq_self_iff {a b : List Nat} (ha : a.length = 4) (hb : b.length = 4) (hsum : a.sum = b.sum) : ffeStep a b = a ↔ a = b := by
  constructor
  case mp =>
    intro hsame
    have hnone : raised a b = [] := by
      refine List.eq_nil_iff_forall_not_mem.mpr fun i hi => ?_
      have hat : nth (ffeStep a b) i 0 = nth a i 0 + 1 := by
        rw [ffeStep_eq, nth_map_range _ _ (mem_raised hi).1, steppedTo, if_pos hi]
      rw [hsame] at hat
      omega
    have hmin : min (below a b).length (below b a).length = 0 := by rw [← length_raised, hnone, List.length_nil]
    obtain hup | hdown := Nat.min_eq_zero_iff.mp hmin
    · exact eq_of_below_eq_nil ha hb hsum (List.eq_nil_of_length_eq_zero hup)
    · exact (eq_of_below_eq_nil hb ha hsum.symm (List.eq_nil_of_length_eq_zero hdown)).symm
  case mpr =>
    rintro rfl
    have hnone : raised a a = [] := List.eq_nil_iff_forall_not_mem.mpr fun i hi => Nat.lt_irrefl _ (mem_raised hi).2
    refine Eq.trans ?_ (map_nth_range ha)
    rw [ffeStep_eq]
    exact List.map_congr_left fun i _ => by simp [steppedTo, hnone]

/-- Settles O42: coefficient by coefficient, and by how many go up and how many down. -/
theorem ffeRampKeepsTheMagnitudeSum : Obligations.FfeRampKeepsTheMagnitudeSum := by
  intro a b ha hb hsum
  refine ⟨by rw [ffeStep_eq]; rfl, sum_ffeStep ha b, ffeStep_eq_self_iff ha hb hsum, fun i hi => ?_⟩
  rw [ffeStep_eq, nth_map_range _ _ hi]
  exact steppedTo_between a b i

/-! The merge -/

/-- R415: how far a sequence lies ahead of another, modulo 2^32. -/
def seqAhead (a b : Nat) : Nat := (a + 4294967296 - b) % 4294967296

theorem mergeTest_ahead {r : MergeRec} {s : Nat} (hpos : 0 < seqAhead s r.high) (hlt : seqAhead s r.high < 2147483648) :
    mergeTest (some r) s = (0, ⟨s, (s :: r.seen).filter (fun x => decide (seqAhead s x ≤ 1023))⟩) :=
  if_pos ⟨hpos, hlt⟩

/-- R415: at or behind the highest, and within 1,023 of it, what was seen is a duplicate and what was not is accepted. -/
theorem mergeTest_behind {r : MergeRec} {s : Nat} (hnot : ¬(0 < seqAhead s r.high ∧ seqAhead s r.high < 2147483648))
    (hnear : seqAhead r.high s ≤ 1023) :
    mergeTest (some r) s = if r.seen.contains s then (1, r) else (0, ⟨r.high, s :: r.seen⟩) :=
  (if_neg hnot).trans (if_pos hnear)

theorem mergeTest_late {r : MergeRec} {s : Nat} (hnot : ¬(0 < seqAhead s r.high ∧ seqAhead s r.high < 2147483648))
    (hfar : 1023 < seqAhead r.high s) : mergeTest (some r) s = (2, r) :=
  (if_neg hnot).trans (if_neg (Nat.not_le_of_lt hfar))

/-- R415: a sequence that was accepted is in the record, at or within 1,023 behind the highest. -/
theorem mergeTest_accepted {r : MergeRec} {s : Nat} (hacc : (mergeTest (some r) s).1 = 0) :
    let r' := (mergeTest (some r) s).2
    s ∈ r'.seen ∧ ¬(0 < seqAhead s r'.high ∧ seqAhead s r'.high < 2147483648) ∧ seqAhead r'.high s ≤ 1023 := by
  by_cases hahead : 0 < seqAhead s r.high ∧ seqAhead s r.high < 2147483648
  case pos =>
    have hself : seqAhead s s = 0 := by unfold seqAhead; omega
    rw [mergeTest_ahead hahead.1 hahead.2]
    refine ⟨List.mem_filter.mpr ⟨List.mem_cons_self, ?_⟩, ?_, ?_⟩ <;> simp [hself]
  case neg =>
    by_cases hnear : seqAhead r.high s ≤ 1023
    case pos =>
      rw [mergeTest_behind hahead hnear] at hacc ⊢
      split at hacc
      case isTrue => cases hacc
      case isFalse hnew =>
        rw [if_neg hnew]
        exact ⟨List.mem_cons_self, hahead, hnear⟩
    case neg =>
      rw [mergeTest_late hahead (Nat.lt_of_not_le hnear)] at hacc
      cases hacc

/-- Settles O45: by how far the sequence lies ahead of the highest, or behind it. -/
theorem mergeAcceptsEachSequenceOnce : Obligations.MergeAcceptsEachSequenceOnce := by
  intro r s hr hs
  refine ⟨rfl, fun hacc => ?again, fun k hpos hlt hk => ?ahead, fun k hnear hk => ?behind, fun k hfar hlt hk => ?late⟩
  case again =>
    obtain ⟨hseen, hnot, hnear⟩ := mergeTest_accepted hacc
    rw [mergeTest_behind hnot hnear, if_pos (List.contains_iff_mem.mpr hseen)]
  case ahead =>
    have hdist : seqAhead s r.high = k := by unfold seqAhead; omega
    rw [mergeTest_ahead (hdist ▸ hpos) (hdist ▸ hlt)]
    exact ⟨rfl, rfl⟩
  case behind =>
    have hdist : seqAhead r.high s = k := by unfold seqAhead; omega
    have hnot : ¬(0 < seqAhead s r.high ∧ seqAhead s r.high < 2147483648) := by unfold seqAhead; omega
    rw [mergeTest_behind hnot (hdist ▸ hnear)]
    exact ⟨fun hseen => if_pos (List.contains_iff_mem.mpr hseen), fun hseen => if_neg fun h => hseen (List.contains_iff_mem.mp h)⟩
  case late =>
    have hdist : seqAhead r.high s = k := by unfold seqAhead; omega
    have hnot : ¬(0 < seqAhead s r.high ∧ seqAhead s r.high < 2147483648) := by unfold seqAhead; omega
    exact mergeTest_late hnot (hdist ▸ hfar)

end Sys2Proof.Machine
end

section
/-! PROOFS. Keys of the dictionary (R43, R58), and what a command on a quiet hub may change without setting anything else off. -/

namespace Sys2Proof.Machine

/-! Keys -/

/-- Table 4.5: what the place of an index in the four families of blocks that share objects says of the index. -/
def sharedBlock (i : Nat) (l : Loc) : Prop :=
  (l.fam = .gp → i = 0x2000 + 0x40 * l.inst + l.off) ∧ (l.fam = .pd → i = 0x7400 + 0x40 * l.inst + l.off)
  ∧ (l.fam = .dom → i = 0x8000 + 8 * l.inst + l.off) ∧ (l.fam = .guard → i = 0x9400 + 0x40 * l.inst + l.off)

theorem sharedBlock_ite {i : Nat} {c : Prop} [Decidable c] {a b : Loc} (ha : c → sharedBlock i a) (hb : sharedBlock i b) :
    sharedBlock i (if c then a else b) := by
  split
  case isTrue hc => exact ha hc
  case isFalse => exact hb

theorem sharedBlock_locate (i : Nat) : sharedBlock i (locate i) := by
  unfold locate
  repeat' refine sharedBlock_ite (fun hi => ?_) ?_
  all_goals simp only [sharedBlock, reduceCtorEq, false_implies, true_and, and_true, and_self, forall_const] <;> omega

/-- The index under which an object is held, whichever block it is seen through. -/
def canonIdx (i : Nat) : Nat :=
  let l := locate i
  match l.fam with
  | .gp => if l.off < 4 then 0x2000 + 0x40 * bondBase l.inst + l.off else i
  | .pd => if l.off == 0x3F then 0x7400 + 0x3F else i
  | .dom => if l.off == 7 then 0x8000 + 7 else i
  | .guard => if l.off ≥ 0x3D then 0x9400 + l.off else i
  | _ => i

theorem bondBase_le (n : Nat) : bondBase n ≤ n := by
  unfold bondBase
  grind

/-- Table 4.5: an object's own index is no higher than the one that it is seen through. -/
theorem canonIdx_le (i : Nat) : canonIdx i ≤ i := by
  obtain ⟨hgp, hpd, hdom, hguard⟩ := sharedBlock_locate i
  have hbond := bondBase_le (locate i).inst
  unfold canonIdx
  grind

/-- A key's position and sub-index are its own; only its index is taken from the block that holds it. -/
theorem canonKey_eq (k : Nat) : canonKey k = keyPos k * 0x1000000 + canonIdx (keyIdx k) * 0x100 + keySub k := by
  have hparts : k = keyPos k * 0x1000000 + keyIdx k * 0x100 + keySub k := by
    unfold keyPos keyIdx keySub
    omega
  have hsub : k - keyIdx k * 0x100 = keyPos k * 0x1000000 + keySub k := by omega
  cases hfam : (locate (keyIdx k)).fam
  all_goals simp only [canonKey, canonIdx, hfam, hsub]
  case gp => split <;> omega
  case pd => split <;> omega
  case dom => split <;> omega
  case guard => split <;> omega
  all_goals exact hparts

theorem keyIdx_lt (k : Nat) : keyIdx k < 0x10000 := Nat.mod_lt _ (by omega)
theorem keySub_lt (k : Nat) : keySub k < 0x100 := Nat.mod_lt _ (by omega)

theorem canonKey_le (k : Nat) : canonKey k ≤ k := by
  have hidx := canonIdx_le (keyIdx k)
  rw [canonKey_eq]
  unfold keyPos keyIdx keySub at *
  omega

/-- R58: a position stands above the key, and the object that a key names is the same at every position. -/
theorem canonKey_at (p k : Nat) (hk : k < 2 ^ 24) : canonKey (at_ p k) = at_ p (canonKey k) := by
  have hpos : keyPos (at_ p k) = p ∧ keyPos k = 0 := by
    unfold at_ keyPos
    omega
  have hidx : keyIdx (at_ p k) = keyIdx k := by
    unfold at_ keyIdx
    omega
  have hsub : keySub (at_ p k) = keySub k := by
    unfold at_ keySub
    omega
  rw [canonKey_eq, canonKey_eq, hpos.1, hpos.2, hidx, hsub, at_]
  omega

theorem at_inj {p p' k k' : Nat} (hk : k < 2 ^ 24) (hk' : k' < 2 ^ 24) (he : at_ p k = at_ p' k') : p = p' ∧ k = k' := by
  unfold at_ at he
  omega

/-- Fields at two positions are two objects, and so are two fields at one position. -/
theorem canonKey_at_ne {p p' k k' : Nat} (hk : k < 2 ^ 24) (hk' : k' < 2 ^ 24) (hne : p ≠ p' ∨ canonKey k ≠ canonKey k') :
    canonKey (at_ p k) ≠ canonKey (at_ p' k') := by
  rw [canonKey_at p k hk, canonKey_at p' k' hk']
  intro he
  obtain ⟨hp, hc⟩ := at_inj (Nat.lt_of_le_of_lt (canonKey_le k) hk) (Nat.lt_of_le_of_lt (canonKey_le k') hk') he
  exact hne.elim (· hp) (· hc)

/-- A field at a position is none of the objects that have no position. -/
theorem canonKey_at_ne_global {p k k' : Nat} (hk : k < 2 ^ 24) (hk' : k' < 2 ^ 24) (hne : canonKey k ≠ canonKey k') :
    canonKey (at_ p k) ≠ canonKey k' := by
  have h0 := canonKey_at_ne (p := p) (p' := 0) hk hk' (Or.inr hne)
  rwa [at_, at_, Nat.zero_mul, Nat.zero_add] at h0

/-! Counters and flags -/

/-- R54: a counter of `w` bytes is raised modulo its range. -/
theorem addN_eq (h : Hub) (k n w : Nat) (hw : (rowAt (keyIdx k) (keySub k)).map (·.ty.size) = some w) :
    addN h k n = setN h k ((getN h k + n) % 2 ^ (8 * w)) := by
  obtain ⟨r, hr, hsize⟩ := Option.map_eq_some_iff.1 hw
  simp only [addN, hr, hsize]

/-- A counter that is raised is written. -/
theorem bump_setN (h : Hub) (k : Nat) : ∃ n, bump h k = setN h k n := ⟨_, rfl⟩

/-- R40: a flag with no event route is set and its event counted, and nothing more. -/
theorem setFlag_unrouted (h : Hub) (k : Nat) (hr : h.routes.contains k = false) (hi : h.intRoutes.contains k = false) :
    setFlag h k = setN (setN h k 1) (k + 1) ((getN h (k + 1) + 1) % 256) := by
  have hi' : (setN (setN h k 1) (k + 1) ((getN h (k + 1) + 1) % 256)).intRoutes.contains k = false := hi
  have hr' : (setN (setN h k 1) (k + 1) ((getN h (k + 1) + 1) % 256)).routes.contains k = false := hr
  simp only [setFlag, whenH, hi', hr', if_false, Bool.false_eq_true]

theorem getB_setN_same (h : Hub) (k n : Nat) : getB (setN h k n) k = (n != 0) := by
  simp [getB]

theorem getB_setN_other (h : Hub) (k k' n : Nat) (hne : canonKey k' ≠ canonKey k) : getB (setN h k n) k' = getB h k' := by
  simp [getB, getN_setN_other h k k' n hne]

/-! Quiet hubs -/

theorem quiet_powered {s : State} (hq : quiet s) : s.hub.fw.powered = true := by
  obtain ⟨-, hpowered, -⟩ := hq
  exact hpowered

theorem quiet_noTwin {s : State} (hq : quiet s) : getN s.hub Obj.TW_STATE = 0 := by
  obtain ⟨-, -, -, hstate, -⟩ := hq
  exact hstate

theorem quiet_noTamper {s : State} (hq : quiet s) : (isActive s.hub && tampered s.hub) = false := by
  obtain ⟨-, -, -, -, -, htamper⟩ := hq
  exact htamper

/-- The objects that decide whether something follows a command: the twin's state and enable, the tamper latch, and what the upstream link
of the USB 3.2 hub depends on. -/
def watchedKeys : List Nat := [Obj.TW_STATE, Obj.TW_ENABLE, Obj.TP_TAMPERED, Obj.USB3_HUB_ENABLE, Obj.LINK_MODE 0]

/-- An object that is none of `watchedKeys`. -/
def unwatched (k : Nat) : Bool := watchedKeys.all (fun w => canonKey w != canonKey k)

/-- All that decides whether something follows a command on a quiet hub. -/
def watched (h : Hub) :=
  (watchedKeys.map (getN h), (h.todo, h.stores, h.zeroed, h.recordOk), (h.part, h.mapped, h.quarantined, h.usb4.paths),
    h.domains, (h.twin.token, h.twin.applies), h.fw.resetWait)

theorem watched_setV {h : Hub} {k : Nat} {v : Val} (hk : unwatched k = true) : watched (setV h k v) = watched h := by
  have hkeys : watchedKeys.map (getN (setV h k v)) = watchedKeys.map (getN h) :=
    List.map_congr_left (fun w hw => getN_setV_other h k w v (by simpa using List.all_eq_true.1 hk w hw))
  unfold watched
  rw [hkeys]
  rfl

theorem watched_setN {h : Hub} {k n : Nat} (hk : unwatched k = true) : watched (setN h k n) = watched h := watched_setV hk
theorem watched_setI {h : Hub} {k : Nat} {n : Int} (hk : unwatched k = true) : watched (setI h k n) = watched h := watched_setV hk
theorem watched_bump {h : Hub} {k : Nat} (hk : unwatched k = true) : watched (bump h k) = watched h := watched_setV hk

/-- A flag with no event route, set, leaves what is watched if neither it nor its event count is. -/
theorem watched_setFlag {h : Hub} {k : Nat} (hr : h.routes.contains k = false) (hi : h.intRoutes.contains k = false)
    (hk : unwatched k = true) (hc : unwatched (k + 1) = true) : watched (setFlag h k) = watched h := by
  rw [setFlag_unrouted h k hr hi, watched_setN hc, watched_setN hk]

theorem unwatched_at {p k : Nat} (hk : k < 2 ^ 24) (hu : unwatched k = true) : unwatched (at_ p k) = true := by
  refine List.all_eq_true.2 (fun w hw => ?_)
  have hsmall : ∀ w ∈ watchedKeys, w < 2 ^ 24 := by decide
  have hne : canonKey w ≠ canonKey k := by simpa using List.all_eq_true.1 hu w hw
  simpa using (canonKey_at_ne_global (p := p) hk (hsmall w hw) hne.symm).symm

/-- On a quiet hub, a command whose effect moves nothing that is watched answers the state with that effect done. -/
theorem exec_quiet {i : Instr} {f : List Host.Cell → Hub → Hub} {s : State} (hi : runsAs i f) (hw : i.wf = true) (hq : quiet s)
    (hv : watched (f s.mem s.hub) = watched s.hub) : exec i s = .next { s with hub := f s.mem s.hub } := by
  simp only [watched, watchedKeys, List.map_cons, List.map_nil, Prod.mk.injEq, List.cons.injEq, and_true] at hv
  obtain ⟨⟨hstate, henable, htamper, husb3, hmode⟩, ⟨htodo, hstores, hzeroed, hrecord⟩, ⟨hpart, hmapped, hquar, hpaths⟩,
    hdomains, ⟨htoken, happlies⟩, hreset⟩ := hv
  exact exec_alone i f s hi hw hq _ rfl htodo hstores hzeroed hrecord hpart hpaths
    (usb3Linked_same _ _ husb3 hmode hpart hmapped hquar hpaths) (followShed_same _ _ hdomains) hstate
    (by simp only [isActive, tampered, getB, henable, htamper, htoken]) happlies hreset

/-- On a quiet hub, a command whose effect leaves the hub as it is leaves the state. -/
theorem exec_quiet_same {i : Instr} {f : List Host.Cell → Hub → Hub} {s : State} (hi : runsAs i f) (hw : i.wf = true) (hq : quiet s)
    (hf : f s.mem s.hub = s.hub) : exec i s = .next s := by
  rw [exec_quiet hi hw hq (by rw [hf]), hf]

/-- On a quiet hub, a command whose effect is known and moves nothing that is watched answers the state with that effect done. -/
theorem exec_quiet_to {i : Instr} {f : List Host.Cell → Hub → Hub} {s : State} (hi : runsAs i f) (hw : i.wf = true) (hq : quiet s)
    {h' : Hub} (hf : f s.mem s.hub = h') (hv : watched h' = watched s.hub) : exec i s = .next { s with hub := h' } := by
  rw [exec_quiet hi hw hq (by rw [hf, hv]), hf]

/-- Settles O11: CAN_BUS_OFF raises a 32-bit counter that nothing follows. -/
theorem canBusOffIsCounted : Obligations.CanBusOffIsCounted := by
  intro s hq
  refine exec_quiet_to (runsAs_of .canBusOff _ (fun _ => rfl)) rfl hq ?_ (watched_setN (by decide))
  exact addN_eq s.hub Obj.CAN_BUS_OFF 1 4 (by decide)

/-! Carrier contexts -/

/-- R57: a context's number is its place in the order of the contexts. -/
theorem allCtx_ctxNo (c : Ctx) : allCtx[ctxNo c]? = some c := by
  cases c <;> rfl

theorem ctxNo_inj {c c' : Ctx} (he : ctxNo c = ctxNo c') : c = c' := by
  have hsome := allCtx_ctxNo c
  rw [he, allCtx_ctxNo] at hsome
  exact (Option.some.inj hsome).symm

/-- The key under which a context holds an object names both. -/
theorem selKey_inj {c c' : Ctx} {k k' : Nat} (hk : k < 2 ^ 48) (hk' : k' < 2 ^ 48)
    (he : ctxNo c * 2 ^ 48 + canonKey k = ctxNo c' * 2 ^ 48 + canonKey k') : c = c' ∧ canonKey k = canonKey k' := by
  have hlow := canonKey_le k
  have hlow' := canonKey_le k'
  exact ⟨ctxNo_inj (by omega), by omega⟩

theorem selV_setSel_same (h : Hub) (c : Ctx) {k k' : Nat} (v : Val) (he : canonKey k' = canonKey k) : selV (setSel h c k v) c k' = v := by
  simp only [selV, setSel, he, mget?_mset_same]

theorem selV_setSel_other (h : Hub) {c c' : Ctx} {k k' : Nat} (v : Val) (hk : k < 2 ^ 48) (hk' : k' < 2 ^ 48)
    (hne : c' ≠ c ∨ canonKey k' ≠ canonKey k) : selV (setSel h c k v) c' k' = selV h c' k' := by
  have hkey : ctxNo c' * 2 ^ 48 + canonKey k' ≠ ctxNo c * 2 ^ 48 + canonKey k := by
    intro he
    obtain ⟨hctx, hcanon⟩ := selKey_inj hk' hk he
    exact hne.elim (· hctx) (· hcanon)
  simp only [selV, setSel, mget?_mset_other _ _ _ _ hkey]

theorem stagedIn_discardStaged_same (h : Hub) (c : Ctx) (i : Nat) : stagedIn (discardStaged h c i) c i = [] := by
  unfold stagedIn discardStaged
  refine List.filter_eq_nil_iff.mpr (fun x hx => ?_)
  have hkept : (!(x.ctx == c && x.window == i)) = true := (List.mem_filter.mp hx).2
  rw [Bool.not_eq_true'] at hkept
  rw [hkept]
  exact Bool.false_ne_true

theorem stagedIn_discardStaged_other (h : Hub) {c c' : Ctx} {i i' : Nat} (hne : c' ≠ c ∨ i' ≠ i) :
    stagedIn (discardStaged h c i) c' i' = stagedIn h c' i' := by
  unfold stagedIn discardStaged
  rw [List.filter_filter]
  refine List.filter_congr (fun x _ => ?_)
  cases hx : x.ctx == c' && x.window == i' with
  | false => rfl
  | true =>
    obtain ⟨hctx, hwindow⟩ := Bool.and_eq_true_iff.mp hx
    have hother : (x.ctx == c && x.window == i) = false := by
      rw [eq_of_beq hctx, eq_of_beq hwindow]
      exact Bool.and_eq_false_iff.mpr (hne.imp beq_eq_false_iff_ne.mpr beq_eq_false_iff_ne.mpr)
    rw [hother]
    rfl

/-- Settles O12: the key of a context's positions names the context and the object. -/
theorem carrierContextsAreKeptApart : Obligations.CarrierContextsAreKeptApart := by
  refine ⟨fun h c c' k k' v hk hk' => ⟨?_, ?_, ?_⟩, fun h c c' i i' => ⟨?_, ?_, rfl, rfl⟩⟩
  · exact selV_setSel_same h c v rfl
  · exact selV_setSel_same h c v
  · exact selV_setSel_other h v hk hk'
  · exact stagedIn_discardStaged_same h c i
  · exact stagedIn_discardStaged_other h

end Sys2Proof.Machine
end

section
/-! PROOFS. Commands that touch one unit of a quiet hub: the manager's timeout, the stored record, the entropy source, the programmed
slot, the alive output and power loss, pace readings, credits of a link port, lost time sources and PAUSE. -/

namespace Sys2Proof.Machine

/-! The manager's loss (R83) -/

theorem managerLate_first {h : Hub} (hr : h.routes.contains Obj.MANAGER_LOST = false) (hi : h.intRoutes.contains Obj.MANAGER_LOST = false)
    (hnode : getN h Obj.MANAGER_NODE ≠ 0) (hseen : h.jdp.managerSeen = true) :
    managerLate h = setN (setN { h with jdp := { h.jdp with managerSeen := false } } Obj.MANAGER_LOST 1) (Obj.MANAGER_LOST + 1)
      ((getN h (Obj.MANAGER_LOST + 1) + 1) % 256) := by
  simp only [managerLate, hseen, beq_eq_false_iff_ne.2 hnode, Bool.not_true, Bool.or_self, Bool.false_eq_true, if_false]
  exact setFlag_unrouted (setJdp h (fun j => { j with managerSeen := false })) Obj.MANAGER_LOST hr hi

theorem managerLate_again {h : Hub} (hquiet : getN h Obj.MANAGER_NODE = 0 ∨ h.jdp.managerSeen = false) : managerLate h = h := by
  rcases hquiet with hnode | hseen
  · simp [managerLate, hnode]
  · simp [managerLate, hseen]

/-- Settles O15: the first timeout forgets the heartbeat, which is what a further one looks for. -/
theorem managerLostIsSetOnce : Obligations.ManagerLostIsSetOnce := by
  intro s hq hr hi
  have hruns : runsAs .managerTimeout (fun _ h => managerLate h) := runsAs_of _ _ (fun _ => rfl)
  refine ⟨fun hnode hseen => ?_, fun hquiet => exec_quiet_same hruns rfl hq (managerLate_again hquiet)⟩
  refine exec_quiet_to hruns rfl hq (managerLate_first hr hi hnode hseen) ?_
  rw [watched_setN (by decide), watched_setN (by decide)]
  rfl

/-! The stored record (R52) -/

/-- R52: the record of the higher sequence is in force, so a record that was put is. -/
theorem Store.inForce_put (s : Store) (vals : SMap Val) (mapout : List Nat) :
    (s.put vals mapout).inForce = some { seq := (s.inForce.map (·.seq)).getD 0 + 1, ok := true, vals := vals, mapout := mapout } := by
  unfold Store.put Store.inForce
  grind

/-- R52: a record goes into the other slot. -/
theorem Store.slot_put {s : Store} {old : StoreRecord} (hold : s.inForce = some old) (vals : SMap Val) (mapout : List Nat) :
    (s.put vals mapout).slotA = old ∨ (s.put vals mapout).slotB = old := by
  have hslots : (s.inForce = some s.slotA ∧ s.slotA.ok = true) ∨ s.inForce = some s.slotB ∨ s.inForce = none := by
    unfold Store.inForce
    grind
  unfold Store.put
  grind

theorem Store.snapshot_put (s : Store) (vals : SMap Val) (mapout : List Nat) : (s.put vals mapout).snapshot = s.snapshot := by
  unfold Store.put
  dsimp only
  split <;> rfl

theorem storeDone_verified {h : Hub} {r : StoreRecord} (hsnap : h.store.snapshot = some r) :
    storeDone h true = setN { h with store := { h.store with snapshot := none }.put r.vals h.store.mapout } Obj.STORE_STATUS 2 := by
  simp only [storeDone, hsnap, if_true]

theorem storeDone_failed {h : Hub} {r : StoreRecord} (hr : h.routes.contains Obj.STORE_FAILED = false)
    (hi : h.intRoutes.contains Obj.STORE_FAILED = false) (hsnap : h.store.snapshot = some r) :
    storeDone h false = setN (setN (setN { h with store := { h.store with snapshot := none } } Obj.STORE_STATUS 3) Obj.STORE_FAILED 1)
      (Obj.STORE_FAILED + 1) ((getN h (Obj.STORE_FAILED + 1) + 1) % 256) := by
  have hcount : getN (setN { h with store := { h.store with snapshot := none } } Obj.STORE_STATUS 3) (Obj.STORE_FAILED + 1)
      = getN h (Obj.STORE_FAILED + 1) := getN_setN_other { h with store := { h.store with snapshot := none } } _ _ 3 (by decide)
  simp only [storeDone, hsnap, Bool.false_eq_true, if_false]
  rw [setFlag_unrouted (setN { h with store := { h.store with snapshot := none } } Obj.STORE_STATUS 3) Obj.STORE_FAILED hr hi, hcount]

/-- Settles O16: the record goes into the slot that is not in force, with a higher sequence. -/
theorem storedSetComesIntoForceVerified : Obligations.StoredSetComesIntoForceVerified := by
  intro s ok hq hr hi
  have hruns : runsAs (.storeDone ok) (fun _ h => storeDone h ok) := runsAs_of _ _ (fun _ => rfl)
  refine ⟨fun hnone => ?_, fun r hsnap hok => ?_, fun r hsnap hok => ?_⟩
  · exact exec_quiet_same hruns rfl hq (by simp only [storeDone, hnone])
  · subst hok
    refine ⟨_, exec_quiet_to hruns rfl hq (storeDone_verified hsnap) (watched_setN (by decide)), Store.snapshot_put _ _ _,
      Store.inForce_put _ _ _, fun old hold => Store.slot_put (s := { s.hub.store with snapshot := none }) hold _ _⟩
  · subst hok
    refine exec_quiet_to hruns rfl hq (storeDone_failed hr hi hsnap) ?_
    rw [watched_setN (by decide), watched_setN (by decide), watched_setN (by decide)]
    rfl

/-! The entropy source (R431) -/

theorem drbgSeed_eq (h : Hub) : drbgSeed h = { h with
    fresh := h.fresh + 1
    keys := { h.keys with drbgK := (drbgSeed h).keys.drbgK, drbgV := (drbgSeed h).keys.drbgV, drbgUses := 0 } } := rfl

theorem entropyFault_failed {h : Hub} (hr : h.routes.contains Obj.KS_ENTROPY_FAULT = false)
    (hi : h.intRoutes.contains Obj.KS_ENTROPY_FAULT = false) :
    entropyFault h false = setN (setN { h with keys := { h.keys with entropyBad := true } } Obj.KS_ENTROPY_FAULT 1)
      (Obj.KS_ENTROPY_FAULT + 1) ((getN h (Obj.KS_ENTROPY_FAULT + 1) + 1) % 256) :=
  setFlag_unrouted (setKeys h (fun k => { k with entropyBad := true })) Obj.KS_ENTROPY_FAULT hr hi

/-- Settles O48: a reseed writes the generator's state alone, a failed test the flag alone. -/
theorem entropyFaultStopsGeneration : Obligations.EntropyFaultStopsGeneration := by
  intro s hq hr hi
  have hruns (ok : Bool) : runsAs (.entropyFault ok) (fun _ h => entropyFault h ok) := runsAs_of _ _ (fun _ => rfl)
  refine ⟨⟨_, exec_quiet (hruns true) rfl hq rfl, ?_⟩, ?_⟩
  · exact congrArg (fun h' => { s with hub := h' }) (drbgSeed_eq (setKeys s.hub (fun k => { k with entropyBad := false })))
  · refine exec_quiet_to (hruns false) rfl hq (entropyFault_failed hr hi) ?_
    rw [watched_setN (by decide), watched_setN (by decide)]
    rfl

/-! The slot being programmed (R476) -/

theorem imageProgrammed_idle {h : Hub} (hnone : h.fw.writing = none) (ok : Bool) : imageProgrammed h ok = h := by
  simp only [imageProgrammed, hnone]

theorem imageProgrammed_read {h : Hub} {key : Nat} {im : Image} (hw : h.fw.writing = some (key, im)) (ok : Bool) :
    imageProgrammed h ok = setN { h with fw := { h.fw with
      writing := none, images := if ok then mset h.fw.images key im else h.fw.images } } Obj.FW_UPDATE_STATUS (if ok then 2 else 4) := by
  simp only [imageProgrammed, hw]
  rfl

/-- Settles O51: programming ends with the image in its slot exactly where the read-back passed. -/
theorem programmingEndsAsItReads : Obligations.ProgrammingEndsAsItReads := by
  intro s hq
  have hruns (ok : Bool) : runsAs (.imageProgrammed ok) (fun _ h => imageProgrammed h ok) := runsAs_of _ _ (fun _ => rfl)
  refine ⟨fun hnone ok => exec_quiet_same (hruns ok) rfl hq (imageProgrammed_idle hnone ok), fun key im hw => ⟨?_, ?_⟩⟩
  · exact exec_quiet_to (hruns true) rfl hq (imageProgrammed_read hw true) (watched_setN (by decide))
  · exact exec_quiet_to (hruns false) rfl hq (imageProgrammed_read hw false) (watched_setN (by decide))

/-! The alive output and power loss (R407) -/

theorem aliveRuns_iff (h : Hub) : aliveRuns h = true ↔
    h.part = .bw7740 ∧ getB h Obj.TW_ENABLE = true ∧ (getN h Obj.SEASON = 1 ∨ getN h Obj.SEASON = 2) ∧ h.twin.demoted = false := by
  simp [aliveRuns, hasTwin, seasonAlive, and_assoc]

/-- Without power every domain is Off, so no shed port sees its domain wake. -/
theorem followShed_powerLoss (h : Hub) : followShed h (powerLoss h) = powerLoss h := by
  have hoff (d : Nat) : domState (powerLoss h) d = 3 := rfl
  unfold followShed
  rw [List.filter_eq_nil_iff.2]
  · rfl
  · intro p _
    simp [hoff]

/-- Without the token no tamper makes the hub give it up. -/
theorem tamperedActive_powerLoss (h : Hub) : (isActive (powerLoss h) && tampered (powerLoss h)) = false := by
  have htoken : (powerLoss h).twin.token = false := rfl
  simp only [isActive, htoken, Bool.and_false, Bool.false_and]

/-- Settles O46: the toggle asks for what `aliveRuns` says; power loss stops the output, the token and the domains. -/
theorem aliveOutputTogglesUntilPowerIsLost : Obligations.AliveOutputTogglesUntilPowerIsLost := by
  intro s hq
  have htoggle : runsAs .twinAliveToggle (fun _ h => aliveToggle h) := runsAs_of _ _ (fun _ => rfl)
  have hloss : runsAs .powerLoss (fun _ h => powerLoss h) := runsAs_of _ _ (fun _ => rfl)
  refine ⟨fun hruns => ?_, fun hstands => ?_, ?_⟩
  · have hr : aliveRuns s.hub = true := (aliveRuns_iff s.hub).2 hruns
    refine exec_quiet_to htoggle rfl hq ?_ ?_
    · simp only [aliveToggle, hr, if_true, setTwin]
    · rfl
  · have hr : aliveRuns s.hub = false := Bool.eq_false_iff.2 (mt (aliveRuns_iff s.hub).1 hstands)
    exact exec_quiet_same htoggle rfl hq (by simp only [aliveToggle, hr, Bool.false_eq_true, if_false])
  · exact exec_alone .powerLoss _ s hloss rfl hq _ rfl rfl rfl rfl rfl rfl rfl rfl (followShed_powerLoss s.hub) rfl
      ((tamperedActive_powerLoss s.hub).trans (quiet_noTamper hq).symm) rfl rfl

/-! Pace readings (R383) -/

theorem paceReading_discarded {h : Hub} (bank logic : Nat) (tj : Int) {trusted : Bool}
    (hd : trusted = false ∨ h.bellows.request.isSome = true ∨ h.bellows.fault = true) :
    paceReading h bank logic tj trusted = setI h Obj.BW_TJ tj := by
  have hskip : (!trusted || (setI h Obj.BW_TJ tj).bellows.request.isSome || (setI h Obj.BW_TJ tj).bellows.fault) = true := by
    rcases hd with rfl | hreq | hfault
    · rfl
    · rw [show (setI h Obj.BW_TJ tj).bellows = h.bellows from rfl, hreq, Bool.or_true, Bool.true_or]
    · rw [show (setI h Obj.BW_TJ tj).bellows = h.bellows from rfl, hfault, Bool.or_true]
  simp only [paceReading, hskip, if_true]

theorem getN_peak_same (h : Hub) (k v : Nat) : getN (peak h k v) k = max (getN h k) v := by
  unfold peak
  split
  case isTrue hlt => rw [getN_setN_same, Nat.max_eq_right (Nat.le_of_lt hlt)]
  case isFalse hge => rw [Nat.max_eq_left (Nat.le_of_not_lt hge)]

theorem peak_eq (h : Hub) (k v : Nat) :
    ∃ d, peak h k v = { h with dict := d } ∧ ∀ k', canonKey k' ≠ canonKey k → getV (peak h k v) k' = getV h k' := by
  unfold peak
  split
  · exact ⟨_, rfl, fun k' hne => getV_setV_other h k k' _ hne⟩
  · exact ⟨h.dict, rfl, fun _ _ => rfl⟩

/-- What a trusted reading sets, but for the end of a raise. -/
def pacesRead (h : Hub) (bank logic : Nat) (tj : Int) : Hub :=
  let h := setI h Obj.BW_TJ tj
  let slow := h.bellows.slow || (decide (logic < 750) && (!h.bellows.read || decide (750 ≤ getN h Obj.BW_LOGIC_PACE)))
  setBellows (setN (setN h Obj.BW_PACE_NOW (min bank 1000)) Obj.BW_LOGIC_PACE logic) (fun b => { b with read := true, slow := slow })

/-- Admission sees no raise any more. -/
def admitFreely (h : Hub) : Hub := { h with hearth := { h.hearth with raising := false } }

/-- The end of a raise. -/
def raiseEnds (h : Hub) : Hub :=
  admitFreely (peak (setN h Obj.BW_RAISING 0) Obj.BW_RAISE_TIME_MAX (h.now - h.bellows.raiseStart))

theorem paceReading_trusted {h : Hub} (bank logic : Nat) (tj : Int) (hreq : h.bellows.request = none) (hfault : h.bellows.fault = false) :
    paceReading h bank logic tj true =
      if getB (pacesRead h bank logic tj) Obj.BW_RAISING then raiseEnds (pacesRead h bank logic tj) else pacesRead h bank logic tj := by
  have hread : (!true || (setI h Obj.BW_TJ tj).bellows.request.isSome || (setI h Obj.BW_TJ tj).bellows.fault) = false := by
    rw [show (setI h Obj.BW_TJ tj).bellows = h.bellows from rfl, hreq, hfault]
    rfl
  simp only [paceReading, hread, Bool.false_eq_true, if_false]
  rfl

theorem getV_pacesRead_other (h : Hub) (bank logic : Nat) (tj : Int) {k : Nat}
    (hk : ∀ w ∈ [Obj.BW_TJ, Obj.BW_PACE_NOW, Obj.BW_LOGIC_PACE], canonKey k ≠ canonKey w) : getV (pacesRead h bank logic tj) k = getV h k := by
  have hlogic := getV_setV_other (setN (setI h Obj.BW_TJ tj) Obj.BW_PACE_NOW (min bank 1000)) Obj.BW_LOGIC_PACE k (.int logic) (hk _ (by simp))
  have hpace := getV_setV_other (setI h Obj.BW_TJ tj) Obj.BW_PACE_NOW k (.int (min bank 1000 : Nat)) (hk _ (by simp))
  exact hlogic.trans (hpace.trans (getV_setV_other h Obj.BW_TJ k (.int tj) (hk _ (by simp))))

theorem getN_pacesRead_other (h : Hub) (bank logic : Nat) (tj : Int) {k : Nat}
    (hk : ∀ w ∈ [Obj.BW_TJ, Obj.BW_PACE_NOW, Obj.BW_LOGIC_PACE], canonKey k ≠ canonKey w) : getN (pacesRead h bank logic tj) k = getN h k := by
  simp only [getN, getI, getV_pacesRead_other h bank logic tj hk]

theorem pacesRead_eq (h : Hub) (bank logic : Nat) (tj : Int) : ∃ d b, pacesRead h bank logic tj = { h with dict := d, bellows := b } :=
  ⟨_, _, rfl⟩

/-- What a reading leaves of the three objects that it gives. -/
def showsReading (h : Hub) (bank logic : Nat) (tj : Int) : Prop :=
  getI h Obj.BW_TJ = tj ∧ getN h Obj.BW_PACE_NOW = min bank 1000 ∧ getN h Obj.BW_LOGIC_PACE = logic

theorem showsReading_pacesRead (h : Hub) (bank logic : Nat) (tj : Int) : showsReading (pacesRead h bank logic tj) bank logic tj := by
  refine ⟨?_, ?_, getN_setN_same _ _ _⟩
  · have htj : getV (pacesRead h bank logic tj) Obj.BW_TJ = getV (setI h Obj.BW_TJ tj) Obj.BW_TJ :=
      (getV_setV_other (setN (setI h Obj.BW_TJ tj) Obj.BW_PACE_NOW (min bank 1000)) Obj.BW_LOGIC_PACE Obj.BW_TJ _ (by decide)).trans
        (getV_setV_other (setI h Obj.BW_TJ tj) Obj.BW_PACE_NOW Obj.BW_TJ _ (by decide))
    rw [getI, htj, setI, getV_setV_same]
    rfl
  · exact (getN_setN_other (setN (setI h Obj.BW_TJ tj) Obj.BW_PACE_NOW (min bank 1000)) Obj.BW_LOGIC_PACE Obj.BW_PACE_NOW logic (by decide)).trans
      (getN_setN_same (setI h Obj.BW_TJ tj) Obj.BW_PACE_NOW (min bank 1000))

theorem raiseEnds_eq (h : Hub) : ∃ d, raiseEnds h = { h with dict := d, hearth := { h.hearth with raising := false } } := by
  obtain ⟨d, hd, -⟩ := peak_eq (setN h Obj.BW_RAISING 0) Obj.BW_RAISE_TIME_MAX (h.now - h.bellows.raiseStart)
  exact ⟨d, congrArg admitFreely hd⟩

theorem getV_raiseEnds_other (h : Hub) {k : Nat} (hk : ∀ w ∈ [Obj.BW_RAISING, Obj.BW_RAISE_TIME_MAX], canonKey k ≠ canonKey w) :
    getV (raiseEnds h) k = getV h k := by
  obtain ⟨-, -, hother⟩ := peak_eq (setN h Obj.BW_RAISING 0) Obj.BW_RAISE_TIME_MAX (h.now - h.bellows.raiseStart)
  exact (hother k (hk _ (by simp))).trans (getV_setV_other h Obj.BW_RAISING k (.int (0 : Nat)) (hk _ (by simp)))

theorem showsReading_raiseEnds {h : Hub} {bank logic : Nat} {tj : Int} (hs : showsReading h bank logic tj) :
    showsReading (raiseEnds h) bank logic tj := by
  simp only [showsReading, getN, getI] at hs ⊢
  rwa [getV_raiseEnds_other h (by decide), getV_raiseEnds_other h (by decide), getV_raiseEnds_other h (by decide)]

theorem getB_raiseEnds (h : Hub) : getB (raiseEnds h) Obj.BW_RAISING = false := by
  obtain ⟨-, -, hother⟩ := peak_eq (setN h Obj.BW_RAISING 0) Obj.BW_RAISE_TIME_MAX (h.now - h.bellows.raiseStart)
  have hsame : getV (raiseEnds h) Obj.BW_RAISING = getV (setN h Obj.BW_RAISING 0) Obj.BW_RAISING := hother _ (by decide)
  rw [getB, getN, getI, hsame, setN, getV_setV_same]
  rfl

theorem getN_raiseEnds_longest (h : Hub) : getN (raiseEnds h) Obj.BW_RAISE_TIME_MAX
    = max (getN h Obj.BW_RAISE_TIME_MAX) (h.now - h.bellows.raiseStart) :=
  (getN_peak_same (setN h Obj.BW_RAISING 0) _ _).trans
    (congrArg (max · _) (getN_setN_other h Obj.BW_RAISING Obj.BW_RAISE_TIME_MAX 0 (by decide)))

theorem watched_pacesRead (h : Hub) (bank logic : Nat) (tj : Int) : watched (pacesRead h bank logic tj) = watched h := by
  calc watched (pacesRead h bank logic tj)
      = watched (setN (setN (setI h Obj.BW_TJ tj) Obj.BW_PACE_NOW (min bank 1000)) Obj.BW_LOGIC_PACE logic) := rfl
    _ = watched h := by rw [watched_setN (by decide), watched_setN (by decide), watched_setI (by decide)]

theorem watched_raiseEnds (h : Hub) : watched (raiseEnds h) = watched h := by
  have hpeak (x : Hub) (v : Nat) : watched (peak x Obj.BW_RAISE_TIME_MAX v) = watched x := by
    unfold peak
    split
    · exact watched_setN (by decide)
    · rfl
  exact (hpeak (setN h Obj.BW_RAISING 0) (h.now - h.bellows.raiseStart)).trans (watched_setN (by decide))

/-- Settles O43: a reading sets three objects, and the first trusted one ends the raise with a peak. -/
theorem trustedReadingEndsTheRaise : Obligations.TrustedReadingEndsTheRaise := by
  intro s bank logic tj trusted hq
  have hruns : runsAs (.paceReading bank logic tj trusted) (fun _ h => paceReading h bank logic tj trusted) := runsAs_of _ _ (fun _ => rfl)
  refine ⟨fun hd => ?_, fun htrust hreq hfault => ?_⟩
  · exact exec_quiet_to hruns rfl hq (paceReading_discarded bank logic tj hd) (watched_setI (by decide))
  · subst htrust
    have hraising : getB (pacesRead s.hub bank logic tj) Obj.BW_RAISING = getB s.hub Obj.BW_RAISING := by
      rw [getB, getN_pacesRead_other s.hub bank logic tj (by decide), getB]
    obtain ⟨d, b, hpaces⟩ := pacesRead_eq s.hub bank logic tj
    have heff := paceReading_trusted bank logic tj hreq hfault
    rw [hraising] at heff
    cases hr : getB s.hub Obj.BW_RAISING with
    | true =>
      rw [hr, if_pos rfl] at heff
      obtain ⟨d', hd⟩ := raiseEnds_eq (pacesRead s.hub bank logic tj)
      obtain ⟨htj, hnow, hlogic⟩ := showsReading_raiseEnds (showsReading_pacesRead s.hub bank logic tj)
      refine ⟨_, exec_quiet_to hruns rfl hq heff ((watched_raiseEnds _).trans (watched_pacesRead s.hub bank logic tj)), htj, hnow, hlogic,
        getB_raiseEnds _, fun _ => ⟨rfl, ?_⟩, (nomatch ·), ?_⟩
      · have hlongest := getN_raiseEnds_longest (pacesRead s.hub bank logic tj)
        rwa [getN_pacesRead_other s.hub bank logic tj (by decide)] at hlongest
      · rw [hd, hpaces]
    | false =>
      rw [hr, if_neg Bool.false_ne_true] at heff
      obtain ⟨htj, hnow, hlogic⟩ := showsReading_pacesRead s.hub bank logic tj
      refine ⟨_, exec_quiet_to hruns rfl hq heff (watched_pacesRead s.hub bank logic tj), htj, hnow, hlogic, hraising.trans hr,
        (nomatch ·), fun _ => ?_, ?_⟩
      · rw [hpaces]
      · rw [hpaces]

/-! Credits of a link port of the switch (R247) -/

theorem updateFc_idle {h : Hub} {p : Nat} (t limit : Nat) (hwait : waitList h p = []) (hback : backList h p = []) :
    updateFc h p t limit = { h with pcie := { h.pcie with outLimit := mset h.pcie.outLimit (8 * p + t) (limit % crModulus t) } } := by
  have hwait' : waitList (setPcie h (fun x => { x with outLimit := mset x.outLimit (8 * p + t) (limit % crModulus t) })) p = [] := hwait
  have hback' : backList (setPcie h (fun x => { x with outLimit := mset x.outLimit (8 * p + t) (limit % crModulus t) })) p = [] := hback
  simp only [updateFc, hwait', hback', List.isEmpty_nil, Bool.and_self, if_true]
  rfl

/-- Settles O31: with no TLP waiting at the port nothing drains. -/
theorem updateFcSetsTheCredits : Obligations.UpdateFcSetsTheCredits := by
  intro s p t limit hq hp ht hwait hback
  have hwf : (Instr.updateFc p t limit).wf = true := by simpa [Instr.wf] using And.intro hp ht
  refine exec_quiet_to (runsAs_of (.updateFc p t limit) (fun _ h => updateFc h p t limit) (fun _ => rfl)) hwf hq ?_ ?_
  · rw [updateFc_idle t limit hwait hback, crModulus]
    simp only [beq_iff_eq]
  · rfl

/-! Lost time sources (R227) -/

/-- A hub without a twin follows no other hub's time. -/
theorem following_alone {h : Hub} (ht : getN h Obj.TW_STATE = 0) : following h = false := by
  simp [following, ht]

/-- What a lost source leaves before another one is taken. -/
def sourceLeft (h : Hub) (src : TimeSrc) : Hub :=
  { h with time := { h.time with
      qualified := h.time.qualified.filter (· != srcCode src)
      announces := if src = .gptp then (match h.time.syncMac with | some m => merase h.time.announces m | none => []) else h.time.announces
      syncMac := if src = .gptp then none else h.time.syncMac
      ptm := if src = .ptm then [] else h.time.ptm } }

theorem timeLost_eq (h : Hub) (src : TimeSrc) :
    timeLost h src = if h.time.inUse = srcCode src then selectSource (sourceLeft h src) else sourceLeft h src := by
  unfold timeLost
  cases src <;> exact ite_congr (propext beq_iff_eq) (fun _ => rfl) (fun _ => rfl)

theorem srcCode_not_left (h : Hub) (src : TimeSrc) : srcCode src ∉ (sourceLeft h src).time.qualified := by
  simp [sourceLeft]

theorem bestSource_qualified {h : Hub} {b : Nat} (hb : bestSource h = some b) : b ∈ h.time.qualified := by
  simpa using List.find?_some hb

theorem selectSource_some {h : Hub} {b : Nat} (hf : following h = false) (hb : bestSource h = some b) (hne : h.time.inUse ≠ b) :
    selectSource h = setN { h with time := { h.time with inUse := b } } Obj.TIME_SOURCE b := by
  simp only [selectSource, hf, hb, beq_eq_false_iff_ne.2 hne, Bool.false_eq_true, if_false]
  rfl

theorem selectSource_none {h : Hub} (hf : following h = false) (hb : bestSource h = none) (hne : h.time.inUse ≠ 0)
    (hr : h.routes.contains Obj.TIME_HOLDOVER = false) (hi : h.intRoutes.contains Obj.TIME_HOLDOVER = false) :
    selectSource h = setN (setN { h with time := { h.time with inUse := 0 } } Obj.TIME_HOLDOVER 1) (Obj.TIME_HOLDOVER + 1)
      ((getN h (Obj.TIME_HOLDOVER + 1) + 1) % 256) := by
  simp only [selectSource, hf, hb, beq_eq_false_iff_ne.2 hne, Bool.false_eq_true, if_false]
  exact setFlag_unrouted (setTime h (fun t => { t with inUse := 0 })) Obj.TIME_HOLDOVER hr hi

/-- Settles O30: the lost source is not among those that qualify, so the source in use changes. -/
theorem lostTimeSourceIsLeft : Obligations.LostTimeSourceIsLeft := by
  intro s src hq hr hi left
  have hruns : runsAs (.timeSourceLost src) (fun _ h => timeLost h src) := runsAs_of _ _ (fun _ => rfl)
  have hleft : left = sourceLeft s.hub src := rfl
  clear_value left
  subst hleft
  have halone : following (sourceLeft s.hub src) = false := following_alone (quiet_noTwin hq)
  refine ⟨fun hother => ?_, fun huse => ?_⟩
  · exact exec_quiet_to hruns rfl hq ((timeLost_eq _ _).trans (if_neg hother)) rfl
  · have heff : timeLost s.hub src = selectSource (sourceLeft s.hub src) := (timeLost_eq _ _).trans (if_pos huse)
    have hinUse : (sourceLeft s.hub src).time.inUse = srcCode src := huse
    cases hb : bestSource (sourceLeft s.hub src) with
    | some b =>
      have hne : (sourceLeft s.hub src).time.inUse ≠ b := by
        rintro rfl
        exact srcCode_not_left s.hub src (hinUse ▸ bestSource_qualified hb)
      rw [selectSource_some halone hb hne] at heff
      refine ⟨_, exec_quiet_to hruns rfl hq heff (watched_setN (by decide)), rfl, rfl, srcCode_not_left s.hub src,
        fun b' hb' => ?_, (nomatch ·), rfl⟩
      obtain rfl := Option.some.inj hb'
      exact ⟨rfl, getN_setN_same _ _ _⟩
    | none =>
      have hne : (sourceLeft s.hub src).time.inUse ≠ 0 := by
        rw [hinUse]
        cases src <;> decide
      rw [selectSource_none halone hb hne hr hi] at heff
      refine ⟨_, exec_quiet_to hruns rfl hq heff ?_, rfl, rfl, srcCode_not_left s.hub src,
        (fun _ hsome => nomatch hsome), fun _ => ⟨rfl, ?_⟩, rfl⟩
      · rw [watched_setN (by decide), watched_setN (by decide)]
        rfl
      · rw [getN_setN_other _ _ _ _ (by decide), getN_setN_same]

/-! PAUSE (R221) -/

theorem pauseKeys_apart : ∀ m < 6, unwatched (Obj.RX_PAUSE m) = true ∧ canonKey (Obj.PAUSE_RX m) ≠ canonKey (Obj.RX_PAUSE m)
    ∧ (rowAt (keyIdx (Obj.RX_PAUSE m)) (keySub (Obj.RX_PAUSE m))).map (·.ty.size) = some 8 := by
  decide

theorem mem_insertNew {α : Type} [DecidableEq α] (l : List α) (x y : α) : y ∈ insertNew l x ↔ y ∈ l ∨ y = x := by
  unfold insertNew
  grind

/-- The ports held after a PAUSE of time `q`, or the expiry of one. -/
def heldPorts (l : List Nat) (p q : Nat) : List Nat := if q == 0 then l.filter (· != p) else insertNew l p

theorem self_mem_heldPorts (l : List Nat) (p q : Nat) : p ∈ heldPorts l p q ↔ 0 < q := by
  unfold heldPorts
  split
  case isTrue hq => simp [beq_iff_eq.1 hq]
  case isFalse hq => simpa [mem_insertNew, Nat.pos_iff_ne_zero] using hq

theorem mem_heldPorts_other (l : List Nat) (p q : Nat) {p' : Nat} (hne : p' ≠ p) : p' ∈ heldPorts l p q ↔ p' ∈ l := by
  unfold heldPorts
  split
  · simp [hne]
  · simp [mem_insertNew, hne]

theorem macPause_stopped {h : Hub} {m : Nat} (hrun : macRuns h m = false) (q : Nat) : macPause h m q = h := by
  simp only [macPause, hrun, Bool.not_false, if_true]

theorem macPause_running {h : Hub} {m : Nat} (hm : m < 6) (hrun : macRuns h m = true) (q : Nat) :
    macPause h m q = if getB h (Obj.PAUSE_RX m)
      then { bump h (Obj.RX_PAUSE m) with grate := { h.grate with stalled := heldPorts h.grate.stalled (macGrate m) q } }
      else bump h (Obj.RX_PAUSE m) := by
  obtain ⟨-, happart, -⟩ := pauseKeys_apart m hm
  have hrx : getB (bump h (Obj.RX_PAUSE m)) (Obj.PAUSE_RX m) = getB h (Obj.PAUSE_RX m) := getB_setN_other h _ _ _ happart
  simp only [macPause, hrun, Bool.not_true, Bool.false_eq_true, if_false, hrx]
  rfl

/-- Settles O29: a running MAC counts the frame, and the hold is the MAC's place in the list of held ports. -/
theorem pauseHoldsTheMac : Obligations.PauseHoldsTheMac := by
  intro s m q hq hm hquanta
  have hm' : m < 6 := by simpa [macWf] using hm
  have hwf : (Instr.pauseFrame m q).wf = true := by simp [Instr.wf, hm, hquanta]
  have hframe : runsAs (.pauseFrame m q) (fun _ h => macPause h m q) := runsAs_of _ _ (fun _ => rfl)
  have hexpiry : runsAs (.pauseExpiry m) (fun _ h => macPauseEnd h m) := runsAs_of _ _ (fun _ => rfl)
  obtain ⟨hfree, -, hsize⟩ := pauseKeys_apart m hm'
  refine ⟨fun hrun hoff => ?_, fun hrun hon => ?_, fun hstop => ?_, ?_⟩
  · have heff := macPause_running hm' hrun q
    rw [hoff, if_neg Bool.false_ne_true] at heff
    exact exec_quiet_to hframe hwf hq heff (watched_bump hfree)
  · have heff := macPause_running hm' hrun q
    rw [hon, if_pos rfl] at heff
    refine ⟨_, exec_quiet_to hframe hwf hq heff (watched_bump hfree), self_mem_heldPorts _ _ _,
      fun p hp => mem_heldPorts_other _ _ _ hp, ?_, rfl⟩
    calc getN (bump s.hub (Obj.RX_PAUSE m)) (Obj.RX_PAUSE m)
        = getN (setN s.hub (Obj.RX_PAUSE m) ((getN s.hub (Obj.RX_PAUSE m) + 1) % 2 ^ 64)) (Obj.RX_PAUSE m) := by
          rw [bump, addN_eq s.hub _ 1 8 hsize]
      _ = (getN s.hub (Obj.RX_PAUSE m) + 1) % 2 ^ 64 := getN_setN_same _ _ _
  · exact exec_quiet_same hframe hwf hq (macPause_stopped hstop q)
  · refine ⟨_, exec_quiet hexpiry hm hq rfl, ?_, fun p hp => mem_heldPorts_other _ _ 0 hp, rfl⟩
    exact mt (self_mem_heldPorts s.hub.grate.stalled (macGrate m) 0).1 (Nat.lt_irrefl 0)

end Sys2Proof.Machine
end

section
/-! PROOFS. Panel-timed heads, receivers of lanes, the Guards' epochs and violation log, and the credits of USB4 paths, on a quiet hub. -/

namespace Sys2Proof.Machine

/-! Panel-timed heads (R282) -/

/-- TE_C triggers the head. -/
def teTriggers (h : Hub) (hd : Nat) : Bool := feedsC h hd && getN h (Obj.H_SYNC_MODE hd) == 2 && (headOfHub h hd).running

/-- What TE_C does to one head. -/
def teHead (h : Hub) (hd : Nat) : Hub := if feedsC h hd then trigger h hd 2 else h

theorem headOfHub_putHead_same (h : Hub) (hd : Nat) (x : Head) : headOfHub (putHead h hd x) hd = x :=
  mget_mset_same _ _ _ _

theorem headOfHub_putHead_other (h : Hub) {hd hd' : Nat} (x : Head) (hne : hd' ≠ hd) : headOfHub (putHead h hd x) hd' = headOfHub h hd' :=
  mget_mset_other _ _ _ _ _ hne

theorem teHead_eq (h : Hub) (hd : Nat) : teHead h hd
    = if teTriggers h hd then putHead h hd { headOfHub h hd with latched := true } else h := by
  unfold teHead trigger teTriggers
  cases feedsC h hd <;> rfl

theorem teHead_frame (h : Hub) (hd : Nat) : ∃ l, teHead h hd = { h with heads := l } := by
  rw [teHead_eq]
  split
  · exact ⟨_, rfl⟩
  · exact ⟨h.heads, rfl⟩

theorem headOfHub_teHead_same (h : Hub) (hd : Nat) : headOfHub (teHead h hd) hd
    = if teTriggers h hd then { headOfHub h hd with latched := true } else headOfHub h hd := by
  rw [teHead_eq]
  split
  · exact headOfHub_putHead_same _ _ _
  · rfl

theorem headOfHub_teHead_other (h : Hub) {hd hd' : Nat} (hne : hd' ≠ hd) : headOfHub (teHead h hd) hd' = headOfHub h hd' := by
  rw [teHead_eq]
  split
  · exact headOfHub_putHead_other _ _ hne
  · rfl

theorem teTriggers_teHead_other (h : Hub) {hd hd' : Nat} (hne : hd' ≠ hd) : teTriggers (teHead h hd) hd' = teTriggers h hd' := by
  obtain ⟨l, hl⟩ := teHead_frame h hd
  have hobj (k : Nat) : getN (teHead h hd) k = getN h k := by rw [hl]; rfl
  simp only [teTriggers, feedsC, hobj, headOfHub_teHead_other h hne]

theorem forEach_teHead_frame (l : List Nat) (h : Hub) : ∃ x, forEach l h teHead = { h with heads := x } := by
  refine forEach_inv (fun y => ∃ x, y = { h with heads := x }) l h teHead ⟨h.heads, rfl⟩ (fun y hd hy => ?_)
  obtain ⟨x, rfl⟩ := hy
  obtain ⟨x', hx'⟩ := teHead_frame { h with heads := x } hd
  exact ⟨x', hx'⟩

/-- Each head sees the trigger that it had before the others. -/
theorem headOfHub_forEach_teHead {l : List Nat} (hl : l.Nodup) (h : Hub) (hd : Nat) : headOfHub (forEach l h teHead) hd
    = if hd ∈ l ∧ teTriggers h hd = true then { headOfHub h hd with latched := true } else headOfHub h hd := by
  induction l generalizing h with
  | nil => simp [forEach]
  | cons a r ih =>
    obtain ⟨ha, hr⟩ := List.nodup_cons.1 hl
    have hstep : headOfHub (forEach (a :: r) h teHead) hd = headOfHub (forEach r (teHead h a) teHead) hd := rfl
    rw [hstep, ih hr]
    by_cases he : hd = a
    · subst he
      simp [ha, headOfHub_teHead_same]
    · simp [he, headOfHub_teHead_other h he, teTriggers_teHead_other h he]

/-- Settles O36: each of the four heads is triggered on its own. -/
theorem teEdgeTriggersThePanelTimedHead : Obligations.TeEdgeTriggersThePanelTimedHead := by
  intro s hq
  have hruns : runsAs .teCEdge (fun _ h => teEdge h) := runsAs_of _ _ (fun _ => rfl)
  obtain ⟨x, hx⟩ := forEach_teHead_frame (List.range 4) s.hub
  have heff : teEdge s.hub = { s.hub with heads := x } := hx
  have hheads (hd : Nat) : headOfHub { s.hub with heads := x } hd = _ := hx ▸ headOfHub_forEach_teHead List.nodup_range s.hub hd
  refine ⟨_, exec_quiet_to hruns rfl hq heff rfl, fun hd hlt hfeeds hmode hrun => ?_, fun hd hlt hno => ?_, rfl⟩
  · exact (hheads hd).trans (if_pos ⟨List.mem_range.2 hlt, by simp [teTriggers, hfeeds, hmode, hrun]⟩)
  · refine (hheads hd).trans (if_neg fun hyes => hno ?_)
    simpa [teTriggers, and_assoc] using hyes.2

/-! Receivers (R361, R362, R368) -/

theorem lane_updLane (h : Hub) (l : Nat) (f : Lane → Lane) : lane (updLane h l f) l = f (lane h l) := mget_mset_same _ _ _ _

theorem atLane_present {h : Hub} {l : Nat} (hpart : h.part.has (laneUnit l) = true) (f : Hub → Hub) : atLane h l f = f h := by
  simp only [atLane, whenH, hpart, if_true]

theorem length_dfeMoved (taps moves : List Int) : (dfeMoved taps moves).length = 12 := by
  simp [dfeMoved]

theorem dfeMoved_step {taps : List Int} (moves : List Int) {i : Nat} (hi : i < 12)
    (hrange : -128 ≤ nth taps i 0 ∧ nth taps i 0 ≤ 127) : nth (dfeMoved taps moves) i 0 - nth taps i 0 ∈ [(-1 : Int), 0, 1] := by
  have hnth : nth (dfeMoved taps moves) i 0 = max (-128) (min 127 (nth taps i 0 + max (-1) (min 1 (nth moves i 0)))) :=
    nth_map_range _ _ hi
  rw [hnth]
  simp only [List.mem_cons, List.not_mem_nil, or_false]
  omega

theorem ctleMoved_step {code : Nat} (move : Int) (hcode : code ≤ 31) :
    ctleMoved code move ≤ 31 ∧ ctleMoved code move ≤ code + 1 ∧ code ≤ ctleMoved code move + 1 := by
  simp only [ctleMoved, oneStep]
  omega

theorem dfeAdapt_first {h : Hub} {l : Nat} (moves : List Int) (hadapts : adapts h l = true) :
    dfeAdapt h l moves false = updLane h l (fun x => { noteTaps h x with taps := dfeMoved x.taps moves }) := by
  simp only [dfeAdapt, hadapts, if_true, Bool.false_eq_true, if_false]

theorem dfeAdapt_second {h : Hub} {l : Nat} (moves : List Int) (hadapts : adapts h l = true) (hrev : (lane h l).rev = 1) :
    dfeAdapt h l moves true = updLane h l (fun x => { noteTaps2 h x with taps2 := dfeMoved x.taps2 moves }) := by
  simp only [dfeAdapt, hadapts, hrev, beq_self_eq_true, if_true]

theorem ctleAdapt_first {h : Hub} {l : Nat} (move : Int) (hadapts : adapts h l = true) (hmode : getN h (Obj.RX_CTLE_MODE l) = 0) :
    ctleAdapt h l move false = updLane h l (fun x => { noteTaps h x with code := ctleMoved x.code move }) := by
  simp only [ctleAdapt, hadapts, hmode, beq_self_eq_true, Bool.and_self, if_true, Bool.false_eq_true, if_false]

theorem ctleAdapt_second {h : Hub} {l : Nat} (move : Int) (hadapts : adapts h l = true) (hmode : getN h (Obj.RX_CTLE_MODE l) = 0)
    (hrev : (lane h l).rev = 1) :
    ctleAdapt h l move true = updLane h l (fun x => { noteTaps2 h x with code2 := ctleMoved x.code2 move }) := by
  simp only [ctleAdapt, hadapts, hmode, hrev, beq_self_eq_true, Bool.and_self, if_true]

/-- A receiver that does not adapt, or one that the lane does not have, is left. -/
theorem dfeAdapt_idle {h : Hub} {l : Nat} {second : Bool} (moves : List Int)
    (hidle : adapts h l = false ∨ (second = true ∧ (lane h l).rev ≠ 1)) : dfeAdapt h l moves second = h := by
  rcases hidle with hoff | ⟨rfl, hrev⟩
  · simp [dfeAdapt, hoff]
  · simp [dfeAdapt, hrev]

theorem ctleAdapt_idle {h : Hub} {l : Nat} {second : Bool} (move : Int)
    (hidle : adapts h l = false ∨ (second = true ∧ (lane h l).rev ≠ 1)) : ctleAdapt h l move second = h := by
  rcases hidle with hoff | ⟨rfl, hrev⟩
  · simp [ctleAdapt, hoff]
  · simp [ctleAdapt, hrev]

theorem ctleAdapt_fixed {h : Hub} {l : Nat} (second : Bool) (move : Int) (hmode : getN h (Obj.RX_CTLE_MODE l) ≠ 0) :
    ctleAdapt h l move second = h := by
  simp [ctleAdapt, hmode]

/-- On a quiet hub, a command that writes one lane's state changes that state and nothing else. -/
theorem exec_updLane {i : Instr} {f : List Host.Cell → Hub → Hub} {s : State} {l : Nat} {g : Lane → Lane} (hi : runsAs i f)
    (hw : i.wf = true) (hq : quiet s) (hf : f s.mem s.hub = updLane s.hub l g) : exec i s = .next { s with hub := updLane s.hub l g } :=
  exec_quiet_to hi hw hq hf rfl

/-- Settles O40: a step writes the one value and the receiver's history. -/
theorem adaptationMovesByOneStep : Obligations.AdaptationMovesByOneStep := by
  intro s l moves move hq hwf hpart
  have hat (f : Hub → Hub) : atLane s.hub l f = f s.hub := atLane_present hpart f
  have hdfe (second : Bool) : runsAs (.dfeAdaptStep ⟨l, second⟩ moves) (fun _ h => atLane h l (fun h => dfeAdapt h l moves second)) :=
    runsAs_of _ _ (fun _ => rfl)
  have hctle (second : Bool) : runsAs (.ctleAdaptStep ⟨l, second⟩ move) (fun _ h => atLane h l (fun h => ctleAdapt h l move second)) :=
    runsAs_of _ _ (fun _ => rfl)
  refine ⟨fun hadapts hrange => ?_, fun hadapts hrev hrange => ?_, fun hadapts hmode hcode => ?_, fun hadapts hrev hmode hcode => ?_,
    fun second hidle => ⟨?_, ?_⟩, fun second hmode => ?_⟩
  · refine ⟨_, exec_updLane (hdfe false) hwf hq ((hat _).trans (dfeAdapt_first moves hadapts)), ?_, fun i hi => ?_, ?_⟩
    · rw [lane_updLane]
      exact length_dfeMoved _ _
    · rw [lane_updLane]
      exact dfeMoved_step moves hi (hrange i)
    · rw [lane_updLane]
      rfl
  · refine ⟨_, exec_updLane (hdfe true) hwf hq ((hat _).trans (dfeAdapt_second moves hadapts hrev)), ?_, fun i hi => ?_, ?_⟩
    · rw [lane_updLane]
      exact length_dfeMoved _ _
    · rw [lane_updLane]
      exact dfeMoved_step moves hi (hrange i)
    · rw [lane_updLane]
      rfl
  · obtain ⟨hmax, hup, hdown⟩ := ctleMoved_step move hcode
    refine ⟨_, exec_updLane (hctle false) hwf hq ((hat _).trans (ctleAdapt_first move hadapts hmode)), ?_⟩
    rw [lane_updLane]
    exact ⟨hmax, hup, hdown, rfl⟩
  · obtain ⟨hmax, hup, hdown⟩ := ctleMoved_step move hcode
    refine ⟨_, exec_updLane (hctle true) hwf hq ((hat _).trans (ctleAdapt_second move hadapts hmode hrev)), ?_⟩
    rw [lane_updLane]
    exact ⟨hmax, hup, hdown, rfl⟩
  · exact exec_quiet_same (hdfe second) hwf hq ((hat _).trans (dfeAdapt_idle moves hidle))
  · exact exec_quiet_same (hctle second) hwf hq ((hat _).trans (ctleAdapt_idle move hidle))
  · exact exec_quiet_same (hctle second) hwf hq ((hat _).trans (ctleAdapt_fixed second move hmode))

/-- The objects of a lane that a scan and a PRBS checker write are not watched, and EYE_SCANS is not one of the margins. -/
theorem laneKeys_unwatched : ∀ l < 42, unwatched (Obj.EYE_HEIGHT l) = true ∧ unwatched (Obj.EYE_WIDTH l) = true
    ∧ unwatched (Obj.EYE_SCANS l) = true ∧ unwatched (Obj.PRBS_SYNC l) = true := by
  decide +kernel

theorem eyeScan_inactive {h : Hub} {l : Nat} (hoff : typeB l = true ∨ (lane h l).rx ≠ 3) (height width : Nat) (second : Option (Nat × Nat)) :
    eyeScan h l height width second = h := by
  rcases hoff with htype | hrx
  · simp [eyeScan, htype]
  · simp [eyeScan, hrx]

theorem eyeScan_active {h : Hub} {l : Nat} (htype : typeB l = false) (hrx : (lane h l).rx = 3) (height width : Nat)
    (second : Option (Nat × Nat)) : eyeScan h l height width second
      = bump (setN (setN h (Obj.EYE_HEIGHT l) (eyeMargin (lane h l).rev (height, width) second).1) (Obj.EYE_WIDTH l)
          (eyeMargin (lane h l).rev (height, width) second).2) (Obj.EYE_SCANS l) := by
  simp [eyeScan, htype, hrx]

theorem eyeMargin_one {rev : Nat} {second : Option (Nat × Nat)} (hone : rev ≠ 1 ∨ second = none) (a : Nat × Nat) :
    eyeMargin rev a second = a := by
  unfold eyeMargin
  split
  · simp [hone.resolve_right (by simp)]
  · rfl

theorem eyeMargin_two (a b : Nat × Nat) : (eyeMargin 1 a (some b)).1 = min a.1 b.1 := by
  simp only [eyeMargin, beq_self_eq_true, Bool.true_and]
  grind

theorem prbsGained_checked {h : Hub} {l : Nat} (hpattern : getN h (Obj.PRBS_RX l) ≠ 0) (hsync : getB h (Obj.PRBS_SYNC l) = false)
    (hown : ownPattern h l ≠ some false) :
    prbsGained h l = setN (updLane h l (fun x => { x with prbsRem := 0 })) (Obj.PRBS_SYNC l) 1 := by
  simp [prbsGained, hpattern, hsync, hown]

theorem prbsGained_unchecked {h : Hub} {l : Nat}
    (hno : getN h (Obj.PRBS_RX l) = 0 ∨ getB h (Obj.PRBS_SYNC l) = true ∨ ownPattern h l = some false) : prbsGained h l = h := by
  rcases hno with hpattern | hsync | hown
  · simp [prbsGained, hpattern]
  · simp [prbsGained, hsync]
  · simp [prbsGained, hown]

theorem prbsLost_synced {h : Hub} {l : Nat} (hsync : getB h (Obj.PRBS_SYNC l) = true)
    (hloop : getN h (Obj.LN_LOOP l) ≠ 2 ∨ ownPattern h l ≠ some true) (bits errors : Nat) :
    prbsLost h l bits errors = setN (prbsCount h l bits errors) (Obj.PRBS_SYNC l) 0 := by
  rcases hloop with hmode | hown
  · simp [prbsLost, hsync, hmode]
  · simp [prbsLost, hsync, hown]

theorem prbsLost_held {h : Hub} {l : Nat}
    (hno : getB h (Obj.PRBS_SYNC l) = false ∨ (getN h (Obj.LN_LOOP l) = 2 ∧ ownPattern h l = some true)) (bits errors : Nat) :
    prbsLost h l bits errors = h := by
  rcases hno with hsync | ⟨hmode, hown⟩
  · simp [prbsLost, hsync]
  · simp [prbsLost, hmode, hown]

/-- Settles O41: a scan writes the margins and its count, a checker its lane's counts and PRBS_SYNC. -/
theorem eyeScanReplacesBothValues : Obligations.EyeScanReplacesBothValues := by
  intro s l height width second hq hwf hpart
  obtain ⟨hheight, hwidth, hscans, hprbs⟩ := laneKeys_unwatched l (by simpa [laneWf] using hwf)
  have hat (f : Hub → Hub) : atLane s.hub l f = f s.hub := atLane_present hpart f
  have hscan : runsAs (.eyeScanDone l (height, width) second) (fun _ h => atLane h l (fun h => eyeScan h l height width second)) :=
    runsAs_of _ _ (fun _ => rfl)
  have hgained : runsAs (.prbsSyncGained l) (fun _ h => prbsGained h l) := runsAs_of _ _ (fun _ => rfl)
  have hlost (bits errors : Nat) : runsAs (.prbsSyncLost l bits errors) (fun _ h => prbsLost h l bits errors) :=
    runsAs_of _ _ (fun _ => rfl)
  refine ⟨fun htype hrx => ?_, fun hone => eyeMargin_one hone _, fun h2 w2 hrev hsecond => ?_, fun hoff => ?_,
    fun hpattern hsync hown => ?_, fun hno => ?_, fun hsync hloop bits errors => ?_, fun hno bits errors => ?_⟩
  · refine exec_quiet_to hscan hwf hq ((hat _).trans (eyeScan_active htype hrx height width second)) ?_
    rw [watched_bump hscans, watched_setN hwidth, watched_setN hheight]
  · rw [hrev, hsecond]
    exact eyeMargin_two _ _
  · exact exec_quiet_same hscan hwf hq ((hat _).trans (eyeScan_inactive hoff height width second))
  · exact exec_quiet_to hgained hwf hq (prbsGained_checked hpattern hsync hown) (watched_setN hprbs)
  · exact exec_quiet_same hgained hwf hq (prbsGained_unchecked hno)
  · exact exec_quiet_to (hlost bits errors) hwf hq (prbsLost_synced hsync hloop bits errors) (watched_setN hprbs)
  · exact exec_quiet_same (hlost bits errors) hwf hq (prbsLost_held hno bits errors)

/-! Guards (R447, R449) -/

/-- The lowest of a number and a list is no higher than any of them, and is one of them. -/
theorem foldl_min_spec (l : List Nat) (a : Nat) :
    l.foldl min a ≤ a ∧ (∀ x ∈ l, l.foldl min a ≤ x) ∧ (l.foldl min a = a ∨ l.foldl min a ∈ l) := by
  induction l generalizing a with
  | nil => simp
  | cons b r ih =>
    obtain ⟨hle, hall, hmem⟩ := ih (min a b)
    rw [List.foldl_cons]
    refine ⟨by omega, fun x hx => ?_, ?_⟩
    · rcases List.mem_cons.1 hx with rfl | hx
      · omega
      · exact hall x hx
    · rcases hmem with hmem | hmem
      · rcases Nat.le_total a b with hab | hab
        · exact Or.inl (by omega)
        · exact Or.inr (List.mem_cons.2 (Or.inl (by omega)))
      · exact Or.inr (List.mem_cons_of_mem _ hmem)

theorem mem_epochsInFlight (h : Hub) (g e : Nat) : e ∈ epochsInFlight h g ↔
    (∃ x ∈ h.guards.inFlight, x.guard = g ∧ x.epoch = e) ∨ ∃ x ∈ waitingPasses h, x.guard = g ∧ x.epoch = e := by
  simp [epochsInFlight, and_assoc]

theorem drainedEpoch_unwatched : ∀ g < 16, unwatched (Obj.G_DRAINED_EPOCH g) = true := by
  decide

/-- Fields written at one position, in order. -/
def setFields (h : Hub) (p : Nat) (l : List (Nat × Nat)) : Hub := l.foldl (fun h x => setN h (at_ p x.1) x.2) h

theorem setFields_cons (h : Hub) (p : Nat) (x : Nat × Nat) (r : List (Nat × Nat)) :
    setFields h p (x :: r) = setFields (setN h (at_ p x.1) x.2) p r := rfl

theorem setFields_frame (l : List (Nat × Nat)) (h : Hub) (p : Nat) : ∃ d, setFields h p l = { h with dict := d } := by
  induction l generalizing h with
  | nil => exact ⟨h.dict, rfl⟩
  | cons x r ih =>
    obtain ⟨d, hd⟩ := ih (setN h (at_ p x.1) x.2)
    exact ⟨d, hd⟩

theorem getN_setFields_other {l : List (Nat × Nat)} (h : Hub) (p : Nat) {k : Nat} (hk : ∀ x ∈ l, canonKey k ≠ canonKey (at_ p x.1)) :
    getN (setFields h p l) k = getN h k := by
  induction l generalizing h with
  | nil => rfl
  | cons x r ih =>
    rw [setFields_cons, ih _ (fun y hy => hk y (List.mem_cons_of_mem _ hy)), getN_setN_other _ _ _ _ (hk x List.mem_cons_self)]

/-- Each of several different fields holds what was written to it. -/
theorem getN_setFields_mem {l : List (Nat × Nat)} (h : Hub) (p : Nat) (hsmall : ∀ x ∈ l, x.1 < 2 ^ 24)
    (hnodup : (l.map (fun x => canonKey x.1)).Nodup) {x : Nat × Nat} (hx : x ∈ l) : getN (setFields h p l) (at_ p x.1) = x.2 := by
  induction l generalizing h with
  | nil => exact absurd hx List.not_mem_nil
  | cons y r ih =>
    obtain ⟨hy, hr⟩ := List.nodup_cons.1 hnodup
    have hsmall' : ∀ z ∈ r, z.1 < 2 ^ 24 := fun z hz => hsmall z (List.mem_cons_of_mem _ hz)
    rw [setFields_cons]
    rcases List.mem_cons.1 hx with rfl | hx
    · refine (getN_setFields_other _ p (fun z hz => ?_)).trans (getN_setN_same _ _ _)
      refine canonKey_at_ne (hsmall x List.mem_cons_self) (hsmall' z hz) (Or.inr fun he => hy ?_)
      exact List.mem_map.2 ⟨z, hz, he.symm⟩
    · exact ih _ hsmall' hr hx

theorem watched_setFields {l : List (Nat × Nat)} (h : Hub) (p : Nat) (hl : ∀ x ∈ l, x.1 < 2 ^ 24 ∧ unwatched x.1 = true) :
    watched (setFields h p l) = watched h := by
  induction l generalizing h with
  | nil => rfl
  | cons x r ih =>
    obtain ⟨hsmall, hfree⟩ := hl x List.mem_cons_self
    rw [setFields_cons, ih _ (fun y hy => hl y (List.mem_cons_of_mem _ hy)), watched_setN (unwatched_at hsmall hfree)]

/-- R447: the fields of a record in the violation log. -/
def violationFields (v : Violation) (n : Nat) : List (Nat × Nat) :=
  [(Obj.VL_SEQ 0, n), (Obj.VL_MASTER 0, v.master), (Obj.VL_GUARD 0, v.guard), (Obj.VL_OPERATION 0, if v.write then 1 else 0),
    (Obj.VL_ADDRESS 0, v.addr), (Obj.VL_LENGTH 0, v.length), (Obj.VL_REGION 0, v.region), (Obj.VL_REASON 0, v.reason),
    (Obj.VL_EPOCH 0, v.epoch), (Obj.VL_TIME 0, v.time)]

/-- The objects of `violationFields`. -/
def violationKeys : List Nat :=
  [Obj.VL_SEQ 0, Obj.VL_MASTER 0, Obj.VL_GUARD 0, Obj.VL_OPERATION 0, Obj.VL_ADDRESS 0, Obj.VL_LENGTH 0, Obj.VL_REGION 0,
    Obj.VL_REASON 0, Obj.VL_EPOCH 0, Obj.VL_TIME 0]

theorem violationKeys_apart : (violationKeys.map canonKey).Nodup
    ∧ ∀ k ∈ violationKeys, k < 2 ^ 24 ∧ unwatched k = true ∧ canonKey (Obj.VL_TOTAL 0) ≠ canonKey k := by
  decide

theorem violationFields_key {v : Violation} {n : Nat} {x : Nat × Nat} (hx : x ∈ violationFields v n) : x.1 ∈ violationKeys :=
  List.mem_map_of_mem (f := Prod.fst) hx

theorem violationTotal_apart {v : Violation} {n : Nat} {x : Nat × Nat} (p : Nat) (hx : x ∈ violationFields v n) :
    canonKey (Obj.VL_TOTAL 0) ≠ canonKey (at_ p x.1) := by
  obtain ⟨hsmall, -, hne⟩ := violationKeys_apart.2 _ (violationFields_key hx)
  exact (canonKey_at_ne_global (p := p) (k' := Obj.VL_TOTAL 0) hsmall (by decide) hne.symm).symm

theorem getN_violationFields (h : Hub) (p : Nat) {v : Violation} {n k y : Nat} (hky : (k, y) ∈ violationFields v n) :
    getN (setFields h p (violationFields v n)) (at_ p k) = y := by
  obtain ⟨hnodup, hkeys⟩ := violationKeys_apart
  exact getN_setFields_mem (x := (k, y)) h p (fun x hx => (hkeys _ (violationFields_key hx)).1) hnodup hky

theorem violationRecord_cons {h : Hub} {v : Violation} {rest : List Violation} (hrec : h.guards.records = v :: rest) :
    violationRecord h = setFields (setN { h with guards := { h.guards with records := rest } } (Obj.VL_TOTAL 0)
      ((getN h (Obj.VL_TOTAL 0) + 1) % 2 ^ 32)) (getN h (Obj.VL_TOTAL 0) % 64)
      (violationFields v ((getN h (Obj.VL_TOTAL 0) + 1) % 2 ^ 32)) := by
  simp only [violationRecord, hrec]
  rfl

/-- Settles O49: the drained epoch is a minimum, and a record's fields are different objects at one position. -/
theorem guardEpochsDrainAndViolationsAreLogged : Obligations.GuardEpochsDrainAndViolationsAreLogged := by
  refine ⟨fun s g hq hg => ?_, fun s hq => ⟨fun hnone => ?_, fun v rest hrec => ?_⟩⟩
  · obtain ⟨hle, hall, hmem⟩ := foldl_min_spec (epochsInFlight s.hub g) (getN s.hub (Obj.G_EPOCH g))
    have hruns : runsAs (.epochDrained g) (fun _ h => epochDrained h g) := runsAs_of _ _ (fun _ => rfl)
    refine ⟨_, exec_quiet_to hruns hg hq rfl (watched_setN (drainedEpoch_unwatched g (by simpa [guardWf] using hg))), hle,
      fun x hx hguard => ?_, fun x hx hguard => ?_, hmem.imp_right fun he => (mem_epochsInFlight _ _ _).1 he⟩
    · exact hall _ ((mem_epochsInFlight _ _ _).2 (Or.inl ⟨x, hx, hguard, rfl⟩))
    · exact hall _ ((mem_epochsInFlight _ _ _).2 (Or.inr ⟨x, hx, hguard, rfl⟩))
  · refine exec_quiet_same (runsAs_of .violationRecord (fun _ h => violationRecord h) (fun _ => rfl)) rfl hq ?_
    simp only [violationRecord, hnone]
  · obtain ⟨-, hkeys⟩ := violationKeys_apart
    have hruns : runsAs .violationRecord (fun _ h => violationRecord h) := runsAs_of _ _ (fun _ => rfl)
    have heff := violationRecord_cons hrec
    generalize (getN s.hub (Obj.VL_TOTAL 0) + 1) % 2 ^ 32 = n at heff ⊢
    obtain ⟨d, hd⟩ := setFields_frame (violationFields v n) (setN { s.hub with guards := { s.hub.guards with records := rest } }
      (Obj.VL_TOTAL 0) n) (getN s.hub (Obj.VL_TOTAL 0) % 64)
    refine ⟨_, exec_quiet_to hruns rfl hq heff ?_, ?_, ?_, ?_⟩
    · rw [watched_setFields _ _ (fun x hx => ⟨(hkeys _ (violationFields_key hx)).1, (hkeys _ (violationFields_key hx)).2.1⟩),
        watched_setN (by decide)]
      rfl
    · rw [hd]
      rfl
    · exact (getN_setFields_other _ _ (fun x hx => violationTotal_apart _ hx)).trans (getN_setN_same _ _ _)
    · have hfield {k y : Nat} (hky : (k, y) ∈ violationFields v n) :=
        getN_violationFields (setN { s.hub with guards := { s.hub.guards with records := rest } } (Obj.VL_TOTAL 0) n)
          (getN s.hub (Obj.VL_TOTAL 0) % 64) hky
      refine ⟨hfield ?_, hfield ?_, hfield ?_, hfield ?_, hfield ?_, hfield ?_, hfield ?_, hfield ?_, hfield ?_, hfield ?_, ?_⟩
      case refine_11 =>
        rw [hd]
        rfl
      all_goals simp [violationFields]

/-! Credits of USB4 paths (R194) -/

/-- A table asks the same after a write of an entry that answers as the one it replaces. -/
theorem any_mset {α : Type} {m : SMap α} {k : Nat} {x y : α} {q : Nat × α → Bool} (hx : mget? m k = some x) (hq : q (k, y) = q (k, x)) :
    (mset m k y).any q = m.any q := by
  induction m with
  | nil => exact absurd hx (by simp [mget?])
  | cons c r ih =>
    obtain ⟨a, b⟩ := c
    by_cases hlt : k < a
    · have hmem : (k, x) ∈ (a, b) :: r := mem_of_mget?_eq_some hx
      simp only [mset, hlt, if_true, List.any_cons (a := (k, y)), hq]
      cases hqx : q (k, x) with
      | false => rfl
      | true => exact (List.any_eq_true.2 ⟨(k, x), hmem, hqx⟩).symm
    · by_cases hgt : a < k
      · have hne : (a == k) = false := by simpa using Nat.ne_of_lt hgt
        simp only [mget?, hne, Bool.false_eq_true, if_false] at hx
        simp only [mset, hlt, hgt, if_true, if_false, List.any_cons, ih hx]
      · obtain rfl : a = k := by omega
        obtain rfl : b = x := by simpa [mget?] using hx
        simp only [mset, hlt, if_false, List.any_cons, hq]

/-- What a command sets off depends on the hub before it by its tunnels, its USB 3.2 link, its domains and its dictionary alone. -/
theorem settle_was {was was' : Hub} (htunnels : ∀ k, tunnelOn was k = tunnelOn was' k) (husb : usb3Linked was = usb3Linked was')
    (hdomains : was.domains = was'.domains) (hobj : ∀ k, getN was k = getN was' k) (m : List Host.Cell) (h : Hub) :
    settle m was h = settle m was' h := by
  have hdom (d : Nat) : domState was d = domState was' d := by simp only [domState, domain, hdomains]
  simp only [settle, followTunnels, followUsb3, followShed, followTwin, htunnels, husb, hdom, hobj]

/-- A path's credits are not what a tunnel or the USB 3.2 hub's link depends on. -/
theorem linksSame_mset {h : Hub} {key : Nat} {x y : Path} (hx : mget? h.usb4.paths key = some x) (hstate : y.state = x.state)
    (hspec : y.spec = x.spec) :
    (∀ k, tunnelOn h k = tunnelOn (setUsb4 h (fun u => { u with paths := mset u.paths key y })) k)
    ∧ usb3Linked h = usb3Linked (setUsb4 h (fun u => { u with paths := mset u.paths key y })) := by
  have hany (q : Nat → PathSpec → Bool) : (mset h.usb4.paths key y).any (fun z => q z.2.state z.2.spec)
      = h.usb4.paths.any (fun z => q z.2.state z.2.spec) := any_mset hx (by simp only [hstate, hspec])
  constructor
  · intro k
    have hin := hany (fun st sp => st == 1 && sp.inAdapter == 12 + k)
    have hout := hany (fun st sp => st == 1 && sp.outAdapter == 12 + k)
    simp only [tunnelOn, setUsb4_usb4, hin, hout]
  · have hin := hany (fun st sp => st == 1 && sp.inAdapter == 16)
    have hout := hany (fun st sp => st == 1 && sp.outAdapter == 16)
    have hpaths : usb3Paths (setUsb4 h (fun u => { u with paths := mset u.paths key y })) = usb3Paths h := by
      simp only [usb3Paths, setUsb4_usb4, hin, hout]
    unfold usb3Linked
    rw [hpaths]
    rfl

theorem creditGrant_absent {h : Hub} {k pos : Nat} (hnone : mget? h.usb4.paths (pathKey k pos) = none) : creditGrant h k pos = h := by
  simp only [creditGrant, hnone]

theorem creditGrant_idle {h : Hub} {k pos : Nat} {x : Path} (hx : mget? h.usb4.paths (pathKey k pos) = some x)
    (hidle : x.state ≠ 1 ∨ x.spec.flowControlled = false ∨ isLane x.spec.inAdapter = false ∨ pathOwed h (pathKey k pos) x = 0) :
    creditGrant h k pos = h := by
  simp only [creditGrant, hx]
  rcases hidle with hstate | hfc | hlane | howed
  · simp [hstate]
  · simp [hfc]
  · simp [hlane]
  · simp [howed]

/-- The path after a grant. -/
def granted (h : Hub) (key : Nat) (x : Path) : Path := { x with partner := x.partner + pathOwed h key x }

theorem creditGrant_owed {h : Hub} {k pos : Nat} {x : Path} (hx : mget? h.usb4.paths (pathKey k pos) = some x) (hstate : x.state = 1)
    (hfc : x.spec.flowControlled = true) (hlane : isLane x.spec.inAdapter = true) (howed : 0 < pathOwed h (pathKey k pos) x) :
    creditGrant h k pos = send (setUsb4 h (fun u => { u with paths := mset u.paths (pathKey k pos) (granted h (pathKey k pos) x) }))
      (.link (usb4Unit k) "credit grant" [pos, pathOwed h (pathKey k pos) x]) := by
  simp [creditGrant, hx, hstate, hfc, hlane, howed, granted]

/-- A command's next state depends on its effect on the state that it meets alone. -/
theorem runOn_congr {f g : List Host.Cell → Hub → Hub} {s : State} (hfg : f s.mem s.hub = g s.mem s.hub) : runOn f s = runOn g s := by
  unfold runOn
  rw [hfg]

/-- On a quiet hub, a new credit count of a path sets off nothing, and what is sent with it is all that happens besides. -/
theorem runOn_pathSend {s : State} {key : Nat} {x y : Path} (o : Out) (hq : quiet s) (hx : mget? s.hub.usb4.paths key = some x)
    (hstate : y.state = x.state) (hspec : y.spec = x.spec) :
    runOn (fun _ h => send (setUsb4 h (fun u => { u with paths := mset u.paths key y })) o) s
      = { s with hub := send (setUsb4 s.hub (fun u => { u with paths := mset u.paths key y })) o } := by
  obtain ⟨htunnels, husb⟩ := linksSame_mset hx hstate hspec
  let s' : State := { s with hub := setUsb4 s.hub (fun u => { u with paths := mset u.paths key y }) }
  have hq' : quiet s' := hq
  have hsame : runOn (fun _ h => send (setUsb4 h (fun u => { u with paths := mset u.paths key y })) o) s = runOn (fun _ h => send h o) s' := by
    unfold runOn
    rw [settle_was htunnels husb rfl (fun _ => rfl)]
    rfl
  obtain ⟨⟨htodo, hstores, hzeroed, hrecord⟩, -, hreset, hstate', -, htamper⟩ := hq
  rw [hsame]
  exact runOn_alone (fun _ h => send h o) s' hq' htodo hstores hzeroed hrecord rfl rfl rfl (followShed_same _ _ rfl) hstate' htamper rfl hreset

/-- Settles O28: a grant moves only the partner's credits, which no tunnel depends on. -/
theorem creditGrantReturnsWhatIsOwed : Obligations.CreditGrantReturnsWhatIsOwed := by
  intro s k pos hq hk
  have hruns : runsAs (.creditGrant k pos) (fun _ h => creditGrant h k pos) := runsAs_of _ _ (fun _ => rfl)
  refine ⟨fun x hx hstate hfc hlane howed => ⟨?_, ?_⟩, fun x hx hidle => ?_, fun hnone => ?_⟩
  · rw [hruns hk s (quiet_powered hq), runOn_congr (g := fun _ h => send (setUsb4 h (fun u =>
        { u with paths := mset u.paths (pathKey k pos) (granted s.hub (pathKey k pos) x) }))
        (.link (usb4Unit k) "credit grant" [pos, pathOwed s.hub (pathKey k pos) x])) (creditGrant_owed hx hstate hfc hlane howed),
      runOn_pathSend (y := granted s.hub (pathKey k pos) x) _ hq hx rfl rfl]
    rfl
  · unfold pathOwed at howed ⊢
    omega
  · exact exec_quiet_same hruns hk hq (creditGrant_idle hx hidle)
  · exact exec_quiet_same hruns hk hq (creditGrant_absent hnone)

end Sys2Proof.Machine
end

section
/-! PROOFS. What the sending of an event moves (R40, R84, R330), and what follows for flags, audits and the tamper erase. -/

namespace Sys2Proof.Machine

/-! Sending -/

/-- The hub but for the units through which frames leave and the dictionary. -/
def sendCore (h : Hub) : Hub := { h with dict := [], out := [], todo := [], mbx := {}, usb := {}, jdp := {}, twin := {}, pcie := {} }

/-- Of the hub, only the units through which frames leave and the objects of a list have moved. -/
def movesOnly (ks : List Nat) (h h' : Hub) : Prop :=
  sendCore h' = sendCore h ∧ ∀ k, (∀ x ∈ ks, canonKey k ≠ canonKey x) → getV h' k = getV h k

/-- The objects that the sending of an event itself moves. -/
def sendingKeys : List Nat := [Obj.FRAMES_TX, Obj.TRANSFER_TIMEOUTS, Obj.USB2_STATE, Obj.REMOTE_WAKES, Obj.WAKE_COLLISIONS]

theorem movesOnly.refl (ks : List Nat) (h : Hub) : movesOnly ks h h := ⟨rfl, fun _ _ => rfl⟩

theorem movesOnly.trans {ks : List Nat} {a b c : Hub} (hab : movesOnly ks a b) (hbc : movesOnly ks b c) : movesOnly ks a c :=
  ⟨hbc.1.trans hab.1, fun k hk => (hbc.2 k hk).trans (hab.2 k hk)⟩

theorem movesOnly.mono {ks ks' : List Nat} {a b : Hub} (hab : movesOnly ks a b) (hsub : ks ⊆ ks') : movesOnly ks' a b :=
  ⟨hab.1, fun k hk => hab.2 k (fun x hx => hk x (hsub hx))⟩

theorem getN_of_movesOnly {ks : List Nat} {a b : Hub} (hab : movesOnly ks a b) {k : Nat} (hk : ∀ x ∈ ks, canonKey k ≠ canonKey x) :
    getN b k = getN a k := by
  simp only [getN, getI, hab.2 k hk]

/-- A field of the rest of the hub stays. -/
theorem movesOnly.core {α : Type} {ks : List Nat} {a b : Hub} (hab : movesOnly ks a b) (p : Hub → α) (hp : ∀ h, p (sendCore h) = p h) :
    p b = p a := by
  rw [← hp b, hab.1, hp a]

/-- A change of the sending units alone. -/
theorem movesOnly_of_dict {ks : List Nat} {a b : Hub} (hcore : sendCore b = sendCore a) (hdict : b.dict = a.dict) : movesOnly ks a b := by
  refine ⟨hcore, fun k _ => ?_⟩
  have hpart : (sendCore b).part = (sendCore a).part := by rw [hcore]
  replace hpart : b.part = a.part := hpart
  simp only [getV, hdict, hpart]

theorem movesOnly_setV {ks : List Nat} (h : Hub) {k : Nat} (v : Val) (hk : k ∈ ks) : movesOnly ks h (setV h k v) :=
  ⟨rfl, fun _ hother => getV_setV_other _ _ _ _ (hother k hk)⟩

theorem movesOnly_bump {ks : List Nat} (h : Hub) {k : Nat} (hk : k ∈ ks) : movesOnly ks h (bump h k) := movesOnly_setV h _ hk

theorem movesOnly_send {ks : List Nat} (h : Hub) (o : Out) : movesOnly ks h (send h o) := movesOnly_of_dict rfl rfl

theorem movesOnly_later {ks : List Nat} (h : Hub) (t : Todo) : movesOnly ks h (later h t) := movesOnly_of_dict rfl rfl

theorem movesOnly_ite {ks : List Nat} {a b b' : Hub} {c : Prop} [Decidable c] (hb : movesOnly ks a b) (hb' : movesOnly ks a b') :
    movesOnly ks a (if c then b else b') := by
  split
  · exact hb
  · exact hb'

theorem movesOnly_whenH {ks : List Nat} {a : Hub} {c : Bool} {b : Hub} {f : Hub → Hub} (hab : movesOnly ks a b) (hf : movesOnly ks b (f b)) :
    movesOnly ks a (whenH c b f) := by
  cases c
  · exact hab
  · exact hab.trans hf

theorem movesOnly_forEach {α : Type} {ks : List Nat} {a b : Hub} (l : List α) {f : Hub → α → Hub} (hab : movesOnly ks a b)
    (hf : ∀ x y, movesOnly ks x (f x y)) : movesOnly ks a (forEach l b f) :=
  forEach_inv (fun x => movesOnly ks a x) l b f hab (fun x y hx => hx.trans (hf x y))

theorem sends_countTx (h : Hub) (p : Pdu) : movesOnly sendingKeys h (countTx h p) :=
  movesOnly_whenH (movesOnly_bump h (by decide)) (movesOnly_bump _ (by decide))

theorem sends_usbOut (h : Hub) (dst : Peer) (p : Pdu) : movesOnly sendingKeys h (usbOut h dst p) :=
  (sends_countTx h p).trans (movesOnly_send _ _)

theorem sends_raiseMsix (h : Hub) (fn v : Nat) : movesOnly sendingKeys h (raiseMsix h fn v) := by
  unfold raiseMsix
  dsimp only
  split
  · exact movesOnly.refl _ h
  · split
    · exact movesOnly_of_dict rfl rfl
    · exact movesOnly_of_dict rfl rfl

theorem sends_d2hPut (h : Hub) (p : Pdu) : movesOnly sendingKeys h (d2hPut h p) := by
  unfold d2hPut
  refine movesOnly_ite (movesOnly.refl _ h) (movesOnly_ite (movesOnly_of_dict rfl rfl) ?_)
  refine movesOnly_whenH ?_ (sends_raiseMsix _ _ _)
  exact (sends_countTx h p).trans (movesOnly_of_dict rfl rfl)

theorem sends_tyvel (h : Hub) (x : TyvelMsg) : movesOnly sendingKeys h (tyvel h x) :=
  movesOnly_whenH (movesOnly.refl _ h) (movesOnly_of_dict rfl rfl)

theorem sends_usbEmergency (h : Hub) : movesOnly sendingKeys h (usbEmergency h) := by
  unfold usbEmergency
  dsimp only
  split
  · exact movesOnly.refl _ h
  · split
    · exact movesOnly.refl _ h
    · refine movesOnly.trans ?_ (sends_usbOut _ _ _)
      exact movesOnly_of_dict rfl rfl

theorem sends_portResumed (h : Hub) (n : Nat) : movesOnly sendingKeys h (portResumed h n) := movesOnly_of_dict rfl rfl

/-- The device on port 8 is awake, and no PDU waits for it. -/
def deviceAwake (h : Hub) : Hub := { h with usb := { h.usb with devSuspended := false, parked := [] } }

theorem sends_deviceAwake (h : Hub) : movesOnly sendingKeys h (deviceAwake h) := movesOnly_of_dict rfl rfl

theorem deviceResumed_eq (h : Hub) (report : Bool) : deviceResumed h report = usbEmergency (forEach h.usb.parked
    (if h.usb.devSuspended then portResumed (deviceAwake h) 8
      else if report then send (deviceAwake h) (.usb "port status change" [8] []) else deviceAwake h)
    (fun h x => usbOut h x.1 x.2)) := rfl

theorem sends_deviceResumed (h : Hub) (report : Bool) : movesOnly sendingKeys h (deviceResumed h report) := by
  have hawake := sends_deviceAwake h
  rw [deviceResumed_eq]
  refine movesOnly.trans ?_ (sends_usbEmergency _)
  refine movesOnly_forEach _ ?_ (fun x y => sends_usbOut x y.1 y.2)
  exact movesOnly_ite (hawake.trans (sends_portResumed _ 8)) (movesOnly_ite (hawake.trans (movesOnly_send _ _)) hawake)

theorem sends_collided (h : Hub) (n : Nat) : movesOnly sendingKeys h (collided h n) := by
  refine movesOnly_whenH (movesOnly.refl _ h) (movesOnly.trans ?_ (movesOnly_bump _ (by decide)))
  exact movesOnly_of_dict rfl rfl

theorem sends_deviceWake (h : Hub) : movesOnly sendingKeys h (deviceWake h) := by
  unfold deviceWake
  split
  · exact movesOnly.refl _ h
  · split
    · split
      · refine movesOnly.trans ?_ (sends_deviceResumed _ _)
        exact ((movesOnly_setV h _ (by decide)).trans (movesOnly_bump _ (by decide))).trans (movesOnly_send _ _)
      · exact movesOnly_of_dict rfl rfl
    · split
      · exact (sends_collided h 8).trans (sends_deviceResumed _ _)
      · exact movesOnly.refl _ h

theorem sends_usbPdu (h : Hub) (dst : Peer) (p : Pdu) : movesOnly sendingKeys h (usbPdu h dst p) := by
  unfold usbPdu
  dsimp only
  split
  · exact movesOnly.refl _ h
  · split
    · exact movesOnly_send _ _
    · split
      · refine movesOnly.trans ?_ (sends_deviceWake _)
        exact movesOnly_of_dict rfl rfl
      · exact (sends_deviceWake h).trans (sends_usbOut _ _ _)

/-- R90, R330: a PDU that is sent moves the sending units, its counts and the wake of the vendor interface's device. -/
theorem sends_sendPdu (h : Hub) (dst : Peer) (p : Pdu) : movesOnly sendingKeys h (sendPdu h dst p) := by
  unfold sendPdu
  dsimp only
  split
  · exact movesOnly.refl _ h
  · split
    · exact movesOnly_later _ _
    · split
      · exact sends_d2hPut _ _
      · split
        · exact (sends_countTx h _).trans (sends_tyvel _ _)
        · exact movesOnly.refl _ h
      · exact sends_usbPdu _ _ _
      · split
        · exact (sends_countTx h _).trans (movesOnly_send _ _)
        · exact movesOnly.refl _ h
      · exact (sends_countTx h _).trans (movesOnly_send _ _)

theorem sends_eventFrame (h : Hub) (k count : Nat) : movesOnly sendingKeys h (eventFrame h k count) :=
  movesOnly_forEach _ (movesOnly.refl _ h) (fun x p => sends_sendPdu x p _)

/-! Flags (R40) -/

/-- A flag that is set and counted, before its event is sent. -/
def flagRaised (h : Hub) (k : Nat) : Hub := setN (setN h k 1) (k + 1) ((getN h (k + 1) + 1) % 256)

theorem sends_setFlag (h : Hub) (k : Nat) : movesOnly sendingKeys (flagRaised h k) (setFlag h k) :=
  movesOnly_whenH (movesOnly_whenH (movesOnly.refl _ _) (movesOnly_send _ _)) (sends_eventFrame _ _ _)

theorem movesOnly_setFlag {ks : List Nat} (h : Hub) {k : Nat} (hk : k ∈ ks) (hcount : k + 1 ∈ ks) (hsub : sendingKeys ⊆ ks) :
    movesOnly ks h (setFlag h k) :=
  ((movesOnly_setV h _ hk).trans (movesOnly_setV _ _ hcount)).trans ((sends_setFlag h k).mono hsub)

/-- Settles O10: what sends the event moves neither the flag nor its count. -/
theorem flagSetRaisesItsCount : Obligations.FlagSetRaisesItsCount := by
  intro h k hcount hapart
  have hsends := sends_setFlag h k
  refine ⟨?_, ?_, getN_setN_same _ _ _, getN_setN_other _ _ _ _ hcount⟩
  · rw [getN_of_movesOnly hsends (fun x hx => (hapart x hx).1), flagRaised, getN_setN_other _ _ _ _ hcount.symm, getN_setN_same]
  · rw [getN_of_movesOnly hsends (fun x hx => (hapart x hx).2), flagRaised, getN_setN_same]

/-! The tamper erase (R438, R440) -/

/-- A selector set in several contexts reads so in each of them. -/
theorem selV_forEach_setSel (l : List Ctx) (h : Hub) {k : Nat} (v : Val) (hk : k < 2 ^ 48) {c : Ctx}
    (hc : c ∈ l ∨ selV h c k = v) : selV (forEach l h (fun h c => setSel h c k v)) c k = v := by
  induction l generalizing h with
  | nil => exact hc.resolve_left List.not_mem_nil
  | cons a r ih =>
    refine ih (setSel h a k v) ?_
    by_cases hca : c = a
    · exact Or.inr (hca ▸ selV_setSel_same h c v rfl)
    · refine hc.imp (fun hmem => (List.mem_cons.1 hmem).resolve_left hca) (fun hv => ?_)
      rw [selV_setSel_other h v hk hk (Or.inl hca), hv]

/-- A hub whose selectors alone have changed. -/
def sameButSel (h h' : Hub) : Prop := h' = { h with sel := h'.sel }

theorem sameButSel_forEach_setSel {α : Type} (l : List α) (h : Hub) (c : α → Ctx) (k : Nat) (v : Val) :
    sameButSel h (forEach l h (fun h x => setSel h (c x) k v)) :=
  forEach_inv (sameButSel h) l h _ rfl (fun x a hx => by
    unfold sameButSel at hx ⊢
    rw [hx]
    rfl)

/-- The hub after the erase has written the outputs of the contexts. -/
def outputsErased (h : Hub) : Hub :=
  forEach allCtx (forEach h.keys.busy h (fun h o => setSel h o.ctx Obj.KC_STATUS (.int 3))) (fun h c => setSel h c Obj.KC_OUTPUT (.bytes []))

/-- The hub after the erase has ended the block reads of KC_OUTPUT. -/
def readsAborted (h : Hub) : Hub :=
  forEach (h.jdp.xfers.filter (fun x => x.idx * 256 + x.sub == Obj.KC_OUTPUT)) h (fun h x =>
    sendPdu h x.id.peer { func := 0x06, source := x.asNode, dest := x.id.node, seq := x.id.seq, segment := 0,
                          data := leBytes 2 x.idx ++ leBytes 1 x.sub ++ [0x09, 0x01, 0, 0, 0] })

/-- The key store after the erase. -/
def keysErased (k : Keys) : Keys :=
  { k with
    slots := k.slots.map (fun x => if x.2.alg == 0 then x else (x.1, { gen := x.2.gen + 1 }))
    busy := []
    sessions := []
    drbgK := List.replicate k.drbgK.length 0
    drbgV := List.replicate k.drbgV.length 0
    drbgUses := 0 }

theorem eraseKeys_keys (h : Hub) : (eraseKeys h).keys = keysErased (readsAborted (outputsErased h)).keys := rfl
theorem eraseKeys_sel (h : Hub) : (eraseKeys h).sel = (readsAborted (outputsErased h)).sel := rfl
theorem eraseKeys_part (h : Hub) : (eraseKeys h).part = (readsAborted (outputsErased h)).part := rfl

theorem sends_readsAborted (h : Hub) : movesOnly sendingKeys h (readsAborted h) :=
  movesOnly_forEach _ (movesOnly.refl _ h) (fun x _ => sends_sendPdu x _ _)

theorem outputsErased_keys (h : Hub) : (outputsErased h).keys = h.keys := by
  have hstatus : sameButSel h _ := sameButSel_forEach_setSel h.keys.busy h (fun o => o.ctx) Obj.KC_STATUS (.int 3)
  have houtput : sameButSel _ (outputsErased h) := sameButSel_forEach_setSel allCtx _ id Obj.KC_OUTPUT (.bytes [])
  rw [houtput, hstatus]

theorem keysErased_of_eraseKeys (h : Hub) : (eraseKeys h).keys = keysErased h.keys := by
  rw [eraseKeys_keys, (sends_readsAborted _).core (·.keys) (fun _ => rfl), outputsErased_keys]

/-- A slot after the erase. -/
def slotErased (x : KeySlot) : KeySlot := if x.alg = 0 then x else { gen := x.gen + 1 }

theorem mget?_map_values {α β : Type} (m : SMap α) (f : α → β) (k : Nat) : mget? (m.map (fun x => (x.1, f x.2))) k = (mget? m k).map f := by
  induction m with
  | nil => rfl
  | cons x r ih =>
    simp only [List.map_cons, mget?, ih]
    split <;> rfl

theorem mget_keysErased (k : Keys) (n : Nat) : mget (keysErased k).slots {} n = slotErased (mget k.slots {} n) := by
  have hslots : (keysErased k).slots = k.slots.map (fun x => (x.1, slotErased x.2)) := by
    refine List.map_congr_left (fun x _ => ?_)
    by_cases hx : x.2.alg = 0
    · simp [slotErased, hx]
    · simp [slotErased, hx]
  rw [hslots, mget, mget?_map_values]
  exact Option.getD_map slotErased {} _

theorem allCtx_complete (c : Ctx) : c ∈ allCtx := List.mem_of_getElem? (allCtx_ctxNo c)

/-- Settles O47: the erase maps every slot, and what it sends to abort block reads touches neither keys nor selectors. -/
theorem tamperEraseLeavesNoKey : Obligations.TamperEraseLeavesNoKey := by
  intro h n
  have hkeys := keysErased_of_eraseKeys h
  have hslot : keySlot (eraseKeys h) n = slotErased (keySlot h n) := by
    rw [keySlot, hkeys, mget_keysErased]
    rfl
  rw [hslot, hkeys, slotErased]
  refine ⟨?_, ?_, rfl, rfl, rfl, fun b hb => ?_, rfl, fun c => ?_⟩
  · split
    case isTrue hempty => exact hempty
    case isFalse => rfl
  · split <;> rfl
  · rcases List.mem_append.1 hb with hb | hb
    · exact List.eq_of_mem_replicate hb
    · exact List.eq_of_mem_replicate hb
  · have hsel : (readsAborted (outputsErased h)).sel = (outputsErased h).sel := (sends_readsAborted _).core (·.sel) (fun _ => rfl)
    have hpart : (readsAborted (outputsErased h)).part = (outputsErased h).part := (sends_readsAborted _).core (·.part) (fun _ => rfl)
    have hread : selV (eraseKeys h) c Obj.KC_OUTPUT = selV (outputsErased h) c Obj.KC_OUTPUT := by
      simp only [selV, eraseKeys_sel, eraseKeys_part, hsel, hpart]
    rw [selBytes, hread, outputsErased, selV_forEach_setSel _ _ _ (by decide) (Or.inl (allCtx_complete c))]
    rfl

/-! Audits (R105, R106) -/

/-- The counts of a group that an audit takes. -/
def auditFields (h : Hub) (g : Nat) : List (Nat × Nat) :=
  [(Obj.G_A_FREE, groupFree h g), (Obj.G_A_QUEUED, groupQueued h g), (Obj.G_A_IN_TRANSIT, groupTransit h g),
    (Obj.G_A_SURFACE, groupPieces h g), (Obj.G_A_BALANCED, if groupBalanced h g then 1 else 0)]

/-- The objects of `auditFields`. -/
def auditKeys : List Nat := [Obj.G_A_FREE, Obj.G_A_QUEUED, Obj.G_A_IN_TRANSIT, Obj.G_A_SURFACE, Obj.G_A_BALANCED]

/-- The objects that an audit moves besides the counts: the flag of a mismatch, and what the sending of its event moves. -/
def mismatchKeys : List Nat := Obj.AUDIT_MISMATCH :: (Obj.AUDIT_MISMATCH + 1) :: sendingKeys

/-- What an audit says of a group. -/
def auditVerdict (h : Hub) (g : Nat) : Hub :=
  if groupBalanced h g then later h (.cleared 0x1104 (bankUnit (8 * g)))
  else report (setFlag h Obj.AUDIT_MISMATCH) 0x1104 (bankUnit (8 * g))

/-- An audit of one group. -/
def auditGroup (h : Hub) (g : Nat) : Hub := auditVerdict (setFields h g (auditFields h g)) g

theorem auditAll_eq (h : Hub) : auditAll h = setN (forEach (List.range 32) h auditGroup) Obj.AUDIT_STATUS
    (if (List.range 32).all (groupBalanced (forEach (List.range 32) h auditGroup)) then 2 else 3) := rfl

theorem auditKeys_apart : (auditKeys.map canonKey).Nodup
    ∧ ∀ k ∈ auditKeys, k < 2 ^ 24 ∧ ∀ w ∈ Obj.AUDIT_STATUS :: mismatchKeys, w < 2 ^ 24 ∧ canonKey k ≠ canonKey w := by
  decide

theorem auditFields_key {h : Hub} {g : Nat} {x : Nat × Nat} (hx : x ∈ auditFields h g) : x.1 ∈ auditKeys :=
  List.mem_map_of_mem (f := Prod.fst) hx

/-- The counts are of the cells alone, which no object holds and no frame carries. -/
theorem auditFields_sendCore (h : Hub) (g : Nat) : auditFields (sendCore h) g = auditFields h g := rfl

theorem groupBalanced_sendCore (h : Hub) (g : Nat) : groupBalanced (sendCore h) g = groupBalanced h g := rfl

theorem moves_auditVerdict (h : Hub) (g : Nat) : movesOnly mismatchKeys h (auditVerdict h g) := by
  refine movesOnly_ite (movesOnly_later _ _) (movesOnly.trans ?_ (movesOnly_later _ _))
  exact movesOnly_setFlag h (by decide) (by decide) (List.subset_cons_of_subset _ (List.subset_cons_self _ _))

theorem movesOnly_setFields (h : Hub) (p : Nat) (l : List (Nat × Nat)) : movesOnly (l.map (fun x => at_ p x.1)) h (setFields h p l) := by
  induction l generalizing h with
  | nil => exact movesOnly.refl _ h
  | cons x r ih =>
    rw [setFields_cons]
    exact (movesOnly_setV h _ List.mem_cons_self).trans ((ih _).mono (List.subset_cons_self _ _))

/-- An audit of a group moves the counts of that group, and what its verdict does. -/
theorem moves_auditGroup (h : Hub) (g : Nat) : movesOnly (auditKeys.map (at_ g) ++ mismatchKeys) h (auditGroup h g) :=
  ((movesOnly_setFields h g (auditFields h g)).mono (List.subset_append_left _ _)).trans
    ((moves_auditVerdict _ g).mono (List.subset_append_right _ _))

theorem sendCore_forEach_auditGroup (l : List Nat) (h : Hub) : sendCore (forEach l h auditGroup) = sendCore h :=
  forEach_inv (fun x => sendCore x = sendCore h) l h auditGroup rfl (fun x g hx => (moves_auditGroup x g).1.trans hx)

/-- The counts of one group are none of another's, nor what a verdict moves. -/
theorem auditKey_apart {g g' k : Nat} (hk : k ∈ auditKeys) (hne : g ≠ g') :
    ∀ x ∈ auditKeys.map (at_ g') ++ mismatchKeys, canonKey (at_ g k) ≠ canonKey x := by
  obtain ⟨hsmall, hother⟩ := auditKeys_apart.2 k hk
  intro x hx
  rcases List.mem_append.1 hx with hx | hx
  · obtain ⟨k', hk', rfl⟩ := List.mem_map.1 hx
    exact canonKey_at_ne hsmall (auditKeys_apart.2 k' hk').1 (Or.inl hne)
  · obtain ⟨hx', hkx⟩ := hother x (List.mem_cons_of_mem _ hx)
    exact canonKey_at_ne_global hsmall hx' hkx

theorem getN_auditGroup (h : Hub) (g : Nat) {x : Nat × Nat} (hx : x ∈ auditFields h g) : getN (auditGroup h g) (at_ g x.1) = x.2 := by
  obtain ⟨hnodup, hkeys⟩ := auditKeys_apart
  obtain ⟨hsmall, hother⟩ := hkeys _ (auditFields_key hx)
  refine (getN_of_movesOnly (moves_auditVerdict _ g) (fun w hw => ?_)).trans
    (getN_setFields_mem h g (fun y hy => (hkeys _ (auditFields_key hy)).1) hnodup hx)
  obtain ⟨hw', hkw⟩ := hother w (List.mem_cons_of_mem _ hw)
  exact canonKey_at_ne_global hsmall hw' hkw

theorem getN_forEach_auditGroup_other (l : List Nat) (h : Hub) {g k : Nat} (hg : g ∉ l) (hk : k ∈ auditKeys) :
    getN (forEach l h auditGroup) (at_ g k) = getN h (at_ g k) := by
  induction l generalizing h with
  | nil => rfl
  | cons a r ih =>
    obtain ⟨hne, hr⟩ := not_or.1 (mt List.mem_cons.2 hg)
    exact (ih (auditGroup h a) hr).trans (getN_of_movesOnly (moves_auditGroup h a) (auditKey_apart hk hne))

/-- Every audited group shows the counts that it had. -/
theorem getN_forEach_auditGroup {l : List Nat} (hl : l.Nodup) (h : Hub) {g : Nat} (hg : g ∈ l) {x : Nat × Nat} (hx : x ∈ auditFields h g) :
    getN (forEach l h auditGroup) (at_ g x.1) = x.2 := by
  induction l generalizing h with
  | nil => exact absurd hg List.not_mem_nil
  | cons a r ih =>
    obtain ⟨ha, hr⟩ := List.nodup_cons.1 hl
    have hsame : auditFields (auditGroup h a) g = auditFields h g := by
      rw [← auditFields_sendCore, (moves_auditGroup h a).1, auditFields_sendCore]
    by_cases hga : g = a
    · subst hga
      exact (getN_forEach_auditGroup_other r (auditGroup h g) ha (auditFields_key hx)).trans (getN_auditGroup h g hx)
    · exact ih hr (auditGroup h a) ((List.mem_cons.1 hg).resolve_left hga) (hsame.symm ▸ hx)

theorem getN_auditAll (h : Hub) {g : Nat} (hg : g < 32) {x : Nat × Nat} (hx : x ∈ auditFields h g) :
    getN (auditAll h) (at_ g x.1) = x.2 := by
  obtain ⟨hsmall, hother⟩ := auditKeys_apart.2 _ (auditFields_key hx)
  obtain ⟨hstatus, hne⟩ := hother Obj.AUDIT_STATUS List.mem_cons_self
  rw [auditAll_eq, getN_setN_other _ _ _ _ (canonKey_at_ne_global hsmall hstatus hne)]
  exact getN_forEach_auditGroup List.nodup_range h (List.mem_range.2 hg) hx

theorem getN_auditAll_status (h : Hub) :
    getN (auditAll h) Obj.AUDIT_STATUS = if (List.range 32).all (groupBalanced h) then 2 else 3 := by
  have hsame : groupBalanced (forEach (List.range 32) h auditGroup) = groupBalanced h := by
    funext g
    rw [← groupBalanced_sendCore, sendCore_forEach_auditGroup, groupBalanced_sendCore]
  rw [auditAll_eq, hsame, getN_setN_same]

/-- What the end of AUDIT_INTERVAL does. -/
def auditDue (h : Hub) : Hub :=
  if getN h Obj.AUDIT_INTERVAL != 0 && getN h Obj.AUDIT_STATUS != 1 then setN h Obj.AUDIT_STATUS 1 else h

/-- Settles O20: each group's counts are written once, and nothing after them writes one of them. -/
theorem auditsSnapshotEveryGroup : Obligations.AuditsSnapshotEveryGroup := by
  refine ⟨fun s hq => ⟨fun hinterval hstatus => ?_, fun hno => ?_⟩, fun h => ⟨getN_auditAll_status h, fun g hg => ?_⟩⟩
  · refine exec_quiet_to (runsAs_of .auditInterval (fun _ h => auditDue h) (fun _ => rfl)) rfl hq ?_ (watched_setN (by decide))
    simp [auditDue, hinterval, hstatus]
  · refine exec_quiet_same (runsAs_of .auditInterval (fun _ h => auditDue h) (fun _ => rfl)) rfl hq ?_
    rcases hno with hinterval | hstatus
    · simp [auditDue, hinterval]
    · simp [auditDue, hstatus]
  · have hfield {k n : Nat} (hk : (k, n) ∈ auditFields h g) : getN (auditAll h) (at_ g k) = n := getN_auditAll h (x := (k, n)) hg hk
    refine ⟨hfield ?_, hfield ?_, hfield ?_, hfield ?_, ?_⟩
    case refine_5 =>
      rw [getB, hfield (n := if groupBalanced h g then 1 else 0) (by simp [auditFields])]
      cases groupBalanced h g <;> rfl
    all_goals simp [auditFields]

end Sys2Proof.Machine
end

section
/-! PROOFS. Dictionary writes as a whole (R44, R69), and the Grate step of an idle switch (R114-R120). -/

namespace Sys2Proof.Machine

/-! Dictionary writes -/

/-- What comes ahead of the last check is reported only where that check refuses. -/
theorem earlyCheck_ahead {h : Hub} {i s : Nat} {w : Option (List Byte)} {a : Option Abort} (hnone : earlyCheck h i s w a = none)
    (b : Option Abort) : earlyCheck h i s w b = none := by
  unfold earlyCheck at hnone ⊢
  cases hexist : existCheck i s with
  | some x => simp [hexist] at hnone
  | none =>
    cases habsent : absentWrite h.part i s (w.getD []) with
    | some x => simp [hexist, habsent] at hnone
    | none =>
      cases hserved : servedCheck h i s w.isSome with
      | some x => simp [hexist, habsent, hserved] at hnone
      | none => simp

/-- A write by a command that reaches an object that is served and awake. -/
theorem writeBy_awake {h : Hub} {src : Src} {i s : Nat} {bs : List Byte} (m : List Host.Cell) (hcarrier : carrierServed h src.ctx = true)
    (hearly : earlyCheck h i s (some bs) none = none) (hawake : sleepingDomain h src.ctx i s = none) :
    writeBy m h src i s bs = serve m h src i s (some bs) none (.cmd src) := by
  simp only [writeBy, hcarrier, if_true, access, earlyCheck_ahead hearly, hawake]

theorem serve_refused {h : Hub} {src : Src} {i s : Nat} {bs : List Byte} {a : Abort} (m : List Host.Cell)
    (hcheck : writeCheck h src i s (posOf h src.ctx i) bs = .error a) :
    serve m h src i s (some bs) none (.cmd src) = send h (.answer src (.abort a)) := by
  simp only [serve, dictWrite, hcheck, deliver]

/-- A hub without a twin mirrors nothing. -/
theorem mirrorsNow_alone {h : Hub} (ht : getN h Obj.TW_STATE = 0) (i s pos : Nat) (r : Row) (v : Val) : mirrorsNow h i s pos r v = false := by
  simp [mirrorsNow, ht]

theorem serve_accepted {h : Hub} {src : Src} {i s : Nat} {bs : List Byte} {r : Row} {v : Val} (m : List Host.Cell)
    (ht : getN h Obj.TW_STATE = 0) (hcheck : writeCheck h src i s (posOf h src.ctx i) bs = .ok (r, v)) :
    serve m h src i s (some bs) none (.cmd src)
      = send (perform m h src i s (posOf h src.ctx i) r v).2 (.answer src (perform m h src i s (posOf h src.ctx i) r v).1) := by
  simp only [serve, dictWrite, hcheck, mirrorsNow_alone ht, Bool.false_and, Bool.false_eq_true, if_false, deliver]

/-- Settles O13: a refused write is answered and nothing else. -/
theorem refusedWriteOnlyAnswers : Obligations.RefusedWriteOnlyAnswers := by
  intro s src i sub bs a hq hwf hcarrier hearly hawake hcheck
  have hruns : runsAs (.objectWrite src i sub bs) (fun m h => writeBy m h src i sub bs) := runsAs_of _ _ (fun _ => rfl)
  exact exec_quiet_to hruns hwf hq ((writeBy_awake s.mem hcarrier hearly hawake).trans (serve_refused s.mem hcheck)) rfl

/-- Settles O14: an accepted write is performed and answered. -/
theorem acceptedWriteIsPerformed : Obligations.AcceptedWriteIsPerformed := by
  intro s src i sub bs r v hq hwf hcarrier hearly hawake hcheck
  have hruns : runsAs (.objectWrite src i sub bs) (fun m h => writeBy m h src i sub bs) := runsAs_of _ _ (fun _ => rfl)
  refine (hruns hwf s (quiet_powered hq)).trans (congrArg Host.Outcome.next (runOn_congr ?_))
  exact (writeBy_awake s.mem hcarrier hearly hawake).trans (serve_accepted s.mem (quiet_noTwin hq) hcheck)

/-! An idle switch -/

theorem waitingCells_idle {h : Hub} (hin : h.grate.ingress = []) (p : Nat) : waitingCells h p = [] := by
  simp [waitingCells, hin, mget, mget?]

theorem stagerFull_idle {h : Hub} (hin : h.grate.ingress = []) (p : Nat) : stagerFull h p = false := by
  have hroom : 0 < stagerSize p := by
    unfold stagerSize
    split <;> decide
  simpa [stagerFull, waitingCells_idle hin, Nat.pos_iff_ne_zero] using hroom

theorem mget_stagers_idle {h : Hub} (hin : h.grate.ingress = []) (p : Nat) : mget (stagers h) [] p = [] := by
  have hnone : stagers h = (livePorts h).map (fun p => (p, [])) :=
    List.map_congr_left (fun p _ => by rw [waitingCells_idle hin, List.take_nil])
  rw [hnone, mget, mget?_map_keys (livePorts h) (fun _ => []) p]
  split <;> rfl

theorem readyCell_nil (h : Hub) (s : Nat) : readyCell h [] s = none := by
  unfold readyCell
  split <;> rfl

/-- Write windows that have found no ready cell. -/
def wroteNothing (h : Hub) (w : WriteStep) : Prop := w.hub = h ∧ ∀ p, mget w.st [] p = []

theorem ownedWrite_idle {h : Hub} {w : WriteStep} (hw : wroteNothing h w) (t s : Nat) : wroteNothing h (ownedWrite t w s) := by
  obtain ⟨hhub, hst⟩ := hw
  unfold ownedWrite
  simp only [hst, readyCell_nil]
  split
  · exact ⟨hhub, hst⟩
  · exact ⟨hhub, hst⟩

theorem fillWrite_idle {h : Hub} {w : WriteStep} (hw : wroteNothing h w) (s : Nat) : wroteNothing h (fillWrite w s) := by
  obtain ⟨hhub, hst⟩ := hw
  unfold fillWrite
  simp only [hst, readyCell_nil, Option.isSome_none, Bool.and_false]
  split
  · exact ⟨hhub, hst⟩
  · rw [List.find?_eq_none.2 (fun _ _ => Bool.false_ne_true)]
    exact ⟨hhub, hst⟩

theorem writeWindows_idle {h : Hub} (hin : h.grate.ingress = []) : writeWindows h = h := by
  have hfull : forEach (livePorts h) h (fun h p => if stagerFull h p then bump h (Obj.STAGER_FULL_STEPS p) else h) = h :=
    forEach_same _ _ _ (fun p _ => if_neg (by rw [stagerFull_idle hin]; exact Bool.false_ne_true))
  have howned : wroteNothing h ((List.range 32).foldl (ownedWrite h.grate.t) ⟨h, stagers h, [], []⟩) :=
    List.foldlRecOn _ _ ⟨rfl, mget_stagers_idle hin⟩ (fun w hw s _ => ownedWrite_idle hw _ s)
  unfold writeWindows
  simp only [hfull]
  split
  · exact (List.foldlRecOn (motive := wroteNothing h) _ fillWrite howned (fun w hw s _ => fillWrite_idle hw s)).1
  · exact howned.1

theorem oldestIn_idle {h : Hub} (hwin : h.grate.win = []) (p s : Nat) : oldestIn h p s = none := by
  unfold oldestIn
  split
  · rfl
  · simp [hwin, mget, mget?]

theorem ownedRead_idle {h : Hub} (hwin : h.grate.win = []) (m : List Host.Cell) (t : Nat) (ecc : List EccError) {w : ReadStep}
    (hw : w.hub = h) (s : Nat) : (ownedRead m t ecc w s).hub = h := by
  unfold ownedRead
  simp only [hw, oldestIn_idle hwin]
  split
  · exact hw
  · rfl

theorem fillRead_idle {h : Hub} (hwin : h.grate.win = []) (m : List Host.Cell) (ecc : List EccError) {w : ReadStep}
    (hw : w.hub = h) (s : Nat) : (fillRead m ecc w s).hub = h := by
  unfold fillRead
  simp only [hw, oldestIn_idle hwin, Option.isSome_none, Bool.and_false]
  split
  · exact hw
  · rw [List.find?_eq_none.2 (fun _ _ => Bool.false_ne_true)]
    exact hw

theorem readWindows_idle {h : Hub} (hwin : h.grate.win = []) (m : List Host.Cell) (ecc : List EccError) : readWindows m h ecc = h := by
  have howned : ((List.range 32).foldl (ownedRead m h.grate.t ecc) ⟨h, [], []⟩).hub = h :=
    List.foldlRecOn (motive := fun w : ReadStep => w.hub = h) (List.range 32) (ownedRead m h.grate.t ecc) rfl
      (fun w hw s _ => ownedRead_idle hwin m _ ecc hw s)
  unfold readWindows
  dsimp only
  split
  · exact List.foldlRecOn (motive := fun w : ReadStep => w.hub = h) _ (fillRead m ecc) howned (fun w hw s _ => fillRead_idle hwin m ecc hw s)
  · exact howned

theorem deliverLoop_idle {h : Hub} (hwin : h.grate.win = []) (p n : Nat) (bad : Bool) : deliverLoop p bad n h = h := by
  have hnone : mget h.grate.win [] p = [] := by simp [hwin, mget, mget?]
  cases n with
  | zero => rfl
  | succ n => simp only [deliverLoop, hnone]

theorem grateStep_idle {h : Hub} (m : List Host.Cell) (x : StepFaults) (hin : h.grate.ingress = []) (hwin : h.grate.win = [])
    (hheld : withheld h = []) : grateStep m h x = setGrate (bump h Obj.STEPS) (fun g => { g with t := (g.t + 1) % 32 }) := by
  have hloop : forEach (livePorts (bump h Obj.STEPS)) (bump h Obj.STEPS) (fun h p => deliverLoop p (x.seqBad.contains p) 64 h)
      = bump h Obj.STEPS := forEach_same _ _ _ (fun p _ => deliverLoop_idle (h := bump h Obj.STEPS) hwin p 64 _)
  have hheld' : withheld (setGrate (bump h Obj.STEPS) (fun g => { g with t := (g.t + 1) % 32 })) = [] := hheld
  unfold grateStep
  simp only [writeWindows_idle hin, readWindows_idle hwin, hloop, hheld']
  rfl

/-- Settles O22: no stager has a cell to write, no window one to read or to deliver, and no port waits for room. -/
theorem grateStepOfAnIdleSwitch : Obligations.GrateStepOfAnIdleSwitch := by
  intro s hq _ hin hwin hheld
  refine exec_quiet_to (runsAs_of (.grateStep {}) (fun m h => grateStep m h {}) (fun _ => rfl)) (by decide) hq
    (grateStep_idle s.mem {} hin hwin hheld) ?_
  exact watched_bump (h := s.hub) (k := Obj.STEPS) (by decide)

end Sys2Proof.Machine
end
